-- ==== Sys2Proof/Word.lean ====
section
/-!
DEFINITION. The two unsigned widths the frame layouts use (12_frame_and_record_layouts.md, R182), a byte and a
two-byte field, and the bits of a character on the line (R13). Everything else the station holds is a count, a level or a name, and is no bit vector.
-/

namespace Sys2Proof

/-- One byte of a frame or of the settings image. -/
abbrev Byte := BitVec 8

/-- A two-byte field of a frame body, sent high byte first (R182). -/
abbrev Word := BitVec 16

/-- The 11 bits of a character, bit 0 the first on the line: start bit, eight data bits, parity bit, stop bit (R13). A bit
that is 1 stands at the idle level (PRESUMED, log entry 38). -/
abbrev LineCharacter := BitVec 11

end Sys2Proof
end

