-- ==== Sys2Proof/Syntax.lean ====
section
/-!
DEFINITION. The commands of the station: one constructor per row of spec/opcode_table.json, in the table's order.
The table gives no operand; each command carries what the rules give the event it stands for (DESIGN CHOICE, safe,
log entry 1). A message carries its source and destination and its body's fields as R183 and R184 lay them out.
-/

namespace Sys2Proof

/-- The kind of teaching of a session (R33), coded 0 to 3 in this order (R186). -/
inductive Mode where
  | lecture | seminar | exam | screen
deriving DecidableEq, Repr

/-- The scope of a SESSION CANCEL (R183). -/
inductive Scope where
  | occurrence | series
deriving DecidableEq, Repr

/-- The outer beam A and the inner beam B of a door (R72). -/
inductive Beam where
  | a | b
deriving DecidableEq, Repr

/-- The two end limits of a blind drive (R150). -/
inductive Limit where
  | openEnd | closedEnd
deriving DecidableEq, Repr

/-- The commands. The number of a door, group, drive or presence input counts from 1, as the manual does. -/
inductive Instr where
  /-- Power is applied (R2). -/
  | powerOn
  /-- The 48 bytes of the settings memory have arrived (R2, R4). -/
  | readCompletion (image : Vector Byte 48)
  /-- The 1000 ms read timer expires (R2). -/
  | readTimerExpiry
  /-- Power is removed (R26). -/
  | powerLoss
  /-- A character is seen on the line, with the bits it shows there (R13, R14, R23). -/
  | lineCharacter (bits : LineCharacter)
  /-- The 2 ms quiet timer expires (R13). -/
  | quietEvent
  /-- The collision backoff timer expires (R24). -/
  | busBackoffExpiry
  /-- A second of the time base passes (R29). -/
  | clockSecond
  /-- A TIME MARK is taken (R30 to R32). -/
  | timeMark (source dest : Byte) (minute : Word) (second : Byte)
  /-- A SESSION OFFER arrives (R36). -/
  | sessionOffer (source dest : Byte) (id start stop : Word) (mode : Mode) (weekly report : Bool) (expected : Word) (lead : Byte)
  /-- A SESSION AMEND arrives (R36). -/
  | sessionAmend (source dest : Byte) (id : Word) (stop expected : Option Word) (mode : Option Mode) (lead : Option Byte)
  /-- A SESSION CANCEL arrives (R36). -/
  | sessionCancel (source dest : Byte) (id : Word) (scope : Scope)
  /-- The timed merge ends (R49). -/
  | mergeCompletion
  /-- A beam of a door is broken (R73). -/
  | beamBreak (door : Nat) (beam : Beam)
  /-- A beam of a door clears (R73). -/
  | beamClear (door : Nat) (beam : Beam)
  /-- A door's 6 s block timer expires (R76). -/
  | blockTimerExpiry (door : Nat)
  /-- A pulse from one of the presence inputs (R80). -/
  | motionPulse (input : Nat)
  /-- The presence quiet timer expires (R82). -/
  | quietTimerExpiry
  /-- A CLAIM is taken by the Peer Table (R93). -/
  | claim (source dest trunk : Byte) (demand minimum : Word) (claimClass : Byte) (withdraw : Bool)
  /-- A SUN READING is taken by the Peer Table (R94). -/
  | sunReading (source dest facade glare klux : Byte)
  /-- A FEEDER START is taken by the Peer Table (R95); `arrival` is its arrival time on the time base, in ms. -/
  | feederStart (source dest facade count duration : Byte) (arrival : Nat)
  /-- A FEEDER END is taken by the Peer Table (R96). -/
  | feederEnd (source dest facade count : Byte)
  /-- The 2 s sweep timer expires (R98). -/
  | sweepTimerExpiry
  /-- The guard expiry timer of a peer's feeder part expires (R97). -/
  | guardExpiry (peer : Byte)
  /-- A CO2 reading (R104). -/
  | co2Reading (ppm : Nat)
  /-- The 15 min CO2 loss timer expires (R105). -/
  | co2LossTimerExpiry
  /-- The 2 s rate window expires (R114). -/
  | rateWindowExpiry
  /-- The 30 s refresh timer expires (R115). -/
  | claimRefreshExpiry
  /-- A damper feedback event (R120). -/
  | damperFeedback (permille : Nat)
  /-- The 90 s damper fault timer expires (R120). -/
  | damperFaultTimerExpiry
  /-- The 10 min shortfall timer expires (R121). -/
  | shortfallTimerExpiry
  /-- A photosensor reading (R131). -/
  | photosensorReading (lux : Nat)
  /-- The 60 s photosensor loss timer expires (R131). -/
  | photosensorLossTimerExpiry
  /-- The 10 s harvest timer expires (R132). -/
  | harvestTimerExpiry
  /-- A fading group moves by one permille (R130). -/
  | fadeStep (group : Nat)
  /-- The 60 s vacancy warning timer expires (R135). -/
  | vacancyWarningExpiry
  /-- The 10 s release timer of the harvest hold expires (R133). -/
  | harvestHoldReleaseExpiry
  /-- A wall switch is turned (R137). -/
  | wallSwitch (group : Nat) (on : Bool)
  /-- A reading from the own sun sensor (R143). -/
  | ownSunReading (glare klux : Nat)
  /-- The 120 s own reading age timer expires (R143). -/
  | ownReadingAgeExpiry
  /-- The 60 s sun send timer expires (R144). -/
  | sunSendTimerExpiry
  /-- The 15 min glare hold timer expires (R146). -/
  | glareHoldTimerExpiry
  /-- The 10 min dwell timer expires (R149). -/
  | dwellTimerExpiry
  /-- The 2 s settle window closes (R158). -/
  | settleWindowExpiry
  /-- The feeder backoff timer of the start group that holds this drive expires (R159). -/
  | feederBackoffExpiry (drive : Nat)
  /-- A limit input changes level (R150, R152). -/
  | limitInput (drive : Nat) (limit : Limit) (active : Bool)
  /-- The run timer of an INTERMEDIATE run expires (R151). -/
  | runTimerExpiry (drive : Nat)
  /-- The watchdog of a REFERENCE or END run expires (R152). -/
  | runWatchdogExpiry (drive : Nat)
  /-- The LIGHT+ key (R169). -/
  | lightPlus
  /-- The LIGHT− key (R169). -/
  | lightMinus
  /-- The BLIND UP key (R170). -/
  | blindUp
  /-- The BLIND DOWN key (R170). -/
  | blindDown
  /-- The AIR+ key (R171). -/
  | airPlus
  /-- The RESUME key (R173). -/
  | resumeKey
  /-- The 2 s blink timer expires (R166). -/
  | blinkTimerExpiry
  /-- The raw level of the emergency line changes (R175). -/
  | emergencyLineChange (asserted : Bool)
  /-- The 50 ms debounce timer expires (R175). -/
  | debounceTimerExpiry
  /-- A STATUS REQUEST is taken by the Alert Unit (R179). -/
  | statusRequest (source dest : Byte)
  /-- A SERVICE RESTART is accepted (R27, R180). -/
  | serviceRestart (source dest : Byte)
  /-- A SERVICE CLEAR is accepted (R181). -/
  | serviceClear (source dest : Byte)
  /-- The time of a sent character passes with nothing read back (R23). -/
  | characterNotReadBack
deriving DecidableEq, Repr

end Sys2Proof
end

