-- ==== Sys2Proof/Decode.lean ====
section
/-!
DEFINITION. No row of spec/opcode_table.json gives bits (98_reader.md counts 61 rows, none with fixed bits), so no
word spells a command. Commands that arrive as frames on the line are read in Sys2Proof/Machine/Frames.lean (R17).
-/

namespace Sys2Proof

/-- The command a word spells by the table's bits: none, since no row has bits. -/
def decodeTableWord (_nbits _w : Nat) : Option Instr := none

end Sys2Proof
end

