-- ==== Sys2Proof/Config.lean ====
section
/-!
DEFINITION. What the manual leaves to chance: one free value per draw. Nothing in the model or its proofs can
evaluate a draw; every rule that uses one keeps the bound the rule states.
-/

namespace Sys2Proof.Config

/-- DESIGN CHOICE (safe; log entries 9 and 10). The `n`-th free draw. R24 chooses the backoff slots at random and
R38 leaves the order of the RESUME frames open; both reduce a draw to the range the rule allows. -/
opaque draw : Nat → Nat

end Sys2Proof.Config
end

