-- ==== Sys2Proof/Machine/State.lean ====
section
/-!
DEFINITION. Everything the station holds, as plain data, block by block as 00_scope.md lists the blocks, the levels of
the field lines, and the model's own queue of commands. `State.reset` is the station without power (log entry 2).
-/

namespace Sys2Proof.Machine

/-- The spec names no condition in which the station stops, so no fault exists (safe). -/
inductive Fault where
deriving DecidableEq, Repr

/-- Why a command has no meaning. -/
inductive Refusal where
  /-- Raised by `exec` for a row of the table the model gives no meaning; no row is left so (safe). -/
  | notModelled (mnemonic : String)
deriving DecidableEq, Repr

/-- A timer: stopped, or running to a due time on the station's time base, in milliseconds. -/
abbrev Timer := Option Nat

/-! ### Settings (R1, R5, R7) -/

/-- The settled record of one luminaire group (R1). -/
structure GroupSetting where
  window : Bool
  handSelect : Bool
deriving DecidableEq, Repr

/-- The settled values: the clamped image in NORMAL, the fallback value set in FALLBACK (R6). -/
structure Settings where
  trunk : Nat
  trunkCapacity : Nat
  facade : Nat
  sunSensor : Bool
  feederLimit : Nat
  area : Nat
  areaRate : Nat
  personRate : Nat
  capacity : Nat
  maxFlow : Nat
  setpoint : Nat
  doors : Nat
  groups : List GroupSetting
  travel : List Nat
  vacancyHold : Nat
  graceMinutes : Nat
  park : Nat
  mask : BitVec 12
deriving DecidableEq, Repr

/-- The fallback value set of R7. -/
def Settings.fallback : Settings where
  trunk := 0
  trunkCapacity := 100
  facade := 0
  sunSensor := false
  feederLimit := 1
  area := 10
  areaRate := 0
  personRate := 50
  capacity := 400
  maxFlow := 50
  setpoint := 1400
  doors := 0
  groups := List.replicate 6 { window := false, handSelect := true }
  travel := []
  vacancyHold := 15
  graceMinutes := 15
  park := 0
  mask := 0

/-- The Loader's state (R2): OFF is the station without power. -/
inductive Phase where
  | off | reading | normal | fallback
deriving DecidableEq, Repr

/-- The Settings Loader (01_start_up_and_station_settings.md). -/
structure Loader where
  phase : Phase
  readTimer : Timer
  address : Option Byte
  settings : Settings
deriving DecidableEq, Repr

/-! ### Field lines -/

/-- The levels of one door's beams; true is BROKEN (R72). -/
structure BeamLevels where
  a : Bool
  b : Bool
deriving DecidableEq, Repr

/-- The levels of one drive's limit inputs; true is ACTIVE (R150). -/
structure LimitLevels where
  openEnd : Bool
  closedEnd : Bool
deriving DecidableEq, Repr

/-- The levels the field lines show, whether or not any block takes them (R2, R78, R103, R127, R150, R175). -/
structure Lines where
  beams : List BeamLevels
  switches : List Bool
  limits : List LimitLevels
  damper : Nat
  emergency : Bool
deriving DecidableEq, Repr

/-! ### Bus Port (02_the_room_bus.md) -/

/-- The 17 kinds of frame (R182). -/
inductive Kind where
  | timeMark | sessionOffer | sessionAmend | sessionCancel | hold | resume | outcome | sessionReport | claim
  | sunReading | feederStart | feederEnd | statusRequest | statusReply | identity | serviceRestart | serviceClear
deriving DecidableEq, Repr

/-- A frame a block offers (R18). `tag` is the model's own mark, by which a report names its FEEDER START (log entry 23). -/
structure Frame where
  kind : Kind
  dest : Byte
  body : List Byte
  tag : Nat
deriving DecidableEq, Repr

/-- The receiver (R14). -/
inductive Receiver where
  | listen | hunt
deriving DecidableEq, Repr

/-- The line state of the quiet detector (R13). -/
inductive LineState where
  | busy | quiet
deriving DecidableEq, Repr

/-- A backoff (R24): its slots chosen and waiting for the first quiet event, its timer running, or expired on a BUSY line. -/
inductive Backoff where
  | chosen (slots : Nat)
  | running (due : Nat)
  | elapsed
deriving DecidableEq, Repr

/-- The transmitter, with the frame in transmission (R22). `next` counts the characters read back equal. -/
inductive Transmitter where
  | idle
  | sending (frame : Frame) (next : Nat)
  | backingOff (frame : Frame) (wait : Backoff)
deriving DecidableEq, Repr

/-- The Bus Port (R26). The queue is in age order, oldest first. -/
structure BusPort where
  receiver : Receiver
  collected : List Byte
  line : LineState
  quietTimer : Timer
  queue : List Frame
  transmitter : Transmitter
  attempts : Nat
  hold : Bool
deriving DecidableEq, Repr

/-! ### Week Clock and Timetable Intake (03_week_clock_and_session_list.md) -/

/-- The Week Clock (R28); `running` is SET. -/
structure WeekClock where
  running : Bool
  minute : Nat
  second : Nat
  tick : Timer
deriving DecidableEq, Repr

/-- What an item asks for, with the values as they arrived (R35, R183). -/
inductive Request where
  | offer (start stop : Nat) (mode : Mode) (weekly report : Bool) (expected lead : Nat)
  | amend (stop expected : Option Nat) (mode : Option Mode) (lead : Option Nat)
  | cancel (scope : Scope)
deriving DecidableEq, Repr

/-- One item of the intake (R36). -/
structure Item where
  sender : Byte
  id : Nat
  request : Request
deriving DecidableEq, Repr

/-- The kind of an item (R186). -/
inductive ItemKind where
  | offer | amend | cancel
deriving DecidableEq, Repr

/-- The results of R186, 1 to 11 in this order. -/
inductive Verdict where
  | accepted | acceptedClamped | badTimes | duplicateId | overlap | listFull | unknownId | amendLimit
  | nothingToAmend | intakeFull | notConfigured
deriving DecidableEq, Repr

/-- One half of the outcome pair (R50). -/
structure OutcomeRecord where
  id : Nat
  kind : ItemKind
  verdict : Verdict
deriving DecidableEq, Repr

/-- What the Week Clock tells the Session Engine (R29, R32). A jump carries its old time, its new time and its direction. -/
inductive ClockEvent where
  | minute (m : Nat)
  | jump (oldMinute oldSecond newMinute newSecond : Nat) (forward : Bool)
deriving DecidableEq, Repr

/-- A merge in flight (R39). -/
structure Merge where
  item : Item
  due : Nat
deriving DecidableEq, Repr

/-- The Timetable Intake (R36, R37, R39, R40, R50). -/
structure Intake where
  queue : List Item
  merge : Option Merge
  heldEvents : List ClockEvent
  heldSenders : List Byte
  current : Option OutcomeRecord
  previous : Option OutcomeRecord
deriving DecidableEq, Repr

/-! ### Session Engine (04_session_lifecycle_and_room_regime.md) -/

/-- The states of an entry (R33). -/
inductive EntryState where
  | pending | precondition | active | dormant
deriving DecidableEq, Repr

/-- A session entry (R33), with its carried mark (R52). `stop` is the end minute. -/
structure Entry where
  id : Nat
  origin : Byte
  start : Nat
  stop : Nat
  mode : Mode
  expected : Nat
  lead : Nat
  weekly : Bool
  report : Bool
  skip : Bool
  amendments : Nat
  streak : Nat
  state : EntryState
  seen : Bool
  grace : Option Nat
  peak : Nat
  occupied : Nat
  shortfall : Nat
  carried : Bool
deriving DecidableEq, Repr

/-- The room regime (R52), coded STANDBY 0, PREPARE 1, IN_SESSION 2 (R186). -/
inductive Regime where
  | standby | prepare | inSession
deriving DecidableEq, Repr

/-- The Session Engine (R34, R52). -/
structure SessionEngine where
  entries : List Entry
  regime : Regime
  mode : Option Mode
  preparing : Option Nat
  preparingHead : Nat
  lastMinute : Option Nat
  catchUp : Bool
deriving DecidableEq, Repr

/-! ### Occupancy Counter (05_occupancy_counting.md) -/

/-- The states of a door decoder (R72). -/
inductive DoorState where
  | clear | outer | inner | spanIn | leavingIn | spanOut | leavingOut | blocked
deriving DecidableEq, Repr

/-- A door decoder (R72, R75). -/
structure Door where
  state : DoorState
  beams : BeamLevels
  blockTimer : Timer
deriving DecidableEq, Repr

/-- The Occupancy Counter (R78, R79, R82); `count` is N. -/
structure Counter where
  doors : List Door
  count : Nat
  vacant : Bool
  quietTimer : Timer
deriving DecidableEq, Repr

/-! ### Peer Table (06_peer_table.md) -/

/-- D, M and class: a claim part (R89), or the claim record of the Air Controller (R103). -/
structure ClaimFigures where
  demand : Nat
  minimum : Nat
  claimClass : Nat
deriving DecidableEq, Repr

/-- A feeder part: the drives running and the guard expiry (R89), the latter in ms of the time base. -/
structure FeederPart where
  drives : Nat
  guard : Nat
deriving DecidableEq, Repr

/-- An entry of the Peer Table (R89). -/
structure Peer where
  address : Byte
  age : Nat
  claim : Option ClaimFigures
  sun : Option Nat
  feeder : Option FeederPart
deriving DecidableEq, Repr

/-- The Peer Table (R89, R90). -/
structure PeerTable where
  slots : List (Option Peer)
  pointer : Nat
  sweepTimer : Timer
deriving DecidableEq, Repr

/-! ### Air Controller (07_fresh_air_demand_and_trunk_sharing.md) -/

/-- An input that may not have read yet, may be live, or may be lost (R103, R127). -/
inductive SensorState where
  | awaiting | live | lost
deriving DecidableEq, Repr

/-- The Air Controller (R103). -/
structure Air where
  co2State : SensorState
  co2 : Nat
  co2Timer : Timer
  count : Nat
  vacant : Bool
  regime : Regime
  mode : Option Mode
  preparingHead : Nat
  boost : Bool
  emergency : Bool
  demand : Nat
  minimum : Nat
  claimClass : Nat
  grant : Nat
  command : Nat
  feedback : Nat
  faultTimer : Timer
  record : Option ClaimFigures
  rateWindow : Timer
  pendingTrigger : Bool
  refreshTimer : Timer
  shortfall : Bool
  shortfallTimer : Timer
  shortfallRecord : Bool
deriving DecidableEq, Repr

/-! ### Light Controller (08_lighting_groups.md) -/

/-- The light scenes (R128). -/
inductive Scene where
  | lecture | seminar | exam | screen | prepare | standby | off
deriving DecidableEq, Repr

/-- A luminaire group (R127). `fade` is the due time of the next step of a fade in flight. -/
structure Group where
  window : Bool
  handSelect : Bool
  switch : Bool
  level : Nat
  target : Nat
  fade : Timer
deriving DecidableEq, Repr

/-- The harvest hold (R133). -/
inductive HarvestHold where
  | off
  | held
  | releasing (due : Nat)
deriving DecidableEq, Repr

/-- The Light Controller (R127). `warning` is the due time of a RUNNING vacancy warning. -/
structure Light where
  groups : List Group
  regime : Regime
  mode : Option Mode
  vacant : Bool
  scene : Scene
  warning : Timer
  hold : HarvestHold
  harvestTimer : Timer
  photoState : SensorState
  reading : Option Nat
  photoTimer : Timer
  offset : Int
  emergency : Bool
deriving DecidableEq, Repr

/-! ### Blind Controller (09_blinds_fa_ade_glare_and_the_feeder_limit.md) -/

/-- The states of a drive (R150), coded 0 to 4 in this order (R186). -/
inductive DriveState where
  | stopped | waitStage | waitFeeder | settling | running
deriving DecidableEq, Repr

/-- The kinds of run (R150). -/
inductive RunKind where
  | reference | endRun | intermediate
deriving DecidableEq, Repr

/-- A planned run (R150, R151): `up` is toward 0, `length` the planned length in tenths of a second. -/
structure Run where
  kind : RunKind
  up : Bool
  goal : Nat
  origin : Option Nat
  length : Nat
deriving DecidableEq, Repr

/-- A blind drive (R150). While RUNNING, `since` is when it entered RUNNING and `due` when its run timer or watchdog expires. -/
structure Drive where
  travel : Nat
  inService : Bool
  streak : Nat
  position : Option Nat
  state : DriveState
  run : Option Run
  since : Nat
  due : Timer
  group : Option Nat
  limits : LimitLevels
deriving DecidableEq, Repr

/-- The start in hand (R142, R156 to R158): its group, its drive count, and the tag of its START or its settle window. -/
inductive StartInHand where
  | nothing
  | awaiting (group drives tag : Nat)
  | window (group drives heldSum lowerSum opened due : Nat)
deriving DecidableEq, Repr

/-- An orphaned start (R157): the drive count of a START that awaits its report, and the START's tag. -/
structure Orphan where
  tag : Nat
  drives : Nat
deriving DecidableEq, Repr

/-- The backoff timer of a start group (R157, R158). -/
structure GroupBackoff where
  group : Nat
  due : Nat
deriving DecidableEq, Repr

/-- An own sun reading (R142). -/
structure SunSample where
  glare : Nat
  klux : Nat
deriving DecidableEq, Repr

/-- The Blind Controller (R142). -/
structure Blind where
  own : Option SunSample
  ageTimer : Timer
  lastSent : Option Nat
  sendTimer : Timer
  glare : Nat
  holdTimer : Timer
  glaring : Bool
  regime : Regime
  mode : Option Mode
  vacant : Bool
  override : Option Nat
  emergency : Bool
  wanted : Nat
  applied : Nat
  dwellTimer : Timer
  latched : Bool
  hand : StartInHand
  orphans : List Orphan
  drives : List Drive
  backoffs : List GroupBackoff
  nextGroup : Nat
  nextTag : Nat
deriving DecidableEq, Repr

/-! ### Override Unit (10_room_panel_and_occupant_override.md) -/

/-- The causes of an end of override, coded 1 to 8 in this order (R172, R186). -/
inductive OverrideCause where
  | bandLight | bandAir | sharedAir | panelResume | boundary | vacancy | emergency | restart
deriving DecidableEq, Repr

/-- The cause record (R174). -/
structure CauseRecord where
  cause : OverrideCause
  value : Int
  minute : Nat
deriving DecidableEq, Repr

/-- The Override Unit (R167). `trapAt` is the model's own: the moment of the last trap, while an end that falls together
with it may still replace its record (R173, log entry 37). -/
structure Panel where
  on : Bool
  offset : Int
  boost : Bool
  target : Option Nat
  record : Option CauseRecord
  trapAt : Option Nat
  blinkTimer : Timer
  regime : Regime
  mode : Option Mode
  vacant : Bool
  emergency : Bool
deriving DecidableEq, Repr

/-! ### Alert Unit (11_emergency_line_alerts_and_status.md) -/

/-- The twelve alerts, numbered 1 to 12 in this order (R177). -/
inductive Alert where
  | emergency | configFallback | damperFault | driveOut | shortfall | co2High | doorBlocked | sunLost | co2Lost
  | peerTableFull | clockUnset | configClamped
deriving DecidableEq, Repr

/-- The Alert Unit (R175, R178). Bit k−1 of `raised` and `mask` is alert k. -/
structure AlertUnit where
  raised : BitVec 12
  mask : BitVec 12
  emergency : Bool
  debounce : Timer
deriving DecidableEq, Repr

/-- The station, its field lines, and the model's own fields (`pending`, `now`, `draws`, `order`). -/
structure State where
  pending : List Instr
  inbox : List Instr
  now : Nat
  draws : Nat
  order : Nat
  lines : Lines
  loader : Loader
  bus : BusPort
  clock : WeekClock
  intake : Intake
  session : SessionEngine
  counter : Counter
  peers : PeerTable
  air : Air
  light : Light
  blind : Blind
  panel : Panel
  alert : AlertUnit
deriving DecidableEq, Repr

/-! ### Reset (log entries 2, 8, 9, 21, 22) -/

def Lines.idle : Lines where
  beams := List.replicate 2 { a := false, b := false }
  switches := List.replicate 6 false
  limits := List.replicate 4 { openEnd := false, closedEnd := false }
  damper := 0
  emergency := false

def Loader.off : Loader := { phase := .off, readTimer := none, address := none, settings := .fallback }

/-- R26, before the quiet timer of the settings-ready notice is started. -/
def BusPort.off : BusPort where
  receiver := .hunt
  collected := []
  line := .busy
  quietTimer := none
  queue := []
  transmitter := .idle
  attempts := 0
  hold := false

/-- R28. -/
def WeekClock.unset : WeekClock := { running := false, minute := 0, second := 0, tick := none }

/-- R36, R37, R39, R42, R50: nothing waits, nothing is held. -/
def Intake.empty : Intake where
  queue := []
  merge := none
  heldEvents := []
  heldSenders := []
  current := none
  previous := none

/-- R52. -/
def SessionEngine.empty : SessionEngine where
  entries := []
  regime := .standby
  mode := none
  preparing := none
  preparingHead := 0
  lastMinute := none
  catchUp := false

/-- R86, before the settings name the doors. -/
def Counter.empty : Counter := { doors := [], count := 0, vacant := false, quietTimer := none }

/-- R90. -/
def PeerTable.empty : PeerTable := { slots := List.replicate 32 none, pointer := 0, sweepTimer := none }

/-- R103, with every timer stopped. -/
def Air.idle : Air where
  co2State := .awaiting
  co2 := 1400
  co2Timer := none
  count := 0
  vacant := false
  regime := .standby
  mode := none
  preparingHead := 0
  boost := false
  emergency := false
  demand := 0
  minimum := 0
  claimClass := 0
  grant := 0
  command := 0
  feedback := 0
  faultTimer := none
  record := none
  rateWindow := none
  pendingTrigger := false
  refreshTimer := none
  shortfall := false
  shortfallTimer := none
  shortfallRecord := false

/-- R127, with every timer stopped. -/
def Light.idle : Light where
  groups := []
  regime := .standby
  mode := none
  vacant := false
  scene := .standby
  warning := none
  hold := .off
  harvestTimer := none
  photoState := .awaiting
  reading := none
  photoTimer := none
  offset := 0
  emergency := false

/-- R142, with every timer stopped. -/
def Blind.idle : Blind where
  own := none
  ageTimer := none
  lastSent := none
  sendTimer := none
  glare := 0
  holdTimer := none
  glaring := false
  regime := .standby
  mode := none
  vacant := false
  override := none
  emergency := false
  wanted := 0
  applied := 0
  dwellTimer := none
  latched := false
  hand := .nothing
  orphans := []
  drives := []
  backoffs := []
  nextGroup := 0
  nextTag := 0

/-- R167. -/
def Panel.idle : Panel where
  on := false
  offset := 0
  boost := false
  target := none
  record := none
  trapAt := none
  blinkTimer := none
  regime := .standby
  mode := none
  vacant := false
  emergency := false

/-- R175, R178. -/
def AlertUnit.clear : AlertUnit := { raised := 0, mask := 0, emergency := false, debounce := none }

/-- The station without power, its field lines idle, no command waiting. -/
def State.reset : State where
  pending := []
  inbox := []
  now := 0
  draws := 0
  order := 0
  lines := .idle
  loader := .off
  bus := .off
  clock := .unset
  intake := .empty
  session := .empty
  counter := .empty
  peers := .empty
  air := .idle
  light := .idle
  blind := .idle
  panel := .idle
  alert := .clear

/-! ### Named updates, one per field -/

def State.setPending (s : State) (v : List Instr) : State := { s with pending := v }
def State.setInbox (s : State) (v : List Instr) : State := { s with inbox := v }
def State.setNow (s : State) (v : Nat) : State := { s with now := v }
def State.setDraws (s : State) (v : Nat) : State := { s with draws := v }
def State.setLines (s : State) (v : Lines) : State := { s with lines := v }
def State.setLoader (s : State) (v : Loader) : State := { s with loader := v }
def State.setBus (s : State) (v : BusPort) : State := { s with bus := v }
def State.setClock (s : State) (v : WeekClock) : State := { s with clock := v }
def State.setIntake (s : State) (v : Intake) : State := { s with intake := v }
def State.setSession (s : State) (v : SessionEngine) : State := { s with session := v }
def State.setCounter (s : State) (v : Counter) : State := { s with counter := v }
def State.setPeers (s : State) (v : PeerTable) : State := { s with peers := v }
def State.setAir (s : State) (v : Air) : State := { s with air := v }
def State.setLight (s : State) (v : Light) : State := { s with light := v }
def State.setBlind (s : State) (v : Blind) : State := { s with blind := v }
def State.setPanel (s : State) (v : Panel) : State := { s with panel := v }
def State.setAlert (s : State) (v : AlertUnit) : State := { s with alert := v }

end Sys2Proof.Machine
end

