-- ==== Sys2Proof/Machine/Ops.lean ====
section
/-!
DEFINITION. Operations every block uses: timers on the station's time base, the gate of a started station, rounding and
clamping (conventions of 00_scope.md), and the order in which blocks take an event they all receive.
-/

namespace Sys2Proof.Machine

/-- The minutes of a week (conventions of 00_scope.md). -/
def weekMinutes : Nat := 10080

/-- The seconds of a week (R31). -/
def weekSeconds : Nat := 604800

/-- `n` seconds in milliseconds. -/
def seconds (n : Nat) : Nat := n * 1000

/-- `n` minutes in milliseconds. -/
def minutes (n : Nat) : Nat := n * 60000

/-- A division "rounded up" (conventions of 00_scope.md). -/
def ceilDiv (a b : Nat) : Nat := (a + b - 1) / b

/-- A value brought to the nearer end of a range it lies outside. -/
def clamp (low high n : Nat) : Nat := max low (min high n)

/-- A signed value held within a range. -/
def clampInt (low high n : Int) : Int := max low (min high n)

/-- A timer started now for `ms` milliseconds. -/
def State.timer (s : State) (ms : Nat) : Timer := some (s.now + ms)

/-- The taking of a timer's expiry: nothing while the timer is stopped. An expiry says that the time base has reached
the timer's due time (DESIGN CHOICE, safe, log entry 4). -/
def State.onExpiry (s : State) (timer : Timer) (effect : State → State) : State :=
  match timer with
  | some due => effect (s.setNow (max s.now due))
  | none => s

/-- The blocks have been started (R6). -/
def State.started (s : State) : Bool :=
  match s.loader.phase with
  | .normal | .fallback => true
  | .off | .reading => false

/-- The station mode is NORMAL (R4). -/
def State.isNormal (s : State) : Bool := s.loader.phase == .normal

/-- An effect only a started station has: before the settings-ready notice events are not taken (R2). -/
def State.whileStarted (s : State) (effect : State → State) : State := if s.started then effect s else s

/-- The effect of one event after another. -/
def forEach {α : Type} (events : List α) (act : α → State → State) (s : State) : State :=
  events.foldl (fun t e => act e t) s

/-- `x` put at place `n` of a list. -/
def insertNth {α : Type} : Nat → α → List α → List α
  | _, x, [] => [x]
  | 0, x, y :: ys => x :: y :: ys
  | n + 1, x, y :: ys => y :: insertNth n x ys

/-- The permutation a number names; every permutation has a number, and 0 names the list as it stands. -/
def permute {α : Type} : Nat → List α → List α
  | _, [] => []
  | n, x :: xs => insertNth (n % (xs.length + 1)) x (permute (n / (xs.length + 1)) xs)

/-- The blocks that take events shared between them (00_scope.md, R6, R85, R176, R180). -/
inductive Block where
  | clock | intake | session | counter | peers | air | light | blind | panel | alert
deriving DecidableEq, Repr

/-- An event several blocks take independently, in an order the spec does not give: the order is the free field
`order` (log entry 8). -/
def fanOut (blocks : List Block) (act : Block → State → State) (s : State) : State :=
  forEach (permute s.order blocks) act s

/-- The ten blocks beside the Loader and the Bus Port, which start at the settings-ready notice (R6) and take a
SERVICE RESTART (R180). -/
def otherBlocks : List Block :=
  [.clock, .intake, .session, .counter, .peers, .air, .light, .blind, .panel, .alert]

/-- A minute lies in the window of `length` minutes that begins at `first`, modulo the week (R35). -/
def inWindow (first length m : Nat) : Bool :=
  (m % weekMinutes + weekMinutes - first % weekMinutes) % weekMinutes < length

end Sys2Proof.Machine
end

