-- ==== Sys2Proof/Machine/Flags.lean ====
section
/-!
DEFINITION. The alert set: raising, clearing, masking and the top alert (R177, R178).
-/

namespace Sys2Proof.Machine

/-- The alert's place in the set, counted from 0: its number less 1 (R177). -/
def Alert.index : Alert → Nat
  | .emergency => 0
  | .configFallback => 1
  | .damperFault => 2
  | .driveOut => 3
  | .shortfall => 4
  | .co2High => 5
  | .doorBlocked => 6
  | .sunLost => 7
  | .co2Lost => 8
  | .peerTableFull => 9
  | .clockUnset => 10
  | .configClamped => 11

/-- The set that holds one alert. -/
def Alert.bit (a : Alert) : BitVec 12 := BitVec.twoPow 12 a.index

/-- The alert is raised in the set, masked or not. -/
def State.isRaised (s : State) (a : Alert) : Bool := s.alert.raised.getLsbD a.index

/-- A raise notice (R178). -/
def raiseAlert (a : Alert) (s : State) : State :=
  s.setAlert { s.alert with raised := s.alert.raised ||| a.bit }

/-- A clear notice (R178). -/
def clearAlert (a : Alert) (s : State) : State :=
  s.setAlert { s.alert with raised := s.alert.raised &&& ~~~a.bit }

/-- A raise notice or a clear notice, as a condition holds or not. -/
def alertIs (a : Alert) (condition : Bool) (s : State) : State :=
  if condition then raiseAlert a s else clearAlert a s

/-- The lowest-numbered alert that is raised and not masked, from 1, or 0 if there is none (R178). -/
def AlertUnit.top (u : AlertUnit) : Nat :=
  match (List.range 12).find? (fun i => u.raised.getLsbD i && !u.mask.getLsbD i) with
  | some i => i + 1
  | none => 0

end Sys2Proof.Machine
end

