-- ==== Sys2Proof/Machine/Operands.lean ====
section
/-!
DEFINITION. How a command's operands are taken: which messages the Bus Port accepts (R16, R17), and the numbered doors,
groups and drives.
-/

namespace Sys2Proof.Machine

/-- The broadcast destination (conventions of 00_scope.md). -/
def broadcast : Byte := 255

/-- A source the Bus Port accepts: 1 to 254 and not the working address (R16). -/
def State.acceptsSource (s : State) (source : Byte) : Bool :=
  1 ≤ source.toNat && source.toNat ≤ 254 && s.loader.address != some source

/-- The destination of a message the Bus Port accepts and routes (R16, R17): the working address, or 255 where the kind
may be broadcast. -/
def State.acceptsDest (s : State) (dest : Byte) (broadcastKind : Bool) : Bool :=
  s.loader.address == some dest || (broadcastKind && dest == broadcast)

/-- A message with this source and destination reaches its owner (R16, R17). The Bus Port is off before the
settings-ready notice (R26). -/
def State.accepts (s : State) (source dest : Byte) (broadcastKind : Bool) : Bool :=
  s.started && s.acceptsSource source && s.acceptsDest dest broadcastKind

/-- The effect of a message that is accepted; any other is dropped (R16, R17). -/
def State.onMessage (s : State) (source dest : Byte) (broadcastKind : Bool) (effect : State → State) : State :=
  if s.accepts source dest broadcastKind then effect s else s

/-- The element a number counts, from 1. -/
def pick? {α : Type} (xs : List α) (number : Nat) : Option α :=
  match number with
  | 0 => none
  | n + 1 => xs[n]?

/-- The list with the element a number counts, from 1, replaced. -/
def put {α : Type} (xs : List α) (number : Nat) (x : α) : List α :=
  match number with
  | 0 => xs
  | n + 1 => xs.set n x

/-- The numbers, from 1, of the elements that satisfy a condition, in order. -/
def numbersOf {α : Type} (xs : List α) (p : α → Bool) : List Nat :=
  ((List.range xs.length).filter (fun i => (xs[i]?.map p).getD false)).map (· + 1)

end Sys2Proof.Machine
end

