-- ==== Sys2Proof/Machine/Frames.lean ====
section
/-!
DEFINITION. Characters and frames on the line: the bits of a character (R13), the check (R3, R12), the layout of a frame (R11, R182), the bodies of the messages the
station takes (R183, R184) and of those it sends (R184), and the code values (R186).
-/

namespace Sys2Proof.Machine

/-! ### Characters (R13) -/

/-- What the receiver makes of a character: received whole, or with a framing error (R13). -/
inductive LineSymbol where
  | whole (value : Byte)
  | framingError
deriving DecidableEq, Repr

/-- The start bit, away from the idle level (log entry 38). -/
def hasStart (bits : LineCharacter) : Bool := !bits.getLsbD 0

/-- The eight data bits, the least significant first on the line (R13). -/
def dataBits (bits : LineCharacter) : Byte := bits.extractLsb' 1 8

/-- The even parity of a byte: the bit that makes the number of ones, its own included, even (R13). -/
def evenParity (b : Byte) : Bool := (List.range 8).foldl (fun parity i => parity ^^ b.getLsbD i) false

/-- The parity bit is right (R13). -/
def parityRight (bits : LineCharacter) : Bool := bits.getLsbD 9 == evenParity (dataBits bits)

/-- The stop bit is at the idle level (R13). -/
def stopIdle (bits : LineCharacter) : Bool := bits.getLsbD 10

/-- A character is received whole, or in error where its stop bit is not at the idle level or its parity bit is wrong (R13). -/
def readCharacter (bits : LineCharacter) : LineSymbol :=
  if stopIdle bits && parityRight bits then .whole (dataBits bits) else .framingError

/-- The bits of a byte as the station sends it: start bit, data with the least significant first, even parity, stop bit
(R13). -/
def characterOf (b : Byte) : LineCharacter := 1#1 ++ BitVec.ofBool (evenParity b) ++ b ++ 0#1

/-! ### The check -/

/-- One bit of the check: shift, and subtract the polynomial x^16+x^12+x^5+1 when a one leaves (R12). -/
def crcBit (c : BitVec 16) : BitVec 16 :=
  if c.getLsbD 15 then (c <<< 1) ^^^ 0x1021#16 else c <<< 1

/-- One byte of the check, most significant bit first (R12). -/
def crcByte (c : BitVec 16) (b : Byte) : BitVec 16 :=
  crcBit (crcBit (crcBit (crcBit (crcBit (crcBit (crcBit (crcBit (c ^^^ (b.setWidth 16 <<< 8)))))))))

/-- The check of a run of bytes, from an initial value of all ones and with no final inversion (R3, R12). -/
def crc (bytes : List Byte) : BitVec 16 := bytes.foldl crcByte 0xFFFF#16

/-- The high byte of a two-byte field. -/
def highByte (w : BitVec 16) : Byte := w.extractLsb' 8 8

/-- The low byte of a two-byte field. -/
def lowByte (w : BitVec 16) : Byte := w.extractLsb' 0 8

/-- A two-byte field from its bytes, high byte first (R182). -/
def wordOf (high low : Byte) : Word := high ++ low

/-- A number as a byte. -/
def byte (n : Nat) : Byte := BitVec.ofNat 8 n

/-- A number as two bytes, high byte first (R182). -/
def twoBytes (n : Nat) : List Byte := [highByte (BitVec.ofNat 16 n), lowByte (BitVec.ofNat 16 n)]

/-- A yes/no field as one bit. -/
def flag (b : Bool) : Nat := if b then 1 else 0

/-! ### Codes -/

/-- The kind codes of R182. -/
def Kind.code : Kind → Byte
  | .timeMark => 0x01
  | .sessionOffer => 0x02
  | .sessionAmend => 0x03
  | .sessionCancel => 0x04
  | .hold => 0x05
  | .resume => 0x06
  | .outcome => 0x07
  | .sessionReport => 0x08
  | .claim => 0x09
  | .sunReading => 0x0A
  | .feederStart => 0x0B
  | .feederEnd => 0x0C
  | .statusRequest => 0x0D
  | .statusReply => 0x0E
  | .identity => 0x0F
  | .serviceRestart => 0x10
  | .serviceClear => 0x11

/-- The mode codes of R186. -/
def modeCode : Mode → Nat
  | .lecture => 0
  | .seminar => 1
  | .exam => 2
  | .screen => 3

/-- A two-bit mode field; every value names a mode (R183). -/
def modeOf (bits : BitVec 2) : Mode :=
  if bits = 0 then .lecture else if bits = 1 then .seminar else if bits = 2 then .exam else .screen

/-- The regime codes of R186. -/
def regimeCode : Regime → Nat
  | .standby => 0
  | .prepare => 1
  | .inSession => 2

/-- The item kind codes of R186. -/
def itemKindCode : ItemKind → Nat
  | .offer => 1
  | .amend => 2
  | .cancel => 3

/-- The result codes of R186. -/
def verdictCode : Verdict → Nat
  | .accepted => 1
  | .acceptedClamped => 2
  | .badTimes => 3
  | .duplicateId => 4
  | .overlap => 5
  | .listFull => 6
  | .unknownId => 7
  | .amendLimit => 8
  | .nothingToAmend => 9
  | .intakeFull => 10
  | .notConfigured => 11

/-- The drive state codes of R186. -/
def driveStateCode : DriveState → Nat
  | .stopped => 0
  | .waitStage => 1
  | .waitFeeder => 2
  | .settling => 3
  | .running => 4

/-- The override cause codes of R186. -/
def overrideCauseCode : OverrideCause → Nat
  | .bandLight => 1
  | .bandAir => 2
  | .sharedAir => 3
  | .panelResume => 4
  | .boundary => 5
  | .vacancy => 6
  | .emergency => 7
  | .restart => 8

/-! ### Frames -/

/-- The characters of a frame before its check: destination, source, kind, body length, body (R11). -/
def coveredBytes (dest source code : Byte) (body : List Byte) : List Byte :=
  [dest, source, code, byte body.length] ++ body

/-- The characters of a frame, closed by its check, high byte first (R11, R12). -/
def closeFrame (covered : List Byte) : List Byte :=
  covered ++ [highByte (crc covered), lowByte (crc covered)]

/-- The characters of a frame the station sends under its working address (R11). -/
def Frame.characters (f : Frame) (source : Byte) : List Byte :=
  closeFrame (coveredBytes f.dest source f.kind.code f.body)

/-- A good frame's fields (R15). -/
structure Received where
  dest : Byte
  source : Byte
  code : Byte
  body : List Byte
deriving DecidableEq, Repr

/-- The judgement of a complete frame (R15): its fields when it passes every test. -/
def judgeFrame (characters : List Byte) : Option Received :=
  match characters with
  | dest :: source :: code :: length :: rest =>
    if 6 ≤ characters.length ∧ length.toNat ≤ 40 ∧ characters.length = 6 + length.toNat
        ∧ closeFrame (characters.take (4 + length.toNat)) = characters then
      some { dest := dest, source := source, code := code, body := rest.take length.toNat }
    else none
  | _ => none

/-! ### Messages the station takes -/

/-- A field an AMEND may lack: its presence bit decides (R183). -/
def presentIf {α : Type} (present : Bool) (v : α) : Option α := if present then some v else none

/-- The command a good frame's kind code and body spell (R17, R182 to R184). None where the code names no kind the
station takes, or the body length is not the kind's. Unassigned bits are ignored (R182). -/
def readMessage (r : Received) (arrival : Nat) : Option Instr :=
  match r.code.toNat, r.body with
  | 0x01, [m1, m0, sec] => some (.timeMark r.source r.dest (wordOf m1 m0) sec)
  | 0x02, [i1, i0, s1, s0, e1, e0, f, h1, h0, lead] =>
    some (.sessionOffer r.source r.dest (wordOf i1 i0) (wordOf s1 s0) (wordOf e1 e0) (modeOf (f.extractLsb' 0 2))
      (f.getLsbD 2) (f.getLsbD 3) (wordOf h1 h0) lead)
  | 0x03, [i1, i0, f, e1, e0, h1, h0, lead] =>
    some (.sessionAmend r.source r.dest (wordOf i1 i0) (presentIf (f.getLsbD 0) (wordOf e1 e0))
      (presentIf (f.getLsbD 1) (wordOf h1 h0)) (presentIf (f.getLsbD 2) (modeOf (f.extractLsb' 4 2)))
      (presentIf (f.getLsbD 3) lead))
  | 0x04, [i1, i0, f] =>
    some (.sessionCancel r.source r.dest (wordOf i1 i0) (if f.getLsbD 0 then .series else .occurrence))
  | 0x09, [trunk, d1, d0, m1, m0, cls, f] =>
    some (.claim r.source r.dest trunk (wordOf d1 d0) (wordOf m1 m0) cls (f.getLsbD 0))
  | 0x0A, [facade, glare, klux] => some (.sunReading r.source r.dest facade glare klux)
  | 0x0B, [facade, count, duration] => some (.feederStart r.source r.dest facade count duration arrival)
  | 0x0C, [facade, count] => some (.feederEnd r.source r.dest facade count)
  | 0x0D, [] => some (.statusRequest r.source r.dest)
  | 0x10, [] => some (.serviceRestart r.source r.dest)
  | 0x11, [] => some (.serviceClear r.source r.dest)
  | _, _ => none

/-- The kinds accepted under the working address or 255; the other kinds the station takes are accepted under the
working address alone (R17). -/
def mayBroadcast : Instr → Bool
  | .timeMark .. | .claim .. | .sunReading .. | .feederStart .. | .feederEnd .. | .statusRequest .. => true
  | _ => false

/-- A complete frame, judged (R15), accepted (R16) and routed (R17): the command its owner will take, or none. -/
def State.route (s : State) (characters : List Byte) : Option Instr :=
  match judgeFrame characters with
  | none => none
  | some r =>
    match readMessage r s.now with
    | none => none
    | some command => if s.accepts r.source r.dest (mayBroadcast command) then some command else none

/-- The kind code and the body that spell a message (R182 to R184); none for a command that is no message. An AMEND's
absent fields are sent as 0. -/
def messageBody : Instr → Option (Byte × Byte × Byte × List Byte)
  | .timeMark source dest minute second =>
    some (dest, source, 0x01, [highByte minute, lowByte minute, second])
  | .sessionOffer source dest id start stop mode weekly report expected lead =>
    some (dest, source, 0x02,
      [highByte id, lowByte id, highByte start, lowByte start, highByte stop, lowByte stop,
       byte (modeCode mode + 4 * flag weekly + 8 * flag report), highByte expected, lowByte expected, lead])
  | .sessionAmend source dest id stop expected mode lead =>
    some (dest, source, 0x03,
      [highByte id, lowByte id,
       byte (flag stop.isSome + 2 * flag expected.isSome + 4 * flag mode.isSome + 8 * flag lead.isSome
         + 16 * (mode.map modeCode).getD 0),
       highByte (stop.getD 0), lowByte (stop.getD 0), highByte (expected.getD 0), lowByte (expected.getD 0),
       lead.getD 0])
  | .sessionCancel source dest id scope =>
    some (dest, source, 0x04, [highByte id, lowByte id, byte (flag (scope == .series))])
  | .claim source dest trunk demand minimum claimClass withdraw =>
    some (dest, source, 0x09,
      [trunk, highByte demand, lowByte demand, highByte minimum, lowByte minimum, claimClass, byte (flag withdraw)])
  | .sunReading source dest facade glare klux => some (dest, source, 0x0A, [facade, glare, klux])
  | .feederStart source dest facade count duration _ => some (dest, source, 0x0B, [facade, count, duration])
  | .feederEnd source dest facade count => some (dest, source, 0x0C, [facade, count])
  | .statusRequest source dest => some (dest, source, 0x0D, [])
  | .serviceRestart source dest => some (dest, source, 0x10, [])
  | .serviceClear source dest => some (dest, source, 0x11, [])
  | _ => none

/-- The characters of the frame that spells a message (R11, R12). -/
def messageCharacters (i : Instr) : Option (List Byte) :=
  (messageBody i).map fun (dest, source, code, body) => closeFrame (coveredBytes dest source code body)

/-! ### Bodies the station sends (R184) -/

/-- HOLD and RESUME: the intake queue depth. -/
def depthBody (depth : Nat) : List Byte := [byte depth]

/-- One half of an OUTCOME; an empty outcome is four bytes of 00h. -/
def outcomeBytes (o : Option OutcomeRecord) : List Byte :=
  match o with
  | none => [0, 0, 0, 0]
  | some r => twoBytes r.id ++ [byte (itemKindCode r.kind), byte (verdictCode r.verdict)]

/-- CLAIM. -/
def claimBody (trunk : Nat) (f : ClaimFigures) (withdraw : Bool) : List Byte :=
  [byte trunk] ++ twoBytes f.demand ++ twoBytes f.minimum ++ [byte f.claimClass, byte (flag withdraw)]

/-- SUN READING. -/
def sunBody (facade : Nat) (r : SunSample) : List Byte := [byte facade, byte r.glare, byte r.klux]

/-- FEEDER START: façade number, drive count, run duration in seconds. -/
def startBody (facade drives duration : Nat) : List Byte := [byte facade, byte drives, byte duration]

/-- FEEDER END: façade number, drive count. -/
def endBody (facade drives : Nat) : List Byte := [byte facade, byte drives]

/-- IDENTITY (R9). -/
def identityBody (address : Byte) (c : Settings) (fallback : Bool) : List Byte :=
  [address, byte c.trunk, byte c.facade,
   byte (128 * flag fallback + 64 * flag c.sunSensor + c.doors),
   byte (16 * c.groups.length + c.travel.length)]

/-- A frame without a tag. -/
def Frame.plain (kind : Kind) (dest : Byte) (body : List Byte) : Frame := { kind := kind, dest := dest, body := body, tag := 0 }

end Sys2Proof.Machine
end

