-- ==== Sys2Proof/Machine/Queue.lean ====
section
/-!
DEFINITION. The transmit queue of the Bus Port: the gate of an offer (R18), classes and the head (R19), replacement (R20),
the full-queue test (R21), and the taking of the head (R22) under the IDENTITY hold (R10).
-/

namespace Sys2Proof.Machine

/-- The class of a kind, 1 the best (R18); the kinds no block offers rank last. -/
def Kind.rank : Kind → Nat
  | .feederStart | .feederEnd => 1
  | .claim => 2
  | .hold | .resume => 3
  | .sunReading => 4
  | .outcome | .sessionReport => 5
  | .statusReply | .identity => 6
  | .timeMark | .sessionOffer | .sessionAmend | .sessionCancel | .statusRequest | .serviceRestart | .serviceClear => 7

/-- How many frames may wait (R19). -/
def queueLimit : Nat := 10

/-- A waiting frame takes the body of an offered one (R20). -/
def replaces (offered waiting : Frame) : Bool :=
  match offered.kind with
  | .claim => waiting.kind == .claim
  | .sunReading => waiting.kind == .sunReading
  | .statusReply => waiting.kind == .statusReply && waiting.dest == offered.dest
  | _ => false

/-- The place of the oldest frame of a class. -/
def oldestOf (rank : Nat) (queue : List Frame) : Option Nat := queue.findIdx? (·.kind.rank == rank)

/-- The place of the newest frame of a class. -/
def newestOf (rank : Nat) (queue : List Frame) : Option Nat :=
  (oldestOf rank queue.reverse).map (fun i => queue.length - 1 - i)

/-- The worst class present, 0 in an empty queue. -/
def worstRank (queue : List Frame) : Nat := queue.foldr (fun f r => max f.kind.rank r) 0

/-- The best class present, 8 in an empty queue. -/
def bestRank (queue : List Frame) : Nat := queue.foldr (fun f r => min f.kind.rank r) 8

/-- A frame that is taken as an offer passes through replacement (R20) and the full-queue test (R21). The answer says
whether the frame, or the one that absorbed it, waits; if not, its owner is told "discarded". An evicted IDENTITY
ends the hold (R10). -/
def BusPort.enqueue (b : BusPort) (f : Frame) : BusPort × Bool :=
  match b.queue.findIdx? (replaces f) with
  | some i => ({ b with queue := b.queue.modify i (fun w => { w with body := f.body }) }, true)
  | none =>
    if b.queue.length < queueLimit then ({ b with queue := b.queue ++ [f] }, true)
    else if worstRank b.queue ≤ f.kind.rank then (b, false)
    else
      match newestOf (worstRank b.queue) b.queue with
      | none => (b, false)
      | some i =>
        ({ b with
            queue := b.queue.eraseIdx i ++ [f]
            hold := b.hold && (b.queue[i]?.map (·.kind)) != some .identity }, true)

/-- The place of the frame that goes next: the held IDENTITY (R10), or the oldest of the best class present (R19). -/
def BusPort.headPlace (b : BusPort) : Option Nat :=
  if b.hold then b.queue.findIdx? (·.kind == .identity) else oldestOf (bestRank b.queue) b.queue

/-- A character has been seen to its stop bit, or has been sent by the station itself: the detector is BUSY, and its quiet
timer starts anew from 2 ms (R13). -/
def BusPort.seeCharacter (b : BusPort) (now : Nat) : BusPort := { b with line := .busy, quietTimer := some (now + 2) }

/-- A character of the station's own stands on the line: the detector is BUSY, and the quiet timer waits for the end of its
stop bit (R13; DEDUCED, log entry 39). -/
def BusPort.drive (b : BusPort) : BusPort := { b with line := .busy, quietTimer := none }

/-- The first character of a frame starts (R22, R24). -/
def BusPort.startFrame (b : BusPort) (f : Frame) : BusPort := { b.drive with transmitter := .sending f 0 }

/-- A frame is being sent (R22). -/
def Transmitter.isSending : Transmitter → Bool
  | .sending .. => true
  | .idle | .backingOff .. => false

/-- The head goes to transmission when the transmitter is IDLE, the line QUIET and the queue not empty (R22). -/
def BusPort.takeHead (b : BusPort) : BusPort :=
  match b.transmitter, b.line, b.headPlace with
  | .idle, .quiet, some i =>
    match b.queue[i]? with
    | some f => { b with queue := b.queue.eraseIdx i, attempts := 0 }.startFrame f
    | none => b
  | _, _, _ => b

/-- The offers a station takes (R18): none without a working address; three kinds in FALLBACK; every kind in NORMAL. -/
def State.takesOffer (s : State) (kind : Kind) : Bool :=
  s.loader.address.isSome &&
    (s.loader.phase == .normal ||
      (s.loader.phase == .fallback && (kind == .identity || kind == .statusReply || kind == .outcome)))

/-- A block offers a frame (R18 to R22). The answer says whether it was taken; if not, its owner is told "discarded". -/
def offerAnswered (f : Frame) (s : State) : State × Bool :=
  if s.takesOffer f.kind then
    let (bus, taken) := s.bus.enqueue f
    (s.setBus bus.takeHead, taken)
  else (s, false)

/-- A block offers a frame and takes no action on the report. -/
def offer (f : Frame) (s : State) : State := (offerAnswered f s).1

/-- An IDENTITY that is admitted sets the hold (R10). -/
def BusPort.admitHeld (b : BusPort) (f : Frame) : BusPort :=
  { (b.enqueue f).1 with hold := (b.enqueue f).1.hold || (b.enqueue f).2 }

/-- The IDENTITY of the station (R9). -/
def State.identity (s : State) (address : Byte) : Frame :=
  Frame.plain .identity broadcast (identityBody address s.loader.settings (s.loader.phase == .fallback))

/-- The Loader queues its IDENTITY, if the station has a working address, and the hold is set (R9, R10). -/
def offerIdentity (s : State) : State :=
  match s.loader.address with
  | none => s
  | some address =>
    if s.takesOffer .identity then s.setBus (s.bus.admitHeld (s.identity address)).takeHead else s

end Sys2Proof.Machine
end

