-- ==== Sys2Proof/Machine/Air.lean ====
section
/-!
DEFINITION. The Air Controller (07_fresh_air_demand_and_trunk_sharing.md): the CO2 input, demand, claim class, CLAIMs,
the grant, the damper and shortfall, and the family of commands it takes.
-/

namespace Sys2Proof.Machine

/-- What the Occupancy Counter tells the blocks with each event (R85): N before the event's changes, and N and the vacant
flag after them. -/
inductive OccupancyKind where
  | entry | exit | motion | vacancyReached | vacancyLeft
deriving DecidableEq, Repr

structure OccupancyEvent where
  kind : OccupancyKind
  before : Nat
  count : Nat
  vacant : Bool
deriving DecidableEq, Repr

/-- A regime notice (R68): the regime, the mode if present, and in PREPARE the preparing headcount. -/
structure RegimeNotice where
  regime : Regime
  mode : Option Mode
  head : Nat
deriving DecidableEq, Repr

/-! ### Demand and minimum -/

/-- The occupants demand provides for, N_eff (R107). -/
def Air.effective (a : Air) : Nat :=
  match a.regime with
  | .prepare => max a.count a.preparingHead
  | .inSession | .standby => a.count

/-- The base need (R108, step 1). -/
def Settings.base (c : Settings) : Nat := ceilDiv (c.area * c.areaRate) 10

/-- The sum of the base and the occupants' need (R108, steps 2 and 3). -/
def Air.sub (c : Settings) (a : Air) : Nat := c.base + ceilDiv (a.effective * c.personRate) 10

/-- The CO2 boost (R108, step 4). -/
def Air.co2Boost (c : Settings) (a : Air) : Nat :=
  if a.co2 ≤ c.setpoint then 0 else min ((a.co2 - c.setpoint) * a.sub c / 1000) (a.sub c)

/-- Setback: STANDBY and vacant (R109). -/
def Air.setback (a : Air) : Bool := a.regime == .standby && a.vacant

/-- The airflow of a room in setback (R109). -/
def Settings.setbackFlow (c : Settings) : Nat := min (ceilDiv c.base 4) c.maxFlow

/-- D by steps 1 to 6 of R108, with the override boost on or off. -/
def Air.demandOutsideSetback (c : Settings) (a : Air) (boost : Bool) : Nat :=
  min (a.sub c + a.co2Boost c + (if boost then a.sub c / 4 else 0)) c.maxFlow

/-- D (R108, R109). -/
def Air.demandNow (c : Settings) (a : Air) : Nat :=
  if a.setback then c.setbackFlow else a.demandOutsideSetback c a.boost

/-- M (R108, R109). -/
def Air.minimumNow (c : Settings) (a : Air) : Nat :=
  if a.setback then c.setbackFlow else min c.base c.maxFlow

/-- The claim class (R111). -/
def claimClassOf (regime : Regime) (mode : Option Mode) : Nat :=
  match regime, mode with
  | .inSession, some .exam => 3
  | .inSession, some .lecture => 2
  | .inSession, some .screen => 2
  | .inSession, some .seminar => 1
  | .inSession, none => 1  -- cannot arise: IN_SESSION carries the ACTIVE entry's mode (R66)
  | .prepare, _ => 1
  | .standby, _ => 0

/-- The current figures D, M and class. -/
def Air.figures (a : Air) : ClaimFigures := { demand := a.demand, minimum := a.minimum, claimClass := a.claimClass }

/-! ### The grant -/

/-- The extra need E of a participant (R117). -/
def ClaimFigures.extraNeed (p : ClaimFigures) : Nat := p.demand - p.minimum

/-- S_k: the extra needs of the participants of a class (R117, step 2). -/
def classNeed (participants : List ClaimFigures) (k : Nat) : Nat :=
  ((participants.filter (·.claimClass == k)).map ClaimFigures.extraNeed).sum

/-- ΣM (R117). -/
def totalMinimum (participants : List ClaimFigures) : Nat := (participants.map ClaimFigures.minimum).sum

/-- The residual a class leaves to those below it (R117, step 2). -/
def residualAfter (residual need : Nat) : Nat := if need ≤ residual then residual - need else 0

/-- The residual class `k` finds: it starts at C_T less ΣM, and the classes are taken in turn from 3 down (R117, step 2). -/
def residualFor (capacity : Nat) (participants : List ClaimFigures) (k : Nat) : Nat :=
  ([3, 2, 1].filter (k < ·)).foldl (fun residual j => residualAfter residual (classNeed participants j))
    (capacity - totalMinimum participants)

/-- A participant's grant (R117). -/
def grantOf (capacity : Nat) (participants : List ClaimFigures) (p : ClaimFigures) : Nat :=
  if capacity < totalMinimum participants then p.minimum * capacity / totalMinimum participants
  else
    let residual := residualFor capacity participants p.claimClass
    let need := classNeed participants p.claimClass
    p.minimum + (if need ≤ residual then p.extraNeed else p.extraNeed * residual / need)

/-- A claim as the claims read answers it: the peer, with its D, M and class (R102). -/
structure PeerClaim where
  peer : Byte
  figures : ClaimFigures
deriving DecidableEq, Repr

/-- The claims read of the Peer Table: every entry that holds a claim part, in slot order (R102). -/
def PeerTable.claims (t : PeerTable) : List PeerClaim :=
  t.slots.filterMap (fun slot => slot.bind (fun p => p.claim.map (fun f => { peer := p.address, figures := f })))

/-- The participants of the station's own view, itself first (R116). -/
def State.participants (s : State) : List ClaimFigures := s.air.figures :: s.peers.claims.map (·.figures)

/-- The own grant (R116, R117). -/
def State.grantNow (s : State) : Nat :=
  if s.loader.settings.trunk = 0 then s.air.demand
  else grantOf s.loader.settings.trunkCapacity s.participants s.air.figures

/-! ### The damper -/

/-- The difference of command and feedback is more than 100 permille (R120). -/
def Air.damperFar (a : Air) : Bool := 100 < (a.command - a.feedback) + (a.feedback - a.command)

/-- The comparison made after every change of the command and at every feedback event (R120). -/
def compareDamper (s : State) : State :=
  if s.air.damperFar then
    match s.air.faultTimer with
    | none => s.setAir { s.air with faultTimer := s.timer (seconds 90) }
    | some _ => s
  else clearAlert .damperFault (s.setAir { s.air with faultTimer := none })

/-- A damper command is set (R119). -/
def setCommand (command : Nat) (s : State) : State :=
  if command = s.air.command then s else compareDamper (s.setAir { s.air with command := command })

/-- The command that passes a grant (R119). -/
def commandFor (c : Settings) (grant : Nat) : Nat := min (ceilDiv (grant * 1000) c.maxFlow) 1000

/-- A grant is set and the damper command follows it (R118, R119). -/
def setGrant (grant : Nat) (s : State) : State :=
  setCommand (commandFor s.loader.settings grant) (s.setAir { s.air with grant := grant })

/-- The grant is recomputed from the view (R118). None is computed while the emergency line is asserted (R123) or in
FALLBACK (R125). -/
def regrant (s : State) : State :=
  if s.air.emergency || !s.isNormal then s else setGrant s.grantNow s

/-! ### Shortfall -/

/-- The shortfall state as g, D and N give it (R121). -/
def Air.shortNow (a : Air) : Bool := a.grant < a.demand && 0 < a.count

/-- The shortfall state is judged (R121, R122). -/
def judgeShortfall (s : State) : State :=
  if s.air.shortNow then
    if s.air.shortfall then s
    else s.setAir { s.air with shortfall := true, shortfallTimer := s.timer (minutes 10), shortfallRecord := true }
  else if s.air.shortfall then
    clearAlert .shortfall (s.setAir { s.air with shortfall := false, shortfallTimer := none })
  else s

/-- The Session Engine's read of the shortfall record, which then takes the state as it stands (R122). -/
def readShortfall (s : State) : Bool × State :=
  (s.air.shortfallRecord, s.setAir { s.air with shortfallRecord := s.air.shortfall })

/-! ### CLAIMs -/

/-- The station sends CLAIM frames: on a trunk and in NORMAL (R112). -/
def State.claims (s : State) : Bool := s.loader.settings.trunk != 0 && s.isNormal

/-- A CLAIM with the current figures is offered: the record takes them, the rate window opens and the refresh timer
restarts (R112). -/
def offerFigures (s : State) : State :=
  let s := s.setAir { s.air with
    record := some s.air.figures
    rateWindow := s.timer (seconds 2)
    refreshTimer := s.timer (seconds 30) }
  offer (Frame.plain .claim broadcast (claimBody s.loader.settings.trunk s.air.figures false)) s

/-- A withdrawal is offered: D 0, M 0, class 0 and the withdraw flag; it opens the rate window and does not change the
record (R123). -/
def offerWithdrawal (s : State) : State :=
  let s := s.setAir { s.air with rateWindow := s.timer (seconds 2) }
  offer (Frame.plain .claim broadcast
    (claimBody s.loader.settings.trunk { demand := 0, minimum := 0, claimClass := 0 } true)) s

/-- The CLAIM a trigger calls for now: a withdrawal while the line is asserted (R123), the current figures otherwise. -/
def offerClaim (s : State) : State := if s.air.emergency then offerWithdrawal s else offerFigures s

/-- A trigger (R114): at once while the rate window is closed, pending while it is open. -/
def triggerClaim (s : State) : State :=
  if s.claims then
    match s.air.rateWindow with
    | none => offerClaim s
    | some _ => s.setAir { s.air with pendingTrigger := true }
  else s

/-- The least change of D that triggers (R113). -/
def demandStep (recorded : Nat) : Nat := max 10 (recorded / 20)

/-- The trigger test (R113). Before any record the figures count as changed (DEDUCED, log entry 20). -/
def Air.triggerTest (a : Air) : Bool :=
  match a.record with
  | none => true
  | some r =>
    a.claimClass != r.claimClass || a.minimum != r.minimum ||
      demandStep r.demand ≤ (a.demand - r.demand) + (r.demand - a.demand)

/-- The test at step 4 of R110, made while the line is released (R113). -/
def testTrigger (s : State) : State :=
  if !s.air.emergency && s.air.triggerTest then triggerClaim s else s

/-! ### Recomputation -/

/-- D, M and the class are recomputed, and the grant, the shortfall state and the trigger test follow (R110). In
FALLBACK they are held at 0 (R125). -/
def recomputeDemand (s : State) : State :=
  if !s.isNormal then s
  else
    let c := s.loader.settings
    let before := s.air.figures
    let s := s.setAir { s.air with
      demand := s.air.demandNow c
      minimum := s.air.minimumNow c
      claimClass := claimClassOf s.air.regime s.air.mode }
    let s := if s.air.figures = before then s else regrant s
    testTrigger (judgeShortfall s)

/-- C changes: CO2_HIGH is judged (R106). -/
def setCo2 (ppm : Nat) (s : State) : State :=
  alertIs .co2High (decide (s.loader.settings.setpoint + 600 ≤ ppm)) (s.setAir { s.air with co2 := ppm })

/-- The boosted demand the Override Unit reads (R110). -/
def State.boostedDemand (s : State) : Nat := s.air.demandOutsideSetback s.loader.settings true

/-! ### Events from other blocks -/

/-- An occupancy event: one that carries a change of N or of the vacant flag recomputes demand (R110). -/
def airOccupancy (e : OccupancyEvent) (s : State) : State :=
  if e.count = s.air.count ∧ e.vacant = s.air.vacant then s
  else recomputeDemand (s.setAir { s.air with count := e.count, vacant := e.vacant })

/-- A regime notice (R110, R111). -/
def airRegime (n : RegimeNotice) (s : State) : State :=
  recomputeDemand (s.setAir { s.air with regime := n.regime, mode := n.mode, preparingHead := n.head })

/-- A boost notice from the Override Unit (R110). -/
def airBoost (on : Bool) (s : State) : State := recomputeDemand (s.setAir { s.air with boost := on })

/-- A claim or table emptied notice from the Peer Table (R118). -/
def airClaimNotice (s : State) : State := if s.isNormal then judgeShortfall (regrant s) else s

/-- The emergency line is asserted (R123). -/
def airAssertion (s : State) : State :=
  let s := s.setAir { s.air with emergency := true, grant := 0, refreshTimer := none }
  triggerClaim (judgeShortfall (setCommand 0 s))

/-- The emergency line is released (R124, R125). -/
def airRelease (s : State) : State :=
  let s := s.setAir { s.air with emergency := false }
  if s.isNormal then triggerClaim (judgeShortfall (regrant s)) else setCommand 500 s

/-- The values of R103 at the settings-ready notice, before demand and grant are computed. -/
def State.airAtStart (s : State) : Air :=
  { Air.idle with
    co2 := s.loader.settings.setpoint
    co2Timer := s.timer (minutes 15)
    emergency := s.alert.emergency
    feedback := s.lines.damper }

/-- D and M are computed from the inputs as they stand; the class stays (R103, R126). -/
def computeDemand (s : State) : State :=
  s.setAir { s.air with demand := s.air.demandNow s.loader.settings, minimum := s.air.minimumNow s.loader.settings }

/-- The start grant and command (R103, R119, R125): from the empty view in NORMAL, 500 in FALLBACK. With the line asserted
the command is 0, and no grant is computed, since R123 has none computed while the line is asserted (DEDUCED, log
entry 35). -/
def startCommand (s : State) : State :=
  if s.air.emergency then s else if s.isNormal then setGrant s.grantNow s else setCommand 500 s

/-- The start at the settings-ready notice (R103, R125). -/
def airStart (s : State) : State :=
  let s := s.setAir s.airAtStart
  if s.isNormal then triggerClaim (judgeShortfall (compareDamper (startCommand (computeDemand s))))
  else compareDamper (startCommand s)

/-- A SERVICE RESTART (R126). -/
def airRestart (s : State) : State :=
  if s.isNormal then triggerClaim (judgeShortfall (regrant (computeDemand s))) else s

/-! ### Commands -/

/-- CO2_READING (R104, R106). -/
def takeCo2 (ppm : Nat) (s : State) : State :=
  let wasLost := s.air.co2State == .lost
  let s := s.setAir { s.air with co2State := .live, co2Timer := s.timer (minutes 15) }
  let s := setCo2 (clamp 300 5000 ppm) s
  recomputeDemand (if wasLost then clearAlert .co2Lost s else s)

def execCo2Reading (ppm : Nat) (s : State) : Host.Outcome State Fault Refusal := .next (s.whileStarted (takeCo2 ppm))

/-- CO2_LOSS_TIMER_EXPIRY (R105, R106). -/
def loseCo2 (s : State) : State :=
  let s := s.setAir { s.air with co2State := .lost, co2Timer := none }
  recomputeDemand (raiseAlert .co2Lost (setCo2 s.loader.settings.setpoint s))

def execCo2LossTimerExpiry (s : State) : Host.Outcome State Fault Refusal :=
  .next (s.whileStarted fun s => s.onExpiry s.air.co2Timer loseCo2)

/-- RATE_WINDOW_EXPIRY (R114, R123, R124). -/
def closeRateWindow (s : State) : State :=
  let pending := s.air.pendingTrigger
  let s := s.setAir { s.air with rateWindow := none, pendingTrigger := false }
  if pending then offerClaim s else s

def execRateWindowExpiry (s : State) : Host.Outcome State Fault Refusal :=
  .next (s.whileStarted fun s => s.onExpiry s.air.rateWindow closeRateWindow)

/-- CLAIM_REFRESH_EXPIRY (R115). -/
def execClaimRefreshExpiry (s : State) : Host.Outcome State Fault Refusal :=
  .next (s.whileStarted fun s => s.onExpiry s.air.refreshTimer offerFigures)

/-- The feedback input moves: the field line shows it, and a started station compares (R120). -/
def takeFeedback (permille : Nat) (s : State) : State :=
  let s := s.setLines { s.lines with damper := permille }
  s.whileStarted fun s => compareDamper (s.setAir { s.air with feedback := permille })

/-- DAMPER_FEEDBACK (R120). -/
def execDamperFeedback (permille : Nat) (s : State) : Host.Outcome State Fault Refusal := .next (takeFeedback permille s)

/-- DAMPER_FAULT_TIMER_EXPIRY (R120). -/
def execDamperFaultTimerExpiry (s : State) : Host.Outcome State Fault Refusal :=
  .next (s.whileStarted fun s => s.onExpiry s.air.faultTimer fun s =>
    raiseAlert .damperFault (s.setAir { s.air with faultTimer := none }))

/-- SHORTFALL_TIMER_EXPIRY (R121). -/
def execShortfallTimerExpiry (s : State) : Host.Outcome State Fault Refusal :=
  .next (s.whileStarted fun s => s.onExpiry s.air.shortfallTimer fun s =>
    raiseAlert .shortfall (s.setAir { s.air with shortfallTimer := none }))

end Sys2Proof.Machine
end

