-- ==== Sys2Proof/Machine/Light.lean ====
section
/-!
DEFINITION. The Light Controller (08_lighting_groups.md): scenes, fades, harvesting, the vacancy warning, outputs, and
the family of commands it takes. It sends nothing on the room bus.
-/

namespace Sys2Proof.Machine

/-! ### Scenes -/

/-- The light scene of a regime, a mode and a vacant flag (R128). -/
def sceneOf (regime : Regime) (mode : Option Mode) (vacant : Bool) : Scene :=
  match regime, mode, vacant with
  | .inSession, some .lecture, _ => .lecture
  | .inSession, some .seminar, _ => .seminar
  | .inSession, some .exam, _ => .exam
  | .inSession, some .screen, _ => .screen
  | .inSession, none, _ => .standby  -- cannot arise: IN_SESSION carries the ACTIVE entry's mode (R66)
  | .prepare, _, false => .prepare
  | .standby, _, false => .standby
  | .prepare, _, true => .off
  | .standby, _, true => .off

/-- The scene's INNER level (R128). -/
def Scene.innerLevel : Scene → Nat
  | .lecture => 800
  | .seminar => 700
  | .exam => 900
  | .screen => 150
  | .prepare => 500
  | .standby => 600
  | .off => 0

/-- The scene's WINDOW lux target (R128). -/
def Scene.luxTarget : Scene → Option Nat
  | .lecture => some 500
  | .seminar => some 400
  | .exam => some 600
  | .screen => some 50
  | .prepare => some 300
  | .standby => some 400
  | .off => none

/-- A lit scene is any scene but OFF (R128). -/
def Scene.lit (sc : Scene) : Bool := sc != .off

/-! ### Fades -/

/-- A fade toward a target starts from the level reached, its first step 5 ms on; a level already there completes it at
once (R129, R130). -/
def Group.fadeTo (g : Group) (target now : Nat) : Group :=
  { g with target := target, fade := if g.level = target then none else some (now + 5) }

/-- The change of the groups that are not hand-select; the others take no scene, fade or level (R137). -/
def Light.mapFollowing (l : Light) (change : Group → Group) : Light :=
  { l with groups := l.groups.map (fun g => if g.handSelect then g else change g) }

/-- Every group that is not hand-select fades to a level (R129, R138). -/
def Light.fadeAll (l : Light) (target now : Nat) : Light := l.mapFollowing (·.fadeTo target now)

/-- A group's fade is stopped at the level reached. -/
def Group.stopFade (g : Group) : Group := { g with fade := none }

/-- A group takes level 0 and target 0 at once (R135, R140). -/
def Group.dark (g : Group) : Group := { g with level := 0, target := 0, fade := none }

/-! ### Scene changes -/

/-- The scene is derived again; a scene already held is no change (R128). While the line is asserted a change is
recorded only (R129). A change to a lit scene ends the warning and starts fades (R129, R135); a change to OFF starts
the warning, with fades stopped (R134). -/
def Light.rescene (l : Light) (now : Nat) : Light :=
  let scene := sceneOf l.regime l.mode l.vacant
  if scene = l.scene then l
  else
    let l := { l with scene := scene }
    if l.emergency then l
    else if scene.lit then ({ l with warning := none }).fadeAll scene.innerLevel now
    else ({ l with warning := some (now + seconds 60) }).mapFollowing Group.stopFade

/-- A change of the Light Controller's own state. -/
def withLight (change : Light → Light) (s : State) : State := s.setLight (change s.light)

/-! ### Events from other blocks -/

/-- A regime notice (R128). -/
def lightRegime (n : RegimeNotice) (s : State) : State :=
  withLight (fun l => ({ l with regime := n.regime, mode := n.mode }).rescene s.now) s

/-- An occupancy event: the scene is derived again when it carries a change of the vacant flag (R128). -/
def lightOccupancy (e : OccupancyEvent) (s : State) : State :=
  if e.vacant = s.light.vacant then s
  else withLight (fun l => ({ l with vacant := e.vacant }).rescene s.now) s

/-- An offset notice from the Override Unit (R136). -/
def lightOffset (offset : Int) (s : State) : State := withLight ({ · with offset := offset }) s

/-- A blind motion started notice (R133). -/
def motionStarted (s : State) : State := withLight ({ · with hold := .held }) s

/-- A blind motion stopped notice (R133). -/
def motionStopped (s : State) : State :=
  withLight (fun l =>
    match l.hold with
    | .held => { l with hold := .releasing (s.now + seconds 10) }
    | .off | .releasing _ => l) s

/-- The emergency line is asserted: fades stop at the level reached and the warning ends (R138). -/
def lightAssertion (s : State) : State :=
  withLight (fun l =>
    { l with emergency := true, warning := none, groups := l.groups.map Group.stopFade }) s

/-- The emergency line is released: each group that is not hand-select takes level 1000 and fades to the scene as derived
now, without a warning (R138). -/
def lightRelease (s : State) : State :=
  withLight (fun l =>
    let scene := sceneOf l.regime l.mode l.vacant
    let l := ({ l with emergency := false, scene := scene }).mapFollowing ({ · with level := 1000 })
    l.fadeAll scene.innerLevel s.now) s

/-- The group records at the settings-ready notice, with the switches as their inputs read (R127). -/
def startGroups (settings : List GroupSetting) (switches : List Bool) : List Group :=
  settings.mapIdx (fun i g =>
    { window := g.window, handSelect := g.handSelect, switch := switches[i]?.getD false, level := 0, target := 0, fade := none })

/-- The start at the settings-ready notice: the STANDBY scene is taken as a scene change from all levels at 0 (R127). -/
def lightStart (s : State) : State :=
  let l : Light := { Light.idle with
    groups := startGroups s.loader.settings.groups s.lines.switches
    harvestTimer := s.timer (seconds 10)
    photoTimer := s.timer (seconds 60)
    emergency := s.alert.emergency }
  s.setLight (if l.emergency then l else l.fadeAll Scene.standby.innerLevel s.now)

/-- The end of the warning by its expiry or by a restart (R135, R140). -/
def Light.goDark (l : Light) : Light := ({ l with warning := none }).mapFollowing Group.dark

/-- A SERVICE RESTART: the harvest hold ends, and a RUNNING warning ends as at its expiry (R140). -/
def lightRestart (s : State) : State :=
  withLight (fun l =>
    let l := { l with hold := .off }
    if l.warning.isSome then l.goDark else l) s

/-! ### Commands -/

/-- PHOTOSENSOR_READING (R131). -/
def takePhoto (lux : Nat) (s : State) : State :=
  withLight ({ · with reading := some (min lux 5000), photoState := .live, photoTimer := s.timer (seconds 60) }) s

def execPhotosensorReading (lux : Nat) (s : State) : Host.Outcome State Fault Refusal :=
  .next (s.whileStarted (takePhoto lux))

/-- The photosensor pin: each WINDOW group that is not hand-select fades to a lit scene's INNER level, whether or not the
emergency line is asserted (R131). -/
def Light.pin (l : Light) (now : Nat) : Light :=
  if l.scene.lit then
    l.mapFollowing (fun g => if g.window then g.fadeTo l.scene.innerLevel now else g)
  else l

/-- PHOTOSENSOR_LOSS_TIMER_EXPIRY (R131). -/
def losePhoto (s : State) : State :=
  withLight (fun l => ({ l with photoState := .lost, photoTimer := none }).pin s.now) s

def execPhotosensorLossTimerExpiry (s : State) : Host.Outcome State Fault Refusal :=
  .next (s.whileStarted fun s => s.onExpiry s.light.photoTimer losePhoto)

/-- The harvest step of an error, in permille: half the error, toward zero, held within −50 and +50 (R132). -/
def harvestStep (lux reading : Nat) : Int := clampInt (-50) 50 (Int.tdiv ((lux : Int) - reading) 2)

/-- One harvest step of a level (R132). -/
def harvested (level lux reading : Nat) : Nat := (clampInt 0 1000 ((level : Int) + harvestStep lux reading)).toNat

/-- A group takes a harvest step at a tick (R132), beside the conditions of the controller. -/
def Group.mayHarvest (g : Group) : Bool := g.window && !g.handSelect && g.fade.isNone

/-- The controller's conditions for a harvest step (R132), with the lux target and the reading it is worked from. -/
def Light.harvestPair (l : Light) : Option (Nat × Nat) :=
  if l.warning.isNone && !l.emergency && l.hold == .off && l.photoState == .live then
    match l.scene.luxTarget, l.reading with
    | some lux, some reading => some (lux, reading)
    | _, _ => none
  else none

/-- HARVEST_TIMER_EXPIRY (R132): the timer runs on with its period of 10 s. -/
def harvestTick (due : Nat) (s : State) : State :=
  let s := withLight ({ · with harvestTimer := some (due + seconds 10) }) s
  match s.light.harvestPair with
  | none => s
  | some (lux, reading) =>
    if s.isNormal then
      withLight (fun l =>
        { l with groups := l.groups.map (fun g =>
            if g.mayHarvest then { g with level := harvested g.level lux reading } else g) }) s
    else s

def execHarvestTimerExpiry (s : State) : Host.Outcome State Fault Refusal :=
  .next (s.whileStarted fun s => s.onExpiry s.light.harvestTimer (harvestTick (s.light.harvestTimer.getD 0)))

/-- One step of a fade: 1 permille toward the target; the fade completes when the level reaches it (R130). -/
def Group.step (g : Group) (due : Nat) : Group :=
  let level := if g.level < g.target then g.level + 1 else if g.target < g.level then g.level - 1 else g.level
  { g with level := level, fade := if level = g.target then none else some (due + 5) }

/-- FADE_STEP (R130). -/
def fadeStep (number : Nat) (s : State) : State :=
  match pick? s.light.groups number with
  | none => s
  | some g => s.onExpiry g.fade (withLight fun l => { l with groups := put l.groups number (g.step (g.fade.getD 0)) })

def execFadeStep (group : Nat) (s : State) : Host.Outcome State Fault Refusal := .next (s.whileStarted (fadeStep group))

/-- VACANCY_WARNING_EXPIRY (R135). -/
def execVacancyWarningExpiry (s : State) : Host.Outcome State Fault Refusal :=
  .next (s.whileStarted fun s => s.onExpiry s.light.warning (withLight Light.goDark))

/-- The due time of a RELEASING harvest hold. -/
def HarvestHold.timer : HarvestHold → Timer
  | .releasing due => some due
  | .off | .held => none

/-- HARVEST_HOLD_RELEASE_EXPIRY (R133). -/
def execHarvestHoldReleaseExpiry (s : State) : Host.Outcome State Fault Refusal :=
  .next (s.whileStarted fun s => s.onExpiry s.light.hold.timer (withLight ({ · with hold := .off })))

/-- A wall switch turns: the field line shows it, and a started station takes it for a hand-select group (R137). -/
def turnSwitch (number : Nat) (on : Bool) (s : State) : State :=
  let s := s.setLines { s.lines with switches := put s.lines.switches number on }
  s.whileStarted (withLight fun l =>
    match pick? l.groups number with
    | none => l
    | some g => if g.handSelect then { l with groups := put l.groups number { g with switch := on } } else l)

/-- WALL_SWITCH (R137). -/
def execWallSwitch (group : Nat) (on : Bool) (s : State) : Host.Outcome State Fault Refusal := .next (turnSwitch group on s)

/-! ### Outputs -/

/-- A group's output (R136): the first case that applies. -/
def Light.output (l : Light) (g : Group) : Nat :=
  if l.emergency then 1000
  else if g.handSelect then (if g.switch then 1000 else 0)
  else if l.warning.isSome then g.level * 3 / 10
  else if l.scene = .off then g.level
  else (clampInt 0 1000 ((g.level : Int) + l.offset)).toNat

end Sys2Proof.Machine
end

