-- ==== Sys2Proof/Machine/Drives.lean ====
section
/-!
DEFINITION. The drives of the Blind Controller (09_blinds_fa_ade_glare_and_the_feeder_limit.md, R150 to R160): planning
and ending runs, the room drive stage, the feeder check, the settle window and the backoff of start groups.
-/

namespace Sys2Proof.Machine

/-! ### Runs -/

/-- A drive needs a run toward a target: its position is UNKNOWN, or more than 3 away (R151). -/
def Drive.needsRun (d : Drive) (target : Nat) : Bool :=
  match d.position with
  | none => true
  | some p => 3 < (p - target) + (target - p)

/-- The watchdog length in tenths of a second, T_f × 125 / 10 rounded up (R152); the planned length of REFERENCE and END
runs (R151). -/
def watchdogTenths (travel : Nat) : Nat := ceilDiv (travel * 125) 10

/-- The run a drive needs toward a target (R151), none when it needs none. -/
def Drive.plan (d : Drive) (target : Nat) : Option Run :=
  match d.position with
  | none => some { kind := .reference, up := true, goal := 0, origin := none, length := watchdogTenths d.travel }
  | some p =>
    if d.needsRun target then
      if target = 0 ∨ target = 100 then
        some { kind := .endRun, up := decide (target < p), goal := target, origin := some p, length := watchdogTenths d.travel }
      else
        some { kind := .intermediate, up := decide (target < p), goal := target, origin := some p,
               length := ceilDiv (((p - target) + (target - p)) * d.travel * 10) 100 }
    else none

/-- The planned duration in whole seconds (R151). -/
def Run.duration (r : Run) : Nat := ceilDiv r.length 10

/-- The change of position after a time run, in tenths, rounded to nearest with a half rounded up (R151). -/
def travelled (travel tenths : Nat) : Nat := (2 * (tenths * 100) + travel * 10) / (2 * (travel * 10))

/-- The position of a run stopped now by a cause other than a limit or its own timer (R151): estimated from the time run
in whole tenths (DEDUCED, log entry 33); a REFERENCE run leaves it UNKNOWN. -/
def Drive.estimate (d : Drive) (now : Nat) : Option Nat :=
  match d.run with
  | none => d.position
  | some r =>
    match r.kind, r.origin with
    | .reference, _ => none
    | _, none => none
    | _, some p =>
      let change := travelled d.travel ((now - d.since) / 100)
      some (if r.up then p - change else min 100 (p + change))

/-- The limit in a run's direction is ACTIVE (R152). -/
def Drive.atLimit (d : Drive) : Bool :=
  match d.run with
  | none => false
  | some r => if r.up then d.limits.openEnd else d.limits.closedEnd

/-- The position at the limit of a run's direction (R152). -/
def Run.limitPosition (r : Run) : Nat := if r.up then 0 else 100

/-! ### The drive records -/

/-- A change of the Blind Controller's own state. -/
def withBlind (change : Blind → Blind) (s : State) : State := s.setBlind (change s.blind)

/-- The numbers of the drives in a state. -/
def Blind.inState (b : Blind) (state : DriveState) : List Nat := numbersOf b.drives (·.state == state)

/-- The numbers of the drives of a start group in a state. -/
def Blind.groupIn (b : Blind) (group : Nat) (state : DriveState) : List Nat :=
  numbersOf b.drives (fun d => d.group == some group && d.state == state)

/-- r: the number of own drives RUNNING (R156). -/
def Blind.runningCount (b : Blind) : Nat := (b.inState .running).length

/-- A change of one drive's record. -/
def Blind.mapDrive (b : Blind) (number : Nat) (change : Drive → Drive) : Blind :=
  match pick? b.drives number with
  | none => b
  | some d => { b with drives := put b.drives number (change d) }

/-- A drive without a run, a group or a slot, in the state given. -/
def Drive.release (d : Drive) (state : DriveState) : Drive :=
  { d with state := state, run := none, due := none, group := none }

/-- The state of a drive that holds no slot: it waits for one when it needs a run (R154). -/
def Drive.idleState (d : Drive) (target : Nat) : DriveState :=
  if d.inService && d.needsRun target then .waitStage else .stopped

/-- The backoff timers that still belong to a group with a drive in WAIT_FEEDER (R154). -/
def Blind.pruneBackoffs (b : Blind) : Blind :=
  { b with backoffs := b.backoffs.filter (fun k => (b.groupIn k.group .waitFeeder) != []) }

/-- A FEEDER END is offered (R160). -/
def offerFeederEnd (drives : Nat) (s : State) : State :=
  offer (Frame.plain .feederEnd broadcast (endBody s.loader.settings.facade drives)) s

/-! ### Stopping a drive (R153) -/

/-- A drive's motor stops with the position the cause gives, and its run, group and slot are released (R153). -/
def Drive.halt (d : Drive) (position : Option Nat) : Drive := { d.release .stopped with position := position }

/-- A stop on a façade offers a FEEDER END (R153, R160). -/
def announceHalt (s : State) : State := if s.loader.settings.facade = 0 then s else offerFeederEnd 1 s

/-- The Light Controller hears when no drive is RUNNING any more (R133, R153). -/
def hearHalt (s : State) : State := if s.blind.runningCount = 0 then motionStopped s else s

/-- Steps 1 to 4 of a stop. -/
def haltDrive (number : Nat) (position : Option Nat) (s : State) : State :=
  hearHalt (announceHalt (withBlind (·.mapDrive number (·.halt position)) s))

/-- Step 5 of a stop: the drive, now STOPPED, takes the applied target again (R153, R154). -/
def retake (number : Nat) (s : State) : State :=
  withBlind (fun b => b.mapDrive number fun d => { d with state := d.idleState b.applied }) s

/-- A RUNNING drive stops at the limit in its direction, exactly and with stall streak 0, and takes the target again (R152). -/
def haltAtLimit (number : Nat) (s : State) : State :=
  match pick? s.blind.drives number with
  | none => s
  | some d =>
    match d.run with
    | none => s
    | some r =>
      retake number (withBlind (·.mapDrive number fun d => { d with streak := 0 })
        (haltDrive number (some r.limitPosition) s))

/-! ### Entering RUNNING (R155) -/

/-- The motor starts, with the run timer or watchdog (R151, R152, R155). -/
def Drive.startMotor (d : Drive) (now : Nat) : Drive :=
  match d.run with
  | none => d
  | some r => { d with state := .running, since := now, due := some (now + r.length * 100) }

/-- The motors of drives start together, with one blind motion started notice where none ran before (R133, R155). -/
def startMotors (numbers : List Nat) (s : State) : State :=
  let before := s.blind.runningCount
  let s := withBlind (fun b => numbers.foldl (fun b n => b.mapDrive n (·.startMotor s.now)) b) s
  if before = 0 ∧ s.blind.runningCount ≠ 0 then motionStarted s else s

/-- A drive that is RUNNING stops at once where its limit is already ACTIVE (R152, R155). -/
def checkLimit (number : Nat) (s : State) : State :=
  if ((pick? s.blind.drives number).map (fun d => d.state == .running && d.atLimit)).getD false then haltAtLimit number s
  else s

/-- The drives of a group enter RUNNING together; those whose limit is already ACTIVE stop at once (R152, R155; DEDUCED
order, log entry 15). -/
def enterRunning (numbers : List Nat) (s : State) : State := forEach numbers checkLimit (startMotors numbers s)

/-! ### The façade feeder (R156 to R159) -/

/-- H: the drives running over every feeder part held (R102). -/
def PeerTable.feederSum (t : PeerTable) : Nat :=
  (t.slots.map (fun slot => ((slot.bind (·.feeder)).map (·.drives)).getD 0)).sum

/-- The backoff of a start group: (own address mod 8 + 1) × 2 s (R157, R158). -/
def State.feederBackoff (s : State) : Nat := seconds (((s.loader.address.getD 0).toNat % 8 + 1) * 2)

/-- A group goes to WAIT_FEEDER with its backoff timer running (R157, R158). -/
def backOff (group : Nat) (s : State) : State :=
  withBlind (fun b =>
    { b with
        hand := .nothing
        drives := b.drives.map (fun d =>
          if d.group == some group && d.state == .settling then { d with state := .waitFeeder } else d)
        backoffs := b.backoffs ++ [{ group := group, due := s.now + s.feederBackoff }] }) s

/-- The runs of a group in WAIT_FEEDER are planned anew (R156). -/
def planGroup (group : Nat) (s : State) : State :=
  withBlind (fun b =>
    (b.groupIn group .waitFeeder).foldl (fun b' n => b'.mapDrive n fun d => { d with run := d.plan b.applied }) b) s

/-- The longest planned duration of some drives, in seconds (R156). -/
def Blind.longest (b : Blind) (numbers : List Nat) : Nat :=
  (numbers.filterMap (fun n => ((pick? b.drives n).bind (·.run)).map Run.duration)).foldr max 0

/-- The FEEDER START of some drives (R156). -/
def State.feederStart (s : State) (numbers : List Nat) : Frame :=
  { kind := .feederStart, dest := broadcast
    body := startBody s.loader.settings.facade numbers.length (s.blind.longest numbers), tag := s.blind.nextTag }

/-- A group goes to SETTLING, its START awaiting its report (R156). -/
def awaitReport (group drives : Nat) (s : State) : State :=
  withBlind (fun b =>
    { b with
        nextTag := b.nextTag + 1
        hand := .awaiting group drives b.nextTag
        drives := b.drives.map (fun d =>
          if d.group == some group && d.state == .waitFeeder then { d with state := .settling } else d) }) s

/-- The START of a group is offered (R156); where it is discarded at once the group backs off, and waiting groups are to
re-check (R157). -/
def askFeeder (group : Nat) (numbers : List Nat) (s : State) : State × Bool :=
  let (s, taken) := offerAnswered (s.feederStart numbers) s
  let s := awaitReport group numbers.length s
  if taken then (s, false) else (backOff group s, true)

/-- The feeder check of a start group in WAIT_FEEDER on a façade (R156), its runs planned anew. The answer says whether
its START was discarded at once, upon which waiting groups re-check (R157). -/
def feederCheck (group : Nat) (s : State) : State × Bool :=
  let s := planGroup group s
  let members := s.blind.groupIn group .waitFeeder
  if members = [] ∨ s.blind.hand ≠ .nothing then (s, false)
  else if s.loader.settings.feederLimit < s.peers.feederSum + s.blind.runningCount + members.length then (s, false)
  else askFeeder group members s

/-- The groups in WAIT_FEEDER that are waiting, not backing off, lowest drive number first (R159). -/
def Blind.waitingGroups (b : Blind) : List Nat :=
  (((b.inState .waitFeeder).filterMap (fun n => (pick? b.drives n).bind (·.group))).eraseDups).filter
    (fun g => !b.backoffs.any (·.group == g))

/-- One act after another, each of which may call for a further round. -/
def eachAnswered {α : Type} (act : α → State → State × Bool) : List α → State → State × Bool
  | [], s => (s, false)
  | a :: rest, s =>
    let (s, first) := act a s
    let (s, later) := eachAnswered act rest s
    (s, first || later)

/-- Waiting groups re-check (R159). -/
def recheckGroups (s : State) : State × Bool := eachAnswered feederCheck s.blind.waitingGroups s

/-! ### The room drive stage (R155) -/

/-- The slots that are free: two, less the drives that hold one (R150, R155). -/
def Blind.freeSlots (b : Blind) : Nat :=
  2 - (numbersOf b.drives (fun d => d.state == .waitFeeder || d.state == .settling || d.state == .running)).length

/-- Drives granted at one event form one start group, or one each when K is 1 on a façade (R155). -/
def formations (c : Settings) (granted : List Nat) : List (List Nat) :=
  if c.feederLimit = 1 ∧ c.facade ≠ 0 then granted.map (fun n => [n]) else if granted = [] then [] else [granted]

/-- A start group is formed: its drives hold slots, and their runs are planned (R155). -/
def formGroup (numbers : List Nat) (s : State) : State :=
  withBlind (fun b =>
    let b' := numbers.foldl (fun b' n => b'.mapDrive n fun d =>
      { d with state := .waitFeeder, group := some b.nextGroup, run := d.plan b.applied }) b
    { b' with nextGroup := b.nextGroup + 1 }) s

/-- A granted group enters RUNNING at once without a façade, and goes to the feeder check with one (R155). The answer
says whether a further round is due. -/
def launchGroup (numbers : List Nat) (s : State) : State × Bool :=
  let group := s.blind.nextGroup
  let s := formGroup numbers s
  if s.loader.settings.facade = 0 then
    let s := enterRunning numbers s
    (s, numbers.any (fun n => !(s.blind.inState .running).contains n))
  else feederCheck group s

/-- The stage grants free slots to drives in WAIT_STAGE, lowest number first (R155). -/
def grantSlots (s : State) : State × Bool :=
  eachAnswered launchGroup (formations s.loader.settings ((s.blind.inState .waitStage).take s.blind.freeSlots)) s

/-- The end of an event: stage grants, then re-checks where the event calls for them, in rounds while a drive stopped at
its limit on entering RUNNING or a START was discarded at once (R153 step 6, R155, R157, R159). The number of rounds is
bounded (DESIGN CHOICE, log entry 16). No grant or re-check is made while the emergency line is asserted (R161). -/
def settleStage : Nat → Bool → State → State
  | 0, _, s => s
  | n + 1, recheck, s =>
    if s.blind.emergency then s
    else
      let (s, granted) := grantSlots s
      let (s, checked) := if recheck then recheckGroups s else (s, false)
      if granted || checked then settleStage n true s else s

/-- The bound on the rounds of one event. -/
def stageRounds : Nat := 16

/-! ### Taking a target (R154) -/

/-- A SETTLING group, judged as a whole: it stays when every drive's run planned now has the kind, direction and end
position of the run planned for its START (R154). -/
def Drive.keepsPlan (d : Drive) (target : Nat) : Bool :=
  match d.run, d.plan target with
  | some r, some r' => r.kind == r'.kind && r.up == r'.up && r.goal == r'.goal
  | _, _ => false

/-- The start in hand of a group ends: an open window with a FEEDER END for its drive count, an awaited START as an
orphaned start (R154, R157, R160). -/
def dropHand (s : State) : State :=
  match s.blind.hand with
  | .nothing => s
  | .awaiting _ drives tag =>
    withBlind (fun b => { b with hand := .nothing, orphans := b.orphans ++ [{ tag := tag, drives := drives }] }) s
  | .window _ drives _ _ _ _ => offerFeederEnd drives (withBlind ({ · with hand := .nothing }) s)

/-- A SETTLING group is withdrawn: its drives release their slots and wait again if they need a run (R154). -/
def withdrawGroup (group : Nat) (s : State) : State :=
  withBlind (fun b =>
    { b with drives := b.drives.map (fun d =>
        if d.group == some group && d.state == .settling then d.release (d.idleState b.applied) else d) }) (dropHand s)

/-- A drive in service takes the applied target (R154). -/
def takeTarget (number : Nat) (s : State) : State :=
  match pick? s.blind.drives number with
  | none => s
  | some d =>
    if !d.inService then s
    else
      let target := s.blind.applied
      match d.state with
      | .stopped | .waitStage => retake number s
      | .waitFeeder =>
        if d.needsRun target then s else withBlind (·.mapDrive number (·.release .stopped)) s
      | .settling =>
        match d.group with
        | none => s
        | some group =>
          if (s.blind.drives.filter (fun d => d.group == some group && d.state == .settling)).all (·.keepsPlan target) then s
          else withdrawGroup group s
      | .running =>
        match d.run with
        | none => s
        | some r =>
          if r.kind = .reference ∨ r.goal = target then s
          else retake number (haltDrive number (d.estimate s.now) s)

/-- Every drive in service takes the applied target, in drive order; then stage grants are made and waiting groups
re-check (R154). -/
def takeTargets (s : State) : State :=
  settleStage stageRounds true
    (withBlind Blind.pruneBackoffs (forEach (numbersOf s.blind.drives fun _ => true) takeTarget s))

/-! ### Reports and the settle window (R157, R158) -/

/-- The settle window opens: the held sum takes the feeder sum as it stands (R158). -/
def openWindow (group drives : Nat) (s : State) : State :=
  withBlind ({ · with hand := .window group drives s.peers.feederSum 0 s.now (s.now + seconds 2) }) s

/-- The report on an orphaned start (R157). -/
def orphanReport (sent : Bool) (tag : Nat) (s : State) : State :=
  match s.blind.orphans.find? (·.tag == tag) with
  | none => s
  | some o =>
    let s := withBlind (fun b => { b with orphans := b.orphans.filter (·.tag != tag) }) s
    if sent then offerFeederEnd o.drives s else s

/-- The Bus Port's report on a FEEDER START (R157). -/
def feederReport (sent : Bool) (tag : Nat) (s : State) : State :=
  match s.blind.hand with
  | .awaiting group drives awaited =>
    if awaited = tag then
      if sent then openWindow group drives s else settleStage stageRounds true (backOff group s)
    else orphanReport sent tag s
  | .nothing | .window .. => orphanReport sent tag s

/-- A start heard from a lower address in the open settle window is counted (R158). -/
def startHeard (peer : Byte) (drives arrival : Nat) (s : State) : State :=
  match s.blind.hand with
  | .window group own heldSum lowerSum opened due =>
    if opened ≤ arrival ∧ peer.toNat < (s.loader.address.getD 0).toNat then
      withBlind ({ · with hand := .window group own heldSum (lowerSum + drives) opened due }) s
    else s
  | .nothing | .awaiting .. => s

/-- The settle window closes (R158). -/
def closeWindow (s : State) : State :=
  match s.blind.hand with
  | .window group drives heldSum lowerSum _ _ =>
    let total := heldSum + lowerSum + s.blind.runningCount + drives
    let s := withBlind ({ · with hand := .nothing }) s
    settleStage stageRounds true
      (if total ≤ s.loader.settings.feederLimit then enterRunning (s.blind.groupIn group .settling) s
       else backOff group (offerFeederEnd drives s))
  | .nothing | .awaiting .. => s

end Sys2Proof.Machine
end

