-- ==== Sys2Proof/Machine/Blind.lean ====
section
/-!
DEFINITION. The Blind Controller (09_blinds_fa_ade_glare_and_the_feeder_limit.md): sun readings and the glare value, the
policy target and the dwell, and the family of commands it takes.
-/

namespace Sys2Proof.Machine

/-! ### Applying a target (R149) -/

/-- The wanted target: the first row of R148 that applies. -/
def Blind.wantedNow (b : Blind) (park : Nat) : Nat :=
  match b.override with
  | some target => target
  | none =>
    if b.regime = .inSession ∧ b.mode = some .screen then 100
    else if b.glaring ∧ (b.regime = .inSession ∨ b.regime = .prepare ∨ b.vacant = false) then 80
    else if b.regime = .standby ∧ b.vacant then park
    else 0

/-- The wanted target becomes the applied target, the dwell timer restarts, the latched change is dropped, and every
drive in service takes the target (R149). -/
def applyWanted (s : State) : State :=
  takeTargets (withBlind (fun b =>
    { b with applied := b.wanted, dwellTimer := s.timer (minutes 10), latched := false }) s)

/-- The wanted target is worked out again (R148). -/
def rework (s : State) : State :=
  withBlind (fun b => { b with wanted := b.wantedNow s.loader.settings.park }) s

/-- A reapplication (R149): the wanted target, worked out from the current inputs, is applied in any case (R162). -/
def reapply (s : State) : State := applyWanted (rework s)

/-- A policy event (R148, R149); `glare` marks a change of the glare state. -/
def policyEvent (glare : Bool) (s : State) : State :=
  let s := rework s
  if s.blind.emergency then s
  else if s.blind.wanted = s.blind.applied then withBlind ({ · with latched := false }) s
  else if glare ∧ s.blind.regime = .inSession ∧ s.blind.dwellTimer.isSome then withBlind ({ · with latched := true }) s
  else applyWanted s

/-! ### The glare value (R145 to R147) -/

/-- A value put in its place in an ascending list. -/
def insertAscending (n : Nat) : List Nat → List Nat
  | [] => [n]
  | m :: ms => if n ≤ m then n :: m :: ms else m :: insertAscending n ms

/-- A list in ascending order, equal values kept. -/
def ascending (ns : List Nat) : List Nat := ns.foldr insertAscending []

/-- The median: the middle value, or the mean of the two middle values rounded down (R145). -/
def median (ns : List Nat) : Nat :=
  let sorted := ascending ns
  let upper := sorted.getD (ns.length / 2) 0
  if ns.length % 2 = 1 then upper else (sorted.getD (ns.length / 2 - 1) 0 + upper) / 2

/-- The glare indexes of the fresh sun parts: of entries of age 0 or 1 (R89, R102). -/
def PeerTable.freshSuns (t : PeerTable) : List Nat :=
  t.slots.filterMap (fun slot => slot.bind (fun p => if p.age ≤ 1 then p.sun else none))

/-- The own reading is fresh while its age timer runs (R143). -/
def Blind.ownFresh (b : Blind) : Option SunSample := if b.ageTimer.isSome then b.own else none

/-- The fresh set (R145). -/
def State.freshSet (s : State) : List Nat := (s.blind.ownFresh.map (·.glare)).toList ++ s.peers.freshSuns

/-- The glare state a glare value gives (R147). -/
def glaringAt (glare : Nat) (held : Bool) : Bool :=
  if 60 ≤ glare then true else if glare ≤ 40 then false else held

/-- G takes a value, and the glare state is judged; a change of it is a glare event (R147, R148). -/
def setGlare (glare : Nat) (s : State) : State :=
  let changed := glaringAt glare s.blind.glaring != s.blind.glaring
  let s := withBlind (fun b => { b with glare := glare, glaring := glaringAt glare b.glaring }) s
  if changed then policyEvent true s else s

/-- G is recomputed from the fresh set (R145); with the set empty it is kept and the hold timer may start (R146). A
façade of 0 never runs the hold timer (R147). -/
def recomputeGlare (s : State) : State :=
  match s.freshSet with
  | [] =>
    if s.loader.settings.facade = 0 ∨ s.blind.holdTimer.isSome ∨ s.isRaised .sunLost then s
    else withBlind ({ · with holdTimer := s.timer (minutes 15) }) s
  | g :: gs => setGlare (median (g :: gs)) (clearAlert .sunLost (withBlind ({ · with holdTimer := none }) s))

/-! ### Sun readings (R143, R144) -/

/-- The station takes readings from its own sun sensor (R143). -/
def Settings.takesSun (c : Settings) : Bool := c.sunSensor && c.facade != 0

/-- A SUN READING is offered with the own reading (R144). -/
def offerSun (r : SunSample) (s : State) : State :=
  let s := withBlind ({ · with lastSent := some r.glare, sendTimer := s.timer (seconds 60) }) s
  offer (Frame.plain .sunReading broadcast (sunBody s.loader.settings.facade r)) s

/-- OWN_SUN_READING (R143). -/
def takeSun (glare klux : Nat) (s : State) : State :=
  if s.loader.settings.takesSun then
    let r : SunSample := { glare := min glare 100, klux := min klux 150 }
    let s := recomputeGlare (withBlind ({ · with own := some r, ageTimer := s.timer (seconds 120) }) s)
    match s.blind.lastSent with
    | none => offerSun r s
    | some last => if 10 ≤ (r.glare - last) + (last - r.glare) then offerSun r s else s
  else s

def execOwnSunReading (glare klux : Nat) (s : State) : Host.Outcome State Fault Refusal :=
  .next (s.whileStarted (takeSun glare klux))

/-- OWN_READING_AGE_EXPIRY (R143, R145). -/
def execOwnReadingAgeExpiry (s : State) : Host.Outcome State Fault Refusal :=
  .next (s.whileStarted fun s => s.onExpiry s.blind.ageTimer fun s =>
    recomputeGlare (withBlind ({ · with ageTimer := none }) s))

/-- SUN_SEND_TIMER_EXPIRY (R144). -/
def sendSun (s : State) : State :=
  match s.blind.ownFresh with
  | some r => offerSun r s
  | none => withBlind ({ · with sendTimer := s.timer (seconds 60) }) s

def execSunSendTimerExpiry (s : State) : Host.Outcome State Fault Refusal :=
  .next (s.whileStarted fun s => s.onExpiry s.blind.sendTimer sendSun)

/-- GLARE_HOLD_TIMER_EXPIRY (R146). -/
def loseSun (s : State) : State := setGlare 0 (raiseAlert .sunLost (withBlind ({ · with holdTimer := none }) s))

def execGlareHoldTimerExpiry (s : State) : Host.Outcome State Fault Refusal :=
  .next (s.whileStarted fun s => s.onExpiry s.blind.holdTimer loseSun)

/-! ### Events from other blocks -/

/-- A regime notice (R148). -/
def blindRegime (n : RegimeNotice) (s : State) : State :=
  policyEvent false (withBlind ({ · with regime := n.regime, mode := n.mode }) s)

/-- An occupancy event that carries a change of the vacant flag (R148). -/
def blindOccupancy (e : OccupancyEvent) (s : State) : State :=
  if e.vacant = s.blind.vacant then s else policyEvent false (withBlind ({ · with vacant := e.vacant }) s)

/-- A blind target notice from the Override Unit (R148). -/
def blindTarget (target : Option Nat) (s : State) : State := policyEvent false (withBlind ({ · with override := target }) s)

/-- A RUNNING drive is stopped where it is, without taking the target again (R153). -/
def cutShort (number : Nat) (s : State) : State :=
  match pick? s.blind.drives number with
  | none => s
  | some d => haltDrive number (d.estimate s.now) s

/-- No drive waits, no group backs off: every drive that is not RUNNING goes to STOPPED (R161, R163). -/
def Blind.standDown (b : Blind) : Blind :=
  { b with
      drives := b.drives.map (fun d => if d.state == .running then d else d.release .stopped)
      backoffs := [] }

/-- The emergency line is asserted (R161). -/
def blindAssertion (s : State) : State :=
  let s := withBlind ({ · with emergency := true }) s
  withBlind Blind.standDown (dropHand (forEach (s.blind.inState .running) cutShort s))

/-- The emergency line is released (R162). -/
def blindRelease (s : State) : State := reapply (withBlind ({ · with emergency := false }) s)

/-- A SERVICE RESTART (R163): the orphaned starts are emptied before a START that awaits its report becomes one. -/
def blindRestart (s : State) : State :=
  let s := forEach (s.blind.inState .running) cutShort s
  let s := dropHand (withBlind ({ · with orphans := [] }) s)
  let s := withBlind Blind.standDown s
  if s.blind.emergency then s else reapply s

/-- A drive returned to service by SERVICE CLEAR (R164). -/
def Drive.restore (d : Drive) : Drive := { d with inService := true, streak := 0, position := none }

/-- The numbers of the drives that are out of service. -/
def Blind.outDrives (b : Blind) : List Nat := numbersOf b.drives (fun d => !d.inService)

/-- Every drive that is out of service returns, and DRIVE_OUT is cleared (R164). -/
def restoreDrives (s : State) : State :=
  clearAlert .driveOut
    (withBlind (fun b => { b with drives := b.drives.map (fun d => if d.inService then d else d.restore) }) s)

/-- SERVICE CLEAR, as the Blind Controller takes it (R164). -/
def blindClear (s : State) : State :=
  if s.blind.outDrives = [] then s
  else if s.blind.emergency then restoreDrives s
  else settleStage stageRounds false (forEach s.blind.outDrives takeTarget (restoreDrives s))

/-- The drive records at the settings-ready notice (R150). -/
def startDrives (travel : List Nat) (limits : List LimitLevels) : List Drive :=
  travel.mapIdx (fun i t =>
    { travel := t, inService := true, streak := 0, position := none, state := .stopped, run := none, since := 0, due := none,
      group := none, limits := limits[i]?.getD { openEnd := false, closedEnd := false } })

/-- The start at the settings-ready notice (R142). -/
def blindStart (s : State) : State :=
  let c := s.loader.settings
  let s := s.setBlind { Blind.idle with
    sendTimer := if c.takesSun then s.timer (seconds 60) else none
    holdTimer := if c.facade = 0 then none else s.timer (minutes 15)
    emergency := s.alert.emergency
    drives := startDrives c.travel s.lines.limits }
  if s.blind.emergency then s else reapply s

/-! ### Commands -/

/-- DWELL_TIMER_EXPIRY (R149). -/
def endDwell (s : State) : State :=
  let latched := s.blind.latched
  let s := withBlind ({ · with dwellTimer := none, latched := false }) s
  if latched ∧ s.blind.emergency = false ∧ s.blind.wanted ≠ s.blind.applied then applyWanted s else s

def execDwellTimerExpiry (s : State) : Host.Outcome State Fault Refusal :=
  .next (s.whileStarted fun s => s.onExpiry s.blind.dwellTimer endDwell)

/-- The due time of an open settle window. -/
def StartInHand.timer : StartInHand → Timer
  | .window _ _ _ _ _ due => some due
  | .nothing | .awaiting .. => none

/-- SETTLE_WINDOW_EXPIRY (R158). -/
def execSettleWindowExpiry (s : State) : Host.Outcome State Fault Refusal :=
  .next (s.whileStarted fun s => s.onExpiry s.blind.hand.timer closeWindow)

/-- The backoff timer of the start group that holds a drive. -/
def Blind.backoffOf (b : Blind) (number : Nat) : Option GroupBackoff :=
  match (pick? b.drives number).bind (·.group) with
  | none => none
  | some group => b.backoffs.find? (·.group == group)

/-- A group's backoff ends and it re-checks (R159). -/
def endBackoff (group : Nat) (s : State) : State :=
  let (s, again) := feederCheck group (withBlind (fun b => { b with backoffs := b.backoffs.filter (·.group != group) }) s)
  if again then settleStage stageRounds true s else s

/-- FEEDER_BACKOFF_EXPIRY (R159). No group backs off while the line is asserted (R161). -/
def execFeederBackoffExpiry (drive : Nat) (s : State) : Host.Outcome State Fault Refusal :=
  .next (s.whileStarted fun s =>
    match s.blind.backoffOf drive with
    | none => s
    | some k => s.onExpiry (some k.due) (endBackoff k.group))

/-- One limit of a pair takes a level. -/
def LimitLevels.set (l : LimitLevels) (limit : Limit) (active : Bool) : LimitLevels :=
  match limit with
  | .openEnd => { l with openEnd := active }
  | .closedEnd => { l with closedEnd := active }

/-- One limit of a pair. -/
def LimitLevels.get (l : LimitLevels) : Limit → Bool
  | .openEnd => l.openEnd
  | .closedEnd => l.closedEnd

/-- The limit a run is directed at (R152). -/
def Run.limit (r : Run) : Limit := if r.up then .openEnd else .closedEnd

/-- A limit input's level is set in every state (R150); a limit that becomes ACTIVE in the direction of a RUNNING drive
stops it (R152). -/
def takeLimit (number : Nat) (limit : Limit) (active : Bool) (s : State) : State :=
  match pick? s.blind.drives number with
  | none => s
  | some d =>
    let became := active && !d.limits.get limit
    let s := withBlind (·.mapDrive number fun d => { d with limits := d.limits.set limit active }) s
    if became ∧ d.state = .running ∧ (d.run.map Run.limit) = some limit then
      settleStage stageRounds true (haltAtLimit number s)
    else s

/-- LIMIT_INPUT (R150, R152): the field line shows it; a drive beyond the number fitted takes none. -/
def moveLimit (number : Nat) (limit : Limit) (active : Bool) (s : State) : State :=
  let levels := (pick? s.lines.limits number).getD { openEnd := false, closedEnd := false }
  let s := s.setLines { s.lines with limits := put s.lines.limits number (levels.set limit active) }
  s.whileStarted (takeLimit number limit active)

def execLimitInput (drive : Nat) (limit : Limit) (active : Bool) (s : State) : Host.Outcome State Fault Refusal :=
  .next (moveLimit drive limit active s)

/-- RUN_TIMER_EXPIRY: an INTERMEDIATE run stops at its end position (R151, R153). -/
def endIntermediate (number goal : Nat) (s : State) : State :=
  settleStage stageRounds true (retake number (haltDrive number (some goal) s))

/-- The run of a RUNNING drive, with its due time. -/
def Blind.runningRun (b : Blind) (number : Nat) : Option (Run × Timer) :=
  match pick? b.drives number with
  | none => none
  | some d => if d.state = .running then d.run.map (fun r => (r, d.due)) else none

def execRunTimerExpiry (drive : Nat) (s : State) : Host.Outcome State Fault Refusal :=
  .next (s.whileStarted fun s =>
    match s.blind.runningRun drive with
    | some (r, due) => if r.kind = .intermediate then s.onExpiry due (endIntermediate drive r.goal) else s
    | none => s)

/-- A stall: the streak rises, and at 3 the drive goes out of service (R152). -/
def Drive.stall (d : Drive) : Drive :=
  { d with streak := min 3 (d.streak + 1), inService := d.inService && decide (d.streak + 1 < 3) }

/-- RUN_WATCHDOG_EXPIRY: the drive stops as a stall, with position UNKNOWN (R152, R153). -/
def stallDrive (number : Nat) (s : State) : State :=
  let s := withBlind (·.mapDrive number Drive.stall) (haltDrive number none s)
  let out := ((pick? s.blind.drives number).map (fun d => !d.inService)).getD false
  settleStage stageRounds true (if out then raiseAlert .driveOut s else retake number s)

def execRunWatchdogExpiry (drive : Nat) (s : State) : Host.Outcome State Fault Refusal :=
  .next (s.whileStarted fun s =>
    match s.blind.runningRun drive with
    | some (r, due) => if r.kind = .intermediate then s else s.onExpiry due (stallDrive drive)
    | none => s)

end Sys2Proof.Machine
end

