-- ==== Sys2Proof/Machine/Panel.lean ====
section
/-!
DEFINITION. The Override Unit (10_room_panel_and_occupant_override.md): entry to override, key bands, traps and ends, the
cause record, and the family of panel keys.
-/

namespace Sys2Proof.Machine

/-- The six panel keys (R166). -/
inductive Key where
  | lightPlus | lightMinus | blindUp | blindDown | airPlus | resume
deriving DecidableEq, Repr

/-- A change of the Override Unit's own state. -/
def withPanel (change : Panel → Panel) (s : State) : State := s.setPanel (change s.panel)

/-- The causes a trapping key gives (R169, R171). -/
def OverrideCause.isTrap : OverrideCause → Bool
  | .bandLight | .bandAir | .sharedAir => true
  | .panelResume | .boundary | .vacancy | .emergency | .restart => false

/-- The cause record is written, and the moment of a trap is kept (R172, log entry 37). -/
def writeRecord (cause : OverrideCause) (value : Int) (s : State) : State :=
  withPanel ({ · with
    record := some { cause := cause, value := value, minute := s.clock.minute }
    trapAt := if cause.isTrap then some s.now else none }) s

/-- Override becomes OFF, the adjustments are reset, and the cause record is written (R172). -/
def resetOverride (cause : OverrideCause) (value : Int) (s : State) : State :=
  writeRecord cause value (withPanel ({ · with on := false, offset := 0, boost := false, target := none }) s)

/-- The offset notice of an end, where an offset was held (R172). -/
def returnOffset (held : Panel) (s : State) : State := if held.offset = 0 then s else lightOffset 0 s

/-- The boost notice of an end, where the boost was on (R172). -/
def returnBoost (held : Panel) (s : State) : State := if held.boost then airBoost false s else s

/-- The blind target notice of an end, where a target was held (R172). -/
def returnTarget (held : Panel) (s : State) : State := if held.target.isSome then blindTarget none s else s

/-- The end of override (R172): a notice for each value that changed, in the order offset, boost, blind target. -/
def endOverride (cause : OverrideCause) (value : Int) (s : State) : State :=
  returnTarget s.panel (returnBoost s.panel (returnOffset s.panel (resetOverride cause value s)))

/-- An end other than a trap: it acts while override is ON, and leaves an override that is OFF as it is. Where a key has
trapped at the same moment of the time base, the two fall together and the end's cause replaces the trap's record, as the
table of R173 says beside its first sentence (DESIGN CHOICE, log entry 37). -/
def endIfOn (cause : OverrideCause) (s : State) : State :=
  if s.panel.on then endOverride cause 0 s else if s.panel.trapAt = some s.now then writeRecord cause 0 s else s

/-- The conditions of entry (R168). -/
def State.mayEnterOverride (s : State) : Bool :=
  (s.panel.regime == .inSession || !s.panel.vacant) && !s.panel.emergency && s.isNormal

/-- LIGHT+ and LIGHT− while ON (R169). -/
def moveOffset (step : Int) (s : State) : State :=
  let offset := s.panel.offset + step
  if -300 ≤ offset ∧ offset ≤ 300 then lightOffset offset (withPanel ({ · with offset := offset }) s)
  else endOverride .bandLight offset s

/-- BLIND UP and BLIND DOWN while ON (R170): from the held target, or from the applied target where none is held. -/
def moveTarget (step : Int) (s : State) : State :=
  let start := s.panel.target.getD s.blind.applied
  let target := (clampInt 0 100 ((start : Int) + step)).toNat
  if s.panel.target = some target then s
  else blindTarget (some target) (withPanel ({ · with target := some target }) s)

/-- AIR+ while ON (R171). -/
def pressAir (s : State) : State :=
  if s.panel.boost then endOverride .bandAir s.boostedDemand s
  else if s.air.shortfall then endOverride .sharedAir s.boostedDemand s
  else airBoost true (withPanel ({ · with boost := true }) s)

/-- A key taken while override is ON (R169 to R173). -/
def keyWhileOn (key : Key) (s : State) : State :=
  match key with
  | .lightPlus => moveOffset 100 s
  | .lightMinus => moveOffset (-100) s
  | .blindUp => moveTarget (-25) s
  | .blindDown => moveTarget 25 s
  | .airPlus => pressAir s
  | .resume => endOverride .panelResume 0 s

/-- A key press (R168): it acts while ON; while OFF it enters override where the conditions are met, and is ignored with
a blink where they are not. RESUME is ignored without a blink. -/
def pressKey (key : Key) (s : State) : State :=
  if s.panel.on then keyWhileOn key s
  else if key = .resume then s
  else if s.mayEnterOverride then keyWhileOn key (withPanel ({ · with on := true, blinkTimer := none }) s)
  else withPanel ({ · with blinkTimer := s.timer (seconds 2) }) s

/-! ### Events from other blocks -/

/-- A regime notice; one that leaves IN_SESSION while the room is vacant ends override (R173). -/
def panelRegime (n : RegimeNotice) (s : State) : State :=
  let leaving := s.panel.regime = .inSession ∧ n.regime ≠ .inSession ∧ s.panel.vacant
  let s := withPanel ({ · with regime := n.regime, mode := n.mode }) s
  if leaving then endIfOn .boundary s else s

/-- A session boundary event (R69, R173). -/
def panelBoundary (s : State) : State := endIfOn .boundary s

/-- An occupancy event; vacancy reached ends override (R173). -/
def panelOccupancy (e : OccupancyEvent) (s : State) : State :=
  let s := withPanel ({ · with vacant := e.vacant }) s
  if e.kind = .vacancyReached then endIfOn .vacancy s else s

/-- The emergency line is asserted (R173). -/
def panelAssertion (s : State) : State := endIfOn .emergency (withPanel ({ · with emergency := true }) s)

/-- The emergency line is released; override does not come back (R173). -/
def panelRelease (s : State) : State := withPanel ({ · with emergency := false }) s

/-- A SERVICE RESTART: override ends with cause RESTART, and the blink timer is stopped (R167, R173). -/
def panelRestart (s : State) : State := withPanel ({ · with blinkTimer := none }) (endIfOn .restart s)

/-- SERVICE CLEAR empties the cause record (R174). -/
def panelClear (s : State) : State := withPanel ({ · with record := none, trapAt := none }) s

/-- The start at the settings-ready notice (R167). -/
def panelStart (s : State) : State := s.setPanel { Panel.idle with emergency := s.alert.emergency }

/-! ### Commands -/

def execLightPlus (s : State) : Host.Outcome State Fault Refusal := .next (s.whileStarted (pressKey .lightPlus))
def execLightMinus (s : State) : Host.Outcome State Fault Refusal := .next (s.whileStarted (pressKey .lightMinus))
def execBlindUp (s : State) : Host.Outcome State Fault Refusal := .next (s.whileStarted (pressKey .blindUp))
def execBlindDown (s : State) : Host.Outcome State Fault Refusal := .next (s.whileStarted (pressKey .blindDown))
def execAirPlus (s : State) : Host.Outcome State Fault Refusal := .next (s.whileStarted (pressKey .airPlus))
def execResumeKey (s : State) : Host.Outcome State Fault Refusal := .next (s.whileStarted (pressKey .resume))

/-- BLINK_TIMER_EXPIRY (R166). -/
def execBlinkTimerExpiry (s : State) : Host.Outcome State Fault Refusal :=
  .next (s.whileStarted fun s => s.onExpiry s.panel.blinkTimer (withPanel ({ · with blinkTimer := none })))

end Sys2Proof.Machine
end

