-- ==== Sys2Proof/Machine/Session.lean ====
section
/-!
DEFINITION. The Session Engine (04_session_lifecycle_and_room_regime.md): evaluation of entries, the end procedure, minute
and jump events, occupancy events, and the room regime with its notices.
-/

namespace Sys2Proof.Machine

/-! ### Windows (R35) -/

/-- The first minute of the whole window, start − lead modulo the week. -/
def Entry.windowStart (e : Entry) : Nat := (e.start + weekMinutes - e.lead) % weekMinutes

/-- m lies in the interval [start, end). -/
def Entry.inInterval (e : Entry) (m : Nat) : Bool := inWindow e.start (e.stop - e.start) m

/-- m lies in the lead window [start − lead, start). -/
def Entry.inLead (e : Entry) (m : Nat) : Bool := inWindow e.windowStart e.lead m

/-- m lies in the whole window [start − lead, end). -/
def Entry.inWhole (e : Entry) (m : Nat) : Bool := inWindow e.windowStart (e.lead + (e.stop - e.start)) m

/-- The end minute, taken modulo the week. -/
def Entry.endMinute (e : Entry) : Nat := e.stop % weekMinutes

/-! ### The end procedure (R60 to R62) -/

/-- The six causes, coded 1 to 6 in this order (R186). -/
inductive EndCause where
  | ended | noShow | earlyRelease | cancelled | timeJump | missed
deriving DecidableEq, Repr

/-- The end cause codes of R186. -/
def endCauseCode : EndCause → Nat
  | .ended => 1
  | .noShow => 2
  | .earlyRelease => 3
  | .cancelled => 4
  | .timeJump => 5
  | .missed => 6

/-- The series is dropped: a NO_SHOW of a repeating entry with streak 2 (R61). -/
def Entry.drops (e : Entry) (cause : EndCause) : Bool := cause == .noShow && e.weekly && decide (2 ≤ e.streak)

/-- The no-show streak as the end procedure settles it (R61). -/
def Entry.settledStreak (e : Entry) (cause : EndCause) : Nat :=
  match cause with
  | .noShow => if e.weekly && decide (e.streak < 2) then e.streak + 1 else e.streak
  | .ended | .earlyRelease | .cancelled | .timeJump => if e.seen then 0 else e.streak
  | .missed => e.streak

/-- The body of a SESSION REPORT (R62, R184). -/
def Entry.reportBody (e : Entry) (cause : EndCause) : List Byte :=
  twoBytes e.id ++ [byte (endCauseCode cause)] ++ twoBytes e.peak ++ twoBytes e.occupied ++ twoBytes e.shortfall
    ++ [byte (flag (e.drops cause))]

/-- The entry as steps 2 to 4 of the end procedure leave it, DORMANT (R60). -/
def Entry.ended (e : Entry) (cause : EndCause) : Entry :=
  { e with
      streak := e.settledStreak cause
      weekly := e.weekly && !e.drops cause
      grace := none
      seen := false
      carried := false
      state := .dormant }

/-- What the taking of one entry gives: the entry that stays in the list, if any, the reports to queue, and the session
boundary events. -/
structure Turn where
  kept : Option Entry
  reports : List Frame
  boundaries : Nat
deriving DecidableEq, Repr

/-- The entry stays, without a report or a boundary event. -/
def Turn.keep (e : Entry) : Turn := { kept := some e, reports := [], boundaries := 0 }

/-- The end procedure for one entry and one cause (R60): the report, the streak, the series and the fate, and a boundary
event if the entry was ACTIVE. -/
def Entry.finish (e : Entry) (cause : EndCause) : Turn :=
  let after := e.ended cause
  { kept := if after.weekly then some after else none
    reports := if e.report then [Frame.plain .sessionReport e.origin (e.reportBody cause)] else []
    boundaries := if e.state = .active then 1 else 0 }

/-! ### Evaluation (R54 to R56) -/

/-- The entry enters ACTIVE at a minute (R55, R56). -/
def Entry.activate (e : Entry) (m count graceMinutes : Nat) (byJump : Bool) : Entry :=
  let deadline :=
    if byJump then m + graceMinutes else if e.carried then m + graceMinutes else e.start + graceMinutes
  let e := { e with state := .active, grace := some (deadline % weekMinutes) }
  if e.carried then { e with peak := max e.peak count, seen := e.seen || decide (0 < count), carried := false }
  else { e with peak := count, occupied := 0, shortfall := 0, seen := decide (0 < count) }

/-- The evaluation of an entry at a minute, by the first row of R54 that applies to its state. -/
def Entry.evaluate (m count graceMinutes : Nat) (byJump : Bool) (e : Entry) : Turn :=
  let opened : Turn := { kept := some (e.activate m count graceMinutes byJump), reports := [], boundaries := 1 }
  match e.state with
  | .pending =>
    if e.skip && e.inWhole m then .keep { e with skip := false, carried := false, state := .dormant }
    else if e.inLead m then .keep { e with state := .precondition }
    else if e.inInterval m then opened
    else .keep e
  | .precondition =>
    if e.inInterval m then opened
    else if !e.inWhole m then .keep { e with state := .pending }
    else .keep e
  | .active =>
    if e.grace = some m ∧ e.seen = false then e.finish .noShow
    else if m = e.endMinute then e.finish .ended
    else .keep e
  | .dormant =>
    if !e.inWhole m && e.weekly then .keep { e with state := .pending } else .keep e

/-- The engine's work within one event: the list, the reports in the order they are queued, and the boundary events. -/
structure EngineWork where
  entries : List Entry
  reports : List Frame
  boundaries : Nat
deriving DecidableEq, Repr

/-- The taking of every entry of a list. The entry that was ACTIVE is taken first and the others in list order (R53), so
its reports come first; the kept entries keep their order. -/
def EngineWork.each (w : EngineWork) (take : Entry → Turn) : EngineWork :=
  let active := w.entries.filter (fun e => e.state = .active)
  let others := w.entries.filter (fun e => e.state ≠ .active)
  { entries := w.entries.filterMap (fun e => (take e).kept)
    reports := w.reports ++ active.flatMap (fun e => (take e).reports) ++ others.flatMap (fun e => (take e).reports)
    boundaries := w.boundaries + (w.entries.map (fun e => (take e).boundaries)).sum }

/-- The engine's work begins with the list as it stands. -/
def SessionEngine.work (e : SessionEngine) : EngineWork := { entries := e.entries, reports := [], boundaries := 0 }

/-! ### The regime (R66 to R69) -/

/-- The distance from a minute forward to an entry's start, modulo the week. -/
def Entry.ahead (e : Entry) (minute : Nat) : Nat := (e.start + weekMinutes - minute % weekMinutes) % weekMinutes

/-- The entry in PRECONDITION whose start comes first, counting forward from a minute (R66). -/
def nearest (minute : Nat) (entries : List Entry) : Option Entry :=
  entries.foldl (fun best e =>
    match best with
    | none => some e
    | some b => if e.ahead minute < b.ahead minute then some e else some b) none

/-- A regime with its mode, and in PREPARE the preparing entry and its expected headcount. -/
structure RegimeView where
  regime : Regime
  mode : Option Mode
  preparing : Option Nat
  head : Nat
deriving DecidableEq, Repr

/-- The regime derived from the entry states (R66), counting forward from the current minute. -/
def deriveRegime (minute : Nat) (entries : List Entry) : RegimeView :=
  match entries.find? (fun e => e.state = .active) with
  | some e => { regime := .inSession, mode := some e.mode, preparing := none, head := 0 }
  | none =>
    match nearest minute (entries.filter (fun e => e.state = .precondition)) with
    | some e => { regime := .prepare, mode := some e.mode, preparing := some e.id, head := e.expected }
    | none => { regime := .standby, mode := none, preparing := none, head := 0 }

/-- What the engine held before a derivation. -/
def SessionEngine.view (e : SessionEngine) : RegimeView :=
  { regime := e.regime, mode := e.mode, preparing := e.preparing, head := e.preparingHead }

/-- The change of R68 that calls for a regime notice. -/
def RegimeView.differs (now held : RegimeView) : Bool :=
  now.regime != held.regime || now.mode != held.mode ||
    (now.regime == .prepare && (now.preparing != held.preparing || now.head != held.head))

/-- A block takes a regime notice by its own chapter (R68). -/
def takeRegime (n : RegimeNotice) (b : Block) (s : State) : State :=
  match b with
  | .air => airRegime n s
  | .light => lightRegime n s
  | .blind => blindRegime n s
  | .panel => panelRegime n s
  | .clock | .intake | .session | .counter | .peers | .alert => s

/-- The regime is derived again at a minute, held, and published where it has changed (R67, R68). -/
def publishRegime (minute : Nat) (s : State) : State :=
  let held := s.session.view
  let view := deriveRegime minute s.session.entries
  let s := s.setSession { s.session with
    regime := view.regime, mode := view.mode, preparing := view.preparing, preparingHead := view.head }
  if view.differs held then
    fanOut [.air, .light, .blind, .panel] (takeRegime { regime := view.regime, mode := view.mode, head := view.head }) s
  else s

/-- The list and reports of the engine's work are written and queued, the regime is derived once at the minute at which
the event is worked, and the boundary events follow the regime notice (R60, R67, R69). -/
def finishWork (minute : Nat) (w : EngineWork) (s : State) : State :=
  let s := forEach w.reports offer (s.setSession { s.session with entries := w.entries })
  forEach (List.replicate w.boundaries ()) (fun _ => panelBoundary) (publishRegime minute s)

/-! ### Minute events (R53, R57) -/

/-- The minute tallies of an ACTIVE entry (R57); each stops at 600. -/
def Entry.tally (e : Entry) (occupied short : Bool) : Entry :=
  if e.state = .active then
    { e with
        occupied := if occupied then min 600 (e.occupied + 1) else e.occupied
        shortfall := if short then min 600 (e.shortfall + 1) else e.shortfall }
  else e

/-- Step 2 of R53: at a new minute event the shortfall record is read (R122) and the tallies are added. -/
def addTallies (s : State) : State :=
  let (short, s) := readShortfall s
  s.setSession { s.session with entries := s.session.entries.map (·.tally (decide (0 < s.counter.count)) short) }

/-- The engine takes a minute event (R53). -/
def takeMinute (m : Nat) (s : State) : State :=
  let new := s.session.lastMinute ≠ some m
  let s := s.setSession { s.session with lastMinute := some m }
  let s := if new then addTallies s else s
  finishWork m (s.session.work.each (Entry.evaluate m s.counter.count s.loader.settings.graceMinutes false)) s

/-! ### Jump events (R63 to R65) -/

/-- A minute lies in the span of a jump: after `first`, up to and including `last`, counted forward modulo the week (R63). -/
def inSpan (first last m : Nat) : Bool :=
  let place := (m % weekMinutes + weekMinutes - first % weekMinutes) % weekMinutes
  0 < place && place ≤ (last % weekMinutes + weekMinutes - first % weekMinutes) % weekMinutes

/-- The distance from a minute forward to another, modulo the week. -/
def forward (first m : Nat) : Nat := (m % weekMinutes + weekMinutes - first % weekMinutes) % weekMinutes

/-- Stage 1 of a FORWARD jump: an ACTIVE end passed, or a grace deadline passed (R64). -/
def Entry.passEnd (old new graceMinutes : Nat) (e : Entry) : Turn :=
  if e.state = .active then
    if inSpan old new e.endMinute then e.finish .timeJump
    else if (e.grace.map (inSpan old new)).getD false then .keep { e with grace := some ((new + graceMinutes) % weekMinutes) }
    else .keep e
  else .keep e

/-- An occurrence was passed: start and end lie in the span, the end at or after the start (R64, stage 2). -/
def Entry.passed (old new : Nat) (e : Entry) : Bool :=
  inSpan old new e.start && inSpan old new e.endMinute && decide (forward old e.start ≤ forward old e.endMinute)

/-- Stage 2 of a FORWARD jump (R64). -/
def Entry.passOccurrence (old new : Nat) (e : Entry) : Turn :=
  match e.state with
  | .pending | .precondition =>
    if e.passed old new then
      if e.weekly then .keep { e with state := .pending, skip := false, carried := false } else e.finish .missed
    else .keep e
  | .dormant => if e.inWhole new then .keep e else .keep { e with state := .pending }
  | .active => .keep e

/-- The three stages of a FORWARD jump (R64). -/
def forwardWork (old new count graceMinutes : Nat) (w : EngineWork) : EngineWork :=
  ((w.each (Entry.passEnd old new graceMinutes)).each (Entry.passOccurrence old new)).each
    (Entry.evaluate new count graceMinutes true)

/-- The evaluation of stage 2 of a BACKWARD jump (R65): an entry that it makes ACTIVE begins a new occurrence, also where
it still carried one from an earlier jump (DEDUCED, log entry 34). -/
def Entry.evaluateBack (new count graceMinutes : Nat) (e : Entry) : Turn :=
  if (e.evaluate new count graceMinutes true).boundaries = 0 then e.evaluate new count graceMinutes true
  else { e with carried := false }.evaluate new count graceMinutes true

/-- Stages 1 and 2 of a BACKWARD jump, for one entry (R65): an entry that is ACTIVE returns or stays, every other entry
is evaluated. -/
def Entry.takeBack (new count graceMinutes : Nat) (e : Entry) : Turn :=
  if e.state = .active then
    if e.inInterval new then .keep e
    else
      { kept := some { e with
          state := if e.inLead new then .precondition else .pending
          grace := none
          carried := true }
        reports := []
        boundaries := 1 }
  else e.evaluateBack new count graceMinutes

/-- The engine takes a jump event as one event (R63 to R65). -/
def takeJump (old new : Nat) (isForward : Bool) (s : State) : State :=
  let s := s.setSession { s.session with lastMinute := some new }
  let count := s.counter.count
  let graceMinutes := s.loader.settings.graceMinutes
  finishWork new
    (if isForward then forwardWork old new count graceMinutes s.session.work
     else s.session.work.each (Entry.takeBack new count graceMinutes)) s

/-- The engine takes a clock event (R52). -/
def takeClockEvent (e : ClockEvent) (s : State) : State :=
  match e with
  | .minute m => takeMinute m s
  | .jump old _ new _ isForward => takeJump old new isForward s

/-- The Week Clock sends an event: held while a merge is in flight, taken at once otherwise (R40). -/
def sendClockEvent (e : ClockEvent) (s : State) : State :=
  match s.intake.merge with
  | some _ => s.setIntake { s.intake with heldEvents := s.intake.heldEvents ++ [e] }
  | none => takeClockEvent e s

/-! ### Occupancy events (R58, R59) -/

/-- An ACTIVE entry's headcount marks: seen when N has become greater than 0, and its peak raised to N (R57, R58). -/
def Entry.mark (e : Entry) (count : Nat) (becameOccupied : Bool) : Entry :=
  if e.state = .active then { e with seen := e.seen || becameOccupied, peak := max e.peak count } else e

/-- An attended ACTIVE occurrence is released (R58, R59). -/
def Entry.release (e : Entry) : Turn :=
  if e.state = .active ∧ e.seen = true then e.finish .earlyRelease else .keep e

/-- Some ACTIVE entry has been attended. -/
def SessionEngine.attended (e : SessionEngine) : Bool := e.entries.any (fun e => e.state = .active ∧ e.seen = true)

/-- The early release of an attended occurrence, worked at a minute (R58). -/
def releaseEarly (minute : Nat) (s : State) : State :=
  if s.session.attended then finishWork minute (s.session.work.each Entry.release) s else s

/-- The ACTIVE entry is marked with a headcount. -/
def markEntries (count : Nat) (becameOccupied : Bool) (s : State) : State :=
  s.setSession { s.session with entries := s.session.entries.map (·.mark count becameOccupied) }

/-- The engine takes an occupancy event (R58); while a merge is in flight it only sets the catch-up (R59). -/
def sessionOccupancy (e : OccupancyEvent) (s : State) : State :=
  match s.intake.merge with
  | some _ => s.setSession { s.session with catchUp := true }
  | none =>
    match e.kind with
    | .vacancyReached => releaseEarly s.clock.minute s
    | .entry | .exit | .motion | .vacancyLeft =>
      if e.count = e.before ∨ e.count = 0 then s else markEntries e.count (decide (e.before = 0)) s

/-- The minute at which the consequences of a merge are worked: the engine's last minute taken (R40, R49). Before the
first clock event the Week Clock's stands in for it (log entry 18). -/
def State.mergeMinute (s : State) : Nat := s.session.lastMinute.getD s.clock.minute

/-- The occupancy catch-up, made before the first held clock event (R59). -/
def catchUp (s : State) : State :=
  let due := s.session.catchUp
  let s := s.setSession { s.session with catchUp := false }
  if due then
    let s := if 0 < s.counter.count then markEntries s.counter.count true s else s
    if s.counter.vacant then releaseEarly s.mergeMinute s else s
  else s

/-- The held clock events are given to the engine in order, after the catch-up (R40, R42, R59). -/
def releaseHeld (s : State) : State :=
  let held := s.intake.heldEvents
  forEach held takeClockEvent (catchUp (s.setIntake { s.intake with heldEvents := [] }))

end Sys2Proof.Machine
end

