-- ==== Sys2Proof/Machine/Intake.lean ====
section
/-!
DEFINITION. The Timetable Intake (03_week_clock_and_session_list.md): arrival and pacing of items, the merge, the checks,
the application of an accepted item, the outcome pair, and the family of booking commands.
-/

namespace Sys2Proof.Machine

/-! ### Results (R50) -/

/-- The kind of a request (R186). -/
def Request.kind : Request → ItemKind
  | .offer .. => .offer
  | .amend .. => .amend
  | .cancel .. => .cancel

/-- The body of an OUTCOME: the current and the previous outcome (R184). -/
def Intake.outcomeBody (t : Intake) : List Byte := outcomeBytes t.current ++ outcomeBytes t.previous

/-- An item is given a result: the pair moves, and an OUTCOME goes to the sender (R50). -/
def giveResult (item : Item) (verdict : Verdict) (s : State) : State :=
  let s := s.setIntake { s.intake with
    previous := s.intake.current
    current := some { id := item.id, kind := item.request.kind, verdict := verdict } }
  offer (Frame.plain .outcome item.sender s.intake.outcomeBody) s

/-! ### Pacing and the beginning of a merge (R37 to R39) -/

/-- How many items may wait (R36). -/
def intakeLimit : Nat := 8

/-- The pacing test after an arrival in NORMAL (R37). -/
def paceSender (sender : Byte) (s : State) : State :=
  if s.intake.queue.length < 5 ∨ s.intake.heldSenders.contains sender then s
  else
    let s := offer (Frame.plain .hold sender (depthBody s.intake.queue.length)) s
    if s.intake.heldSenders.length < 4 then
      s.setIntake { s.intake with heldSenders := s.intake.heldSenders ++ [sender] }
    else s

/-- The RESUME test at the taking of an item (R38). The order of the RESUME frames is a free value (log entry 10). -/
def resumeSenders (s : State) : State :=
  if 2 < s.intake.queue.length ∨ s.intake.heldSenders = [] then s
  else
    let senders := permute (Config.draw s.draws) s.intake.heldSenders
    let depth := s.intake.queue.length
    let s := (s.setDraws (s.draws + 1)).setIntake { s.intake with heldSenders := [] }
    forEach senders (fun sender => offer (Frame.plain .resume sender (depthBody depth))) s

/-- How long a merge lasts over a list of n entries, in ms (R39). -/
def mergeLength (n : Nat) : Nat := 5 + ceilDiv (35 * n) 24

/-- A merge begins when the merge is IDLE and an item waits (R39). -/
def beginMerge (s : State) : State :=
  match s.intake.merge, s.intake.queue with
  | none, item :: rest =>
    resumeSenders (s.setIntake { s.intake with
      queue := rest
      merge := some { item := item, due := s.now + mergeLength s.session.entries.length } })
  | _, _ => s

/-- An item arrives (R36). -/
def arrive (item : Item) (s : State) : State :=
  if s.isNormal then
    if s.intake.queue.length < intakeLimit then
      beginMerge (paceSender item.sender (s.setIntake { s.intake with queue := s.intake.queue ++ [item] }))
    else paceSender item.sender (giveResult item .intakeFull s)
  else giveResult item .notConfigured s

/-! ### Checks (R43, R44) -/

/-- Two intervals share a minute (R34). -/
def sharesMinute (s1 e1 s2 e2 : Nat) : Bool := decide (s1 < e2) && decide (s2 < e1)

/-- An interval shares a minute with some entry's. -/
def overlapsAny (start stop : Nat) (entries : List Entry) : Bool :=
  entries.any (fun e => sharesMinute start stop e.start e.stop)

/-- An end minute in its range, at a duration in its range (R33). -/
def goodEnd (stop : Nat) : Bool := decide (1 ≤ stop) && decide (stop ≤ 10080)

/-- A duration in its range; an end at or before the start has none (R33, R43). -/
def goodDuration (start stop : Nat) : Bool := decide (start + 10 ≤ stop) && decide (stop ≤ start + 600)

/-- How many entries the list holds at most (R34). -/
def listLimit : Nat := 24

/-- The result of an OFFER (R43). -/
def offerVerdict (capacity : Nat) (entries : List Entry) (id start stop expected lead : Nat) : Verdict :=
  if id = 0 ∨ 10080 ≤ start ∨ goodEnd stop = false ∨ goodDuration start stop = false then .badTimes
  else if entries.any (·.id == id) then .duplicateId
  else if overlapsAny start stop entries then .overlap
  else if listLimit ≤ entries.length then .listFull
  else if capacity < expected ∨ 60 < lead then .acceptedClamped
  else .accepted

/-- The entry an id names. -/
def findEntry (id : Nat) (entries : List Entry) : Option Entry := entries.find? (·.id == id)

/-- A present value exceeds a bound. -/
def presentOver (v : Option Nat) (bound : Nat) : Bool := (v.map (fun x => decide (bound < x))).getD false

/-- BAD_TIMES of an AMEND: step 1 of R44. -/
def amendBadTimes (entry : Option Entry) (id : Nat) (stop : Option Nat) : Bool :=
  id == 0 ||
    match stop with
    | none => false
    | some e => !goodEnd e || (entry.map (fun x => !goodDuration x.start e)).getD false

/-- OVERLAP of an AMEND: step 2 of R44. -/
def amendOverlap (entries : List Entry) (entry : Option Entry) (stop : Option Nat) : Bool :=
  match entry, stop with
  | some x, some e => overlapsAny x.start e (entries.filter (·.id != x.id))
  | _, _ => false

/-- The result of an AMEND (R44). -/
def amendVerdict (capacity : Nat) (entries : List Entry) (id : Nat) (stop expected : Option Nat) (mode : Option Mode)
    (lead : Option Nat) : Verdict :=
  let entry := findEntry id entries
  if amendBadTimes entry id stop then .badTimes
  else if amendOverlap entries entry stop then .overlap
  else
    match entry with
    | none => .unknownId
    | some x =>
      if 4 ≤ x.amendments then .amendLimit
      else if stop = none ∧ expected = none ∧ mode = none ∧ lead = none then .nothingToAmend
      else if presentOver expected capacity || presentOver lead 60 then .acceptedClamped
      else .accepted

/-- The result of a CANCEL (R43): an id of 0 matches no entry. -/
def cancelVerdict (entries : List Entry) (id : Nat) : Verdict :=
  if id ≠ 0 ∧ (findEntry id entries).isSome then .accepted else .unknownId

/-- The judgement of an item against the list (R43, R44). -/
def judgeItem (capacity : Nat) (entries : List Entry) (item : Item) : Verdict :=
  match item.request with
  | .offer start stop _ _ _ expected lead => offerVerdict capacity entries item.id start stop expected lead
  | .amend stop expected mode lead => amendVerdict capacity entries item.id stop expected mode lead
  | .cancel _ => cancelVerdict entries item.id

/-- The item is accepted (R43, R44). -/
def Verdict.accepts : Verdict → Bool
  | .accepted | .acceptedClamped => true
  | .badTimes | .duplicateId | .overlap | .listFull | .unknownId | .amendLimit | .nothingToAmend | .intakeFull
  | .notConfigured => false

/-! ### Applying an accepted item (R45 to R48) -/

/-- The entry an OFFER makes, with the insertion values of R33 (R45). -/
def offeredEntry (capacity : Nat) (sender : Byte) (id start stop : Nat) (mode : Mode) (weekly report : Bool)
    (expected lead : Nat) : Entry :=
  { id := id, origin := sender, start := start, stop := stop, mode := mode, expected := min expected capacity
    lead := min lead 60, weekly := weekly, report := report, skip := false, amendments := 0, streak := 0
    state := .pending, seen := false, grace := none, peak := 0, occupied := 0, shortfall := 0, carried := false }

/-- An entry put at its place in start order (R34). -/
def insertEntry (e : Entry) : List Entry → List Entry
  | [] => [e]
  | x :: xs => if e.start < x.start then e :: x :: xs else x :: insertEntry e xs

/-- What an evaluation at once needs: the engine's last minute taken, N and the no-show grace (R49). -/
structure AtOnce where
  minute : Option Nat
  count : Nat
  graceMinutes : Nat
deriving DecidableEq, Repr

/-- An entry is evaluated at once, while last minute taken is present (R49). -/
def AtOnce.evaluate (now : AtOnce) (e : Entry) : Turn :=
  match now.minute with
  | some m => e.evaluate m now.count now.graceMinutes false
  | none => .keep e

/-- The fields an AMEND carries are written (R46). -/
def Entry.amended (e : Entry) (capacity : Nat) (stop expected : Option Nat) (mode : Option Mode) (lead : Option Nat) : Entry :=
  { e with
      stop := stop.getD e.stop
      expected := (expected.map (min · capacity)).getD e.expected
      mode := mode.getD e.mode
      lead := (lead.map (min · 60)).getD e.lead
      amendments := e.amendments + 1 }

/-- The consequence of an accepted AMEND on its entry, already amended (R46). -/
def AtOnce.amend (now : AtOnce) (newEnd : Bool) (e : Entry) : Turn :=
  match e.state with
  | .active =>
    if newEnd && (now.minute.map (fun m => decide (e.stop ≤ m))).getD false then e.finish .ended else .keep e
  | .pending | .precondition | .dormant => now.evaluate e

/-- The entry is removed without a report. -/
def Turn.remove : Turn := { kept := none, reports := [], boundaries := 0 }

/-- An accepted CANCEL with scope OCCURRENCE (R47). A move to DORMANT clears the carried mark (R65). -/
def Entry.cancelOccurrence (e : Entry) : Turn :=
  match e.weekly, e.state with
  | _, .active => e.finish .cancelled
  | true, .precondition => .keep { e with state := .dormant, carried := false }
  | true, .pending => .keep { e with skip := true }
  | true, .dormant => .keep { e with skip := true }
  | false, _ => .remove

/-- An accepted CANCEL with scope SERIES (R48). -/
def Entry.cancelSeries (e : Entry) : Turn :=
  if e.state = .active then { e.finish .cancelled with kept := none } else .remove

/-- The taking of the one entry an id names. -/
def EngineWork.only (w : EngineWork) (id : Nat) (take : Entry → Turn) : EngineWork :=
  w.each (fun e => if e.id = id then take e else .keep e)

/-- An accepted item is written into the list, with its consequences (R45 to R48). -/
def applyItem (capacity : Nat) (now : AtOnce) (item : Item) (w : EngineWork) : EngineWork :=
  match item.request with
  | .offer start stop mode weekly report expected lead =>
    let entry := offeredEntry capacity item.sender item.id start stop mode weekly report expected lead
    { w with entries := insertEntry entry w.entries }.only item.id now.evaluate
  | .amend stop expected mode lead =>
    w.only item.id (fun e => now.amend stop.isSome (e.amended capacity stop expected mode lead))
  | .cancel .occurrence => w.only item.id Entry.cancelOccurrence
  | .cancel .series => w.only item.id Entry.cancelSeries

/-! ### Merge completion (R49) -/

/-- Steps 1 to 3 of R49: judged, applied if accepted, and answered. -/
def settleItem (item : Item) (s : State) : State :=
  let capacity := s.loader.settings.capacity
  let verdict := judgeItem capacity s.session.entries item
  let now : AtOnce :=
    { minute := s.session.lastMinute, count := s.counter.count, graceMinutes := s.loader.settings.graceMinutes }
  giveResult item verdict
    (if verdict.accepts then finishWork s.mergeMinute (applyItem capacity now item s.session.work) s else s)

/-- MERGE_COMPLETION (R49). -/
def completeMerge (item : Item) (s : State) : State :=
  let s := releaseHeld (settleItem item s)
  beginMerge (s.setIntake { s.intake with merge := none })

/-- A SERVICE RESTART (R42). -/
def intakeRestart (s : State) : State :=
  let s := releaseHeld (s.setIntake { s.intake with merge := none })
  s.setIntake Intake.empty

/-- The start at the settings-ready notice (R36, R37, R39, R50). -/
def intakeStart (s : State) : State := s.setIntake Intake.empty

/-! ### Commands -/

/-- SESSION_OFFER (R36). -/
def execSessionOffer (source dest : Byte) (id start stop : Word) (mode : Mode) (weekly report : Bool) (expected : Word)
    (lead : Byte) (s : State) : Host.Outcome State Fault Refusal :=
  .next (s.onMessage source dest false (arrive
    { sender := source, id := id.toNat
      request := .offer start.toNat stop.toNat mode weekly report expected.toNat lead.toNat }))

/-- SESSION_AMEND (R36). -/
def execSessionAmend (source dest : Byte) (id : Word) (stop expected : Option Word) (mode : Option Mode)
    (lead : Option Byte) (s : State) : Host.Outcome State Fault Refusal :=
  .next (s.onMessage source dest false (arrive
    { sender := source, id := id.toNat
      request := .amend (stop.map BitVec.toNat) (expected.map BitVec.toNat) mode (lead.map BitVec.toNat) }))

/-- SESSION_CANCEL (R36). -/
def execSessionCancel (source dest : Byte) (id : Word) (scope : Scope) (s : State) : Host.Outcome State Fault Refusal :=
  .next (s.onMessage source dest false (arrive { sender := source, id := id.toNat, request := .cancel scope }))

/-- MERGE_COMPLETION (R49). -/
def execMergeCompletion (s : State) : Host.Outcome State Fault Refusal :=
  .next (s.whileStarted fun s =>
    match s.intake.merge with
    | some m => s.onExpiry (some m.due) (completeMerge m.item)
    | none => s)

end Sys2Proof.Machine
end

