-- ==== Sys2Proof/Machine/Clock.lean ====
section
/-!
DEFINITION. The Week Clock (03_week_clock_and_session_list.md): counting, the adoption of time marks, and its two commands.
-/

namespace Sys2Proof.Machine

/-- The second of the week of a time (R31). -/
def weekSecond (minute second : Nat) : Nat := minute * 60 + second

/-- The signed difference of a mark from the clock, brought into −302400 to +302399 (R31). -/
def markDifference (clock mark : Nat) : Int :=
  ((mark : Int) - clock + 302400) % 604800 - 302400

/-- The clock takes a minute and a second. -/
def setTime (minute second : Nat) (s : State) : State :=
  s.setClock { s.clock with minute := minute, second := second }

/-- The clock counts one second (R29). -/
def countSecond (s : State) : State :=
  if s.clock.second + 1 < 60 then setTime s.clock.minute (s.clock.second + 1) s
  else
    let minute := (s.clock.minute + 1) % weekMinutes
    sendClockEvent (.minute minute) (setTime minute 0 s)

/-- A second of the time base passes: its timer runs on with its phase, and the clock counts while SET (R28, R29). -/
def clockTick (due : Nat) (s : State) : State :=
  let s := s.setClock { s.clock with tick := some (due + seconds 1) }
  if s.clock.running then countSecond s else s

/-- CLOCK_SECOND (R29). -/
def execClockSecond (s : State) : Host.Outcome State Fault Refusal :=
  .next (s.whileStarted fun s => s.onExpiry s.clock.tick (clockTick (s.clock.tick.getD 0)))

/-- The first adoption (R30): SET, CLOCK_UNSET cleared, and one minute event. -/
def adoptFirst (minute second : Nat) (s : State) : State :=
  let s := s.setClock { s.clock with running := true, minute := minute, second := second }
  sendClockEvent (.minute minute) (clearAlert .clockUnset s)

/-- A quiet adoption (R31): one minute event when it goes forward into another minute. -/
def adoptQuietly (d : Int) (minute second : Nat) (s : State) : State :=
  let before := s.clock.minute
  let s := setTime minute second s
  if 0 < d ∧ minute ≠ before then sendClockEvent (.minute minute) s else s

/-- A jump adoption (R32). -/
def adoptJump (d : Int) (minute second : Nat) (s : State) : State :=
  let event := ClockEvent.jump s.clock.minute s.clock.second minute second (decide (0 < d))
  sendClockEvent event (setTime minute second s)

/-- A time mark is judged (R30, R31). -/
def takeMark (minute second : Nat) (s : State) : State :=
  if weekMinutes ≤ minute ∨ 60 ≤ second then s
  else if s.clock.running then
    let d := markDifference (weekSecond s.clock.minute s.clock.second) (weekSecond minute second)
    if d.natAbs ≤ 2 then s
    else if d.natAbs ≤ 60 then adoptQuietly d minute second s
    else adoptJump d minute second s
  else adoptFirst minute second s

/-- TIME_MARK (R30 to R32). -/
def execTimeMark (source dest : Byte) (minute : Word) (second : Byte) (s : State) : Host.Outcome State Fault Refusal :=
  .next (s.onMessage source dest true (takeMark minute.toNat second.toNat))

/-- The start at the settings-ready notice (R28). The phase of its seconds begins here (log entry 22). -/
def clockStart (s : State) : State :=
  raiseAlert .clockUnset (s.setClock { WeekClock.unset with tick := s.timer (seconds 1) })

end Sys2Proof.Machine
end

