-- ==== Sys2Proof/Machine/Occupancy.lean ====
section
/-!
DEFINITION. The Occupancy Counter (05_occupancy_counting.md): door decoders, the headcount, presence and vacancy, the
occupancy events, and the family of commands it takes.
-/

namespace Sys2Proof.Machine

/-! ### The door decoder (R72 to R77) -/

/-- A count a transition makes (R73). -/
inductive Pass where
  | entry | exit
deriving DecidableEq, Repr

/-- The level of one beam; true is BROKEN. -/
def BeamLevels.get (l : BeamLevels) : Beam → Bool
  | .a => l.a
  | .b => l.b

/-- One beam takes a level. -/
def BeamLevels.set (l : BeamLevels) (beam : Beam) (broken : Bool) : BeamLevels :=
  match beam with
  | .a => { l with a := broken }
  | .b => { l with b := broken }

/-- Both beams are CLEAR. -/
def BeamLevels.bothClear (l : BeamLevels) : Bool := !l.a && !l.b

/-- The transition of a decoder that is not BLOCKED, with the count it makes (R73). The cells marked "repeat" are not
reached: a repeat is ignored first (R72). -/
def DoorState.move (d : DoorState) (beam : Beam) (broken : Bool) : DoorState × Option Pass :=
  match d, beam, broken with
  | .clear, .a, true => (.outer, none)
  | .clear, .b, true => (.inner, none)
  | .outer, .a, false => (.clear, none)
  | .outer, .b, true => (.spanIn, none)
  | .inner, .a, true => (.spanOut, none)
  | .inner, .b, false => (.clear, none)
  | .spanIn, .a, false => (.leavingIn, none)
  | .spanIn, .b, false => (.outer, none)
  | .leavingIn, .a, true => (.spanIn, none)
  | .leavingIn, .b, false => (.clear, some .entry)
  | .spanOut, .a, false => (.inner, none)
  | .spanOut, .b, false => (.leavingOut, none)
  | .leavingOut, .a, false => (.clear, some .exit)
  | .leavingOut, .b, true => (.spanOut, none)
  | d, _, _ => (d, none)

/-- A decoder takes an event that is not a repeat (R73, R75, R77). -/
def Door.take (d : Door) (beam : Beam) (broken : Bool) (now : Nat) : Door × Option Pass :=
  let beams := d.beams.set beam broken
  if d.state = .blocked then
    ({ state := if beams.bothClear then .clear else .blocked, beams := beams, blockTimer := none }, none)
  else
    let (state, pass) := d.state.move beam broken
    ({ state := state, beams := beams, blockTimer := if beams.bothClear then none else some (now + seconds 6) }, pass)

/-! ### Occupancy events (R85) -/

/-- A block takes an occupancy event by its own chapter. -/
def takeOccupancy (e : OccupancyEvent) (b : Block) (s : State) : State :=
  match b with
  | .session => sessionOccupancy e s
  | .air => airOccupancy e s
  | .light => lightOccupancy e s
  | .blind => blindOccupancy e s
  | .panel => panelOccupancy e s
  | .clock | .intake | .counter | .peers | .alert => s

/-- The Counter sends its events in order, each with N and the vacant flag as they stand after its changes (R85). -/
def sendOccupancy (kinds : List OccupancyKind) (before : Nat) (s : State) : State :=
  forEach kinds (fun kind s =>
    fanOut [.session, .air, .light, .blind, .panel]
      (takeOccupancy { kind := kind, before := before, count := s.counter.count, vacant := s.counter.vacant }) s) s

/-! ### The headcount, presence and vacancy (R79 to R83) -/

/-- The vacancy hold in ms. -/
def Settings.hold (c : Settings) : Nat := minutes c.vacancyHold

/-- Vacancy left is sent where the vacant flag was yes (R83, R85). -/
def withVacancyLeft (kind : OccupancyKind) (wasVacant : Bool) : List OccupancyKind :=
  if wasVacant then [kind, .vacancyLeft] else [kind]

/-- A count of ENTRY (R79, R81). -/
def countEntry (s : State) : State :=
  let before := s.counter.count
  let wasVacant := s.counter.vacant
  let s := s.setCounter { s.counter with
    count := min (before + 1) s.loader.settings.capacity
    vacant := false
    quietTimer := s.timer s.loader.settings.hold }
  sendOccupancy (withVacancyLeft .entry wasVacant) before s

/-- A count of EXIT (R79, R81). -/
def countExit (s : State) : State :=
  let before := s.counter.count
  sendOccupancy [.exit] before (s.setCounter { s.counter with count := before - 1 })

/-- A motion pulse (R80). -/
def takePulse (s : State) : State :=
  let before := s.counter.count
  let wasVacant := s.counter.vacant
  let s := s.setCounter { s.counter with
    count := max 1 before
    vacant := false
    quietTimer := s.timer s.loader.settings.hold }
  sendOccupancy (withVacancyLeft .motion wasVacant) before s

/-- The quiet timer expires (R82). -/
def judgeQuiet (s : State) : State :=
  let before := s.counter.count
  if before ≤ 3 then
    sendOccupancy [.vacancyReached] before (s.setCounter { s.counter with count := 0, vacant := true, quietTimer := none })
  else s.setCounter { s.counter with quietTimer := s.timer s.loader.settings.hold }

/-! ### Beam events -/

/-- Some fitted door is BLOCKED. -/
def Counter.anyBlocked (c : Counter) : Bool := c.doors.any (fun d => d.state = .blocked)

/-- DOOR_BLOCKED is cleared when a decoder has left BLOCKED and no other is in it (R77). -/
def clearBlocked (wasBlocked : Bool) (s : State) : State :=
  if wasBlocked && !s.counter.anyBlocked then clearAlert .doorBlocked s else s

/-- A count goes to the headcount (R73). -/
def countPass (pass : Option Pass) (s : State) : State :=
  match pass with
  | none => s
  | some .entry => countEntry s
  | some .exit => countExit s

/-- A beam event at a fitted door; a repeat is ignored (R72, R73, R77). -/
def takeBeam (number : Nat) (beam : Beam) (broken : Bool) (s : State) : State :=
  match pick? s.counter.doors number with
  | none => s
  | some d =>
    if d.beams.get beam = broken then s
    else
      let (after, pass) := d.take beam broken s.now
      let s := s.setCounter { s.counter with doors := put s.counter.doors number after }
      countPass pass (clearBlocked (decide (d.state = .blocked)) s)

/-- A beam moves: the field line shows it, and a started station takes the event (R72, R78). -/
def moveBeam (number : Nat) (beam : Beam) (broken : Bool) (s : State) : State :=
  let levels := (pick? s.lines.beams number).getD { a := false, b := false }
  let s := s.setLines { s.lines with beams := put s.lines.beams number (levels.set beam broken) }
  s.whileStarted (takeBeam number beam broken)

/-- The block timer expires (R76). -/
def blockDoor (number : Nat) (s : State) : State :=
  match pick? s.counter.doors number with
  | none => s
  | some d =>
    raiseAlert .doorBlocked (s.setCounter { s.counter with
      doors := put s.counter.doors number { d with state := .blocked, blockTimer := none } })

/-! ### Start (R78, R86) -/

/-- A decoder as the start finds its beams: break events taken for A and then for B, from CLEAR (R78). -/
def startDoor (levels : BeamLevels) (now : Nat) : Door :=
  let d : Door := { state := .clear, beams := { a := false, b := false }, blockTimer := none }
  let d := if levels.a then (d.take .a true now).1 else d
  if levels.b then (d.take .b true now).1 else d

/-- The start at the settings-ready notice (R78, R86). -/
def counterStart (s : State) : State :=
  s.setCounter
    { doors := (s.lines.beams.take s.loader.settings.doors).map (startDoor · s.now)
      count := 0
      vacant := false
      quietTimer := s.timer s.loader.settings.hold }

/-! ### Commands -/

/-- BEAM_BREAK (R73). -/
def execBeamBreak (door : Nat) (beam : Beam) (s : State) : Host.Outcome State Fault Refusal := .next (moveBeam door beam true s)

/-- BEAM_CLEAR (R73). -/
def execBeamClear (door : Nat) (beam : Beam) (s : State) : Host.Outcome State Fault Refusal := .next (moveBeam door beam false s)

/-- The block timer of a door. -/
def Counter.blockTimerOf (c : Counter) (number : Nat) : Timer := (pick? c.doors number).bind (·.blockTimer)

/-- BLOCK_TIMER_EXPIRY (R76). -/
def execBlockTimerExpiry (door : Nat) (s : State) : Host.Outcome State Fault Refusal :=
  .next (s.whileStarted fun s => s.onExpiry (s.counter.blockTimerOf door) (blockDoor door))

/-- MOTION_PULSE (R80): every pulse from any of the four presence inputs acts alike. -/
def execMotionPulse (input : Nat) (s : State) : Host.Outcome State Fault Refusal :=
  .next (if 1 ≤ input ∧ input ≤ 4 then s.whileStarted takePulse else s)

/-- QUIET_TIMER_EXPIRY (R82). -/
def execQuietTimerExpiry (s : State) : Host.Outcome State Fault Refusal :=
  .next (s.whileStarted fun s => s.onExpiry s.counter.quietTimer judgeQuiet)

end Sys2Proof.Machine
end

