-- ==== Sys2Proof/Machine/Peers.lean ====
section
/-!
DEFINITION. The Peer Table (06_peer_table.md): admission, finding or making an entry, recording each kind, guard expiry,
the aging sweep, removal, notices, and the family of neighbour messages.
-/

namespace Sys2Proof.Machine

/-- A message of a neighbour, as the table records it (R91). Times are in ms of the time base. -/
inductive PeerMessage where
  | claim (figures : ClaimFigures)
  | withdraw
  | sun (glare : Nat)
  | start (drives guard arrival : Nat)
  | stop (drives : Nat)
deriving DecidableEq, Repr

/-- The notices of R101: the cause, the peer, and the part's values as they stand after the change where the part is still
present. -/
inductive PeerNotice where
  | claimAdded (peer : Byte) (figures : ClaimFigures)
  | claimChanged (peer : Byte) (figures : ClaimFigures)
  | claimRemoved (peer : Byte)
  | sunRecorded (peer : Byte) (glare : Nat)
  | sunFresh (peer : Byte) (glare : Nat)
  | sunStale (peer : Byte) (glare : Nat)
  | sunRemoved (peer : Byte)
  | feederChanged (peer : Byte) (drives : Nat)
  | feederRemoved (peer : Byte)
  | startHeard (peer : Byte) (drives arrival : Nat)
  | endHeard (peer : Byte) (drives : Nat)
  | emptied
deriving DecidableEq, Repr

/-! ### Admission (R91) -/

/-- A CLAIM concerns this station and can be held, or withdraws. -/
def Settings.admitsClaim (c : Settings) (trunk demand minimum claimClass : Nat) (withdraw : Bool) : Bool :=
  c.trunk != 0 && trunk == c.trunk &&
    (withdraw || (decide (minimum ≤ demand) && decide (demand ≤ 4000) && decide (claimClass ≤ 3)))

/-- A message names the own façade, which is not 0. -/
def Settings.sharesFacade (c : Settings) (facade : Nat) : Bool := c.facade != 0 && facade == c.facade

/-- A SUN READING concerns this station and can be held. -/
def Settings.admitsSun (c : Settings) (facade glare klux : Nat) : Bool :=
  c.sharesFacade facade && decide (glare ≤ 100) && decide (klux ≤ 150)

/-- A drive count that can be held. -/
def goodDrives (count : Nat) : Bool := decide (1 ≤ count) && decide (count ≤ 4)

/-- A FEEDER START concerns this station and can be held. -/
def Settings.admitsStart (c : Settings) (facade count duration : Nat) : Bool :=
  c.sharesFacade facade && goodDrives count && decide (1 ≤ duration) && decide (duration ≤ 150)

/-- A FEEDER END concerns this station and can be held. -/
def Settings.admitsEnd (c : Settings) (facade count : Nat) : Bool := c.sharesFacade facade && goodDrives count

/-! ### Recording (R93 to R96) -/

/-- The message makes an entry where none holds its source (R92, step 2). -/
def PeerMessage.adds : PeerMessage → Bool
  | .claim _ | .sun _ | .start .. => true
  | .withdraw | .stop _ => false

/-- The start heard or end heard of a message, passed on whether or not it is recorded (R95, R96). -/
def PeerMessage.heard (peer : Byte) : PeerMessage → List PeerNotice
  | .start drives _ arrival => [.startHeard peer drives arrival]
  | .stop drives => [.endHeard peer drives]
  | .claim _ | .withdraw | .sun _ => []

/-- The feeder part after a FEEDER START (R95). -/
def startedFeeder (held : Option FeederPart) (drives guard : Nat) : FeederPart :=
  match held with
  | none => { drives := drives, guard := guard }
  | some f => { drives := min (f.drives + drives) 4, guard := max f.guard guard }

/-- The feeder part after a FEEDER END (R96). -/
def endedFeeder (held : FeederPart) (drives : Nat) : Option FeederPart :=
  if drives < held.drives then some { held with drives := held.drives - drives } else none

/-- The notice of a feeder part as it stands after its change (R95 to R97). -/
def feederNotice (peer : Byte) (after : Option FeederPart) : PeerNotice :=
  match after with
  | some f => .feederChanged peer f.drives
  | none => .feederRemoved peer

/-- A message acts on the entry that records it, with the notice its kind gives (R93 to R96). -/
def Peer.take (p : Peer) (m : PeerMessage) : Peer × List PeerNotice :=
  match m with
  | .claim f =>
    match p.claim with
    | none => ({ p with claim := some f }, [.claimAdded p.address f])
    | some held => if held = f then (p, []) else ({ p with claim := some f }, [.claimChanged p.address f])
  | .withdraw => if p.claim.isSome then ({ p with claim := none }, [.claimRemoved p.address]) else (p, [])
  | .sun glare => ({ p with sun := some glare }, [.sunRecorded p.address glare])
  | .start drives guard _ =>
    let after := startedFeeder p.feeder drives guard
    ({ p with feeder := some after }, [feederNotice p.address (some after)])
  | .stop drives =>
    match p.feeder with
    | none => (p, [])
    | some f => ({ p with feeder := endedFeeder f drives }, [feederNotice p.address (endedFeeder f drives)])

/-- The sun fresh notice of a message other than a SUN READING, to an entry of age 2 with a sun part (R94). -/
def Peer.freshNotice (p : Peer) (m : PeerMessage) : List PeerNotice :=
  match p.sun, m with
  | none, _ | some _, .sun _ => []
  | some glare, .claim _ | some glare, .withdraw | some glare, .start .. | some glare, .stop _ =>
    if p.age = 2 then [.sunFresh p.address glare] else []

/-- An entry records a message: its age becomes 0 first (R92). The notices are in the order R94 to R96 give. -/
def Peer.record (p : Peer) (m : PeerMessage) : Peer × List PeerNotice :=
  let (q, notices) := { p with age := 0 }.take m
  (q, m.heard p.address ++ notices ++ p.freshNotice m)

/-- A new entry, without parts (R89). -/
def Peer.new (address : Byte) : Peer := { address := address, age := 0, claim := none, sun := none, feeder := none }

/-- The removal notices of an entry (R100). -/
def Peer.removal (p : Peer) : List PeerNotice :=
  (if p.claim.isSome then [.claimRemoved p.address] else []) ++ (if p.sun.isSome then [.sunRemoved p.address] else [])
    ++ (if p.feeder.isSome then [.feederRemoved p.address] else [])

/-- The sun stale notice of a visit that makes an entry's age 2 (R98). -/
def Peer.staleNotice (p : Peer) : List PeerNotice :=
  match p.sun with
  | some glare => if p.age = 1 then [.sunStale p.address glare] else []
  | none => []

/-! ### Finding or making an entry (R92) -/

/-- The slot that holds an address. -/
def PeerTable.slotOf (t : PeerTable) (address : Byte) : Option Nat :=
  t.slots.findIdx? (fun slot => (slot.map (·.address == address)).getD false)

/-- The lowest empty slot. -/
def PeerTable.freeSlot (t : PeerTable) : Option Nat := t.slots.findIdx? (·.isNone)

/-- The lowest slot that holds an entry of an age. -/
def PeerTable.slotOfAge (t : PeerTable) (age : Nat) : Option Nat :=
  t.slots.findIdx? (fun slot => (slot.map (·.age == age)).getD false)

/-- The entry to replace: the greatest age, 1 or more, at the lowest slot. -/
def PeerTable.replaceable (t : PeerTable) : Option Nat :=
  match t.slotOfAge 2 with
  | some i => some i
  | none => t.slotOfAge 1

/-- What an event does to the table: the table, the change of PEER_TABLE_FULL if any, and the notices in order. -/
structure TableWork where
  table : PeerTable
  full : Option Bool
  notices : List PeerNotice
deriving DecidableEq, Repr

/-- A new entry records a message in a slot, after the notices of what stood there. -/
def PeerTable.create (t : PeerTable) (i : Nat) (address : Byte) (m : PeerMessage) (full : Option Bool)
    (first : List PeerNotice) : TableWork :=
  let (p, notices) := (Peer.new address).record m
  { table := { t with slots := t.slots.set i (some p) }, full := full, notices := first ++ notices }

/-- The entry a slot holds. -/
def PeerTable.entryAt (t : PeerTable) (i : Nat) : Option Peer := (t.slots[i]?).getD none

/-- An admitted message finds its entry, makes one, replaces one, or is not recorded (R92). -/
def PeerTable.take (t : PeerTable) (address : Byte) (m : PeerMessage) : TableWork :=
  match (t.slotOf address).bind (fun i => (t.entryAt i).map (fun p => (i, p))) with
  | some (i, p) =>
    let (q, notices) := p.record m
    { table := { t with slots := t.slots.set i (some q) }, full := none, notices := notices }
  | none =>
    if !m.adds then { table := t, full := none, notices := m.heard address }
    else
      match t.freeSlot, t.replaceable with
      | some i, _ => t.create i address m none []
      | none, some i => t.create i address m (some false) (((t.entryAt i).map Peer.removal).getD [])
      | none, none => { table := t, full := some true, notices := m.heard address }

/-! ### Notices (R101) -/

/-- The Blind Controller takes a notice: glare at a sun notice (R145), re-checks at a feeder notice and an end heard
(R159), the settle window at a start heard (R158), both at the emptied table. -/
def blindNotice (n : PeerNotice) (s : State) : State :=
  match n with
  | .claimAdded .. | .claimChanged .. | .claimRemoved _ => s
  | .sunRecorded .. | .sunFresh .. | .sunStale .. | .sunRemoved _ => recomputeGlare s
  | .feederChanged .. | .feederRemoved _ | .endHeard .. => settleStage stageRounds true s
  | .startHeard peer drives arrival => startHeard peer drives arrival s
  | .emptied => settleStage stageRounds true (recomputeGlare s)

/-- The Air Controller takes a notice (R118). -/
def airNotice (n : PeerNotice) (s : State) : State :=
  match n with
  | .claimAdded .. | .claimChanged .. | .claimRemoved _ | .emptied => airClaimNotice s
  | .sunRecorded .. | .sunFresh .. | .sunStale .. | .sunRemoved _ | .feederChanged .. | .feederRemoved _ | .startHeard ..
  | .endHeard .. => s

/-- A block takes a notice of the table. -/
def takeNotice (n : PeerNotice) (b : Block) (s : State) : State :=
  match b with
  | .air => airNotice n s
  | .blind => blindNotice n s
  | .clock | .intake | .session | .counter | .peers | .light | .panel | .alert => s

/-- The table's changes are made and its notices then sent, in order (R101). -/
def deliver (w : TableWork) (s : State) : State :=
  let s := s.setPeers w.table
  let s :=
    match w.full with
    | none => s
    | some full => alertIs .peerTableFull full s
  forEach w.notices (fun n => fanOut [.air, .blind] (takeNotice n)) s

/-- An admitted message is taken; one that is not admitted changes nothing (R91). -/
def takePeer (admitted : Bool) (address : Byte) (m : PeerMessage) (s : State) : State :=
  if admitted then deliver (s.peers.take address m) s else s

/-! ### Guard expiry and the sweep (R97, R98) -/

/-- The guard expiry of a peer's feeder part. -/
def PeerTable.guardOf (t : PeerTable) (address : Byte) : Timer :=
  ((t.slotOf address).bind t.entryAt).bind (fun p => p.feeder.map (·.guard))

/-- A feeder part is removed at its guard expiry (R97). -/
def PeerTable.expire (t : PeerTable) (address : Byte) : TableWork :=
  match (t.slotOf address).bind (fun i => (t.entryAt i).map (fun p => (i, p))) with
  | some (i, p) =>
    { table := { t with slots := t.slots.set i (some { p with feeder := none }) }, full := none
      notices := [.feederRemoved address] }
  | none => { table := t, full := none, notices := [] }

/-- One sweep visit to the slot at the pointer, which then advances (R98, R100). -/
def PeerTable.visit (t : PeerTable) : TableWork :=
  let moved := { t with pointer := (t.pointer + 1) % 32 }
  match t.entryAt t.pointer with
  | none => { table := moved, full := none, notices := [] }
  | some p =>
    if p.age < 2 then
      { table := { moved with slots := t.slots.set t.pointer (some { p with age := p.age + 1 }) }
        full := none
        notices := p.staleNotice }
    else { table := { moved with slots := t.slots.set t.pointer none }, full := some false, notices := p.removal }

/-- The sweep timer expires; it runs on with its period of 2 s (R98). -/
def sweep (due : Nat) (s : State) : State :=
  deliver { s.peers with sweepTimer := some (due + seconds 2) }.visit s

/-! ### Start and restart (R90) -/

/-- The start at the settings-ready notice (R90). -/
def peersStart (s : State) : State := s.setPeers { PeerTable.empty with sweepTimer := s.timer (seconds 2) }

/-- A SERVICE RESTART (R90): every slot is emptied at once, with one table emptied notice. -/
def peersRestart (s : State) : State :=
  deliver { table := { PeerTable.empty with sweepTimer := s.timer (seconds 2) }, full := some false, notices := [.emptied] } s

/-! ### Commands -/

/-- CLAIM (R93). -/
def execClaim (source dest trunk : Byte) (demand minimum : Word) (claimClass : Byte) (withdraw : Bool) (s : State) :
    Host.Outcome State Fault Refusal :=
  .next (s.onMessage source dest true (takePeer
    (s.loader.settings.admitsClaim trunk.toNat demand.toNat minimum.toNat claimClass.toNat withdraw) source
    (if withdraw then .withdraw
     else .claim { demand := demand.toNat, minimum := minimum.toNat, claimClass := claimClass.toNat })))

/-- SUN_READING (R94). -/
def execSunReading (source dest facade glare klux : Byte) (s : State) : Host.Outcome State Fault Refusal :=
  .next (s.onMessage source dest true (takePeer (s.loader.settings.admitsSun facade.toNat glare.toNat klux.toNat) source
    (.sun glare.toNat)))

/-- FEEDER_START (R95). The guard expiry is 5 s beyond the announced run, from the arrival time. -/
def execFeederStart (source dest facade count duration : Byte) (arrival : Nat) (s : State) :
    Host.Outcome State Fault Refusal :=
  .next (s.onMessage source dest true (takePeer
    (s.loader.settings.admitsStart facade.toNat count.toNat duration.toNat) source
    (.start count.toNat (arrival + seconds (duration.toNat + 5)) arrival)))

/-- FEEDER_END (R96). -/
def execFeederEnd (source dest facade count : Byte) (s : State) : Host.Outcome State Fault Refusal :=
  .next (s.onMessage source dest true (takePeer (s.loader.settings.admitsEnd facade.toNat count.toNat) source
    (.stop count.toNat)))

/-- SWEEP_TIMER_EXPIRY (R98). -/
def execSweepTimerExpiry (s : State) : Host.Outcome State Fault Refusal :=
  .next (s.whileStarted fun s => s.onExpiry s.peers.sweepTimer (sweep (s.peers.sweepTimer.getD 0)))

/-- GUARD_EXPIRY (R97). -/
def execGuardExpiry (peer : Byte) (s : State) : Host.Outcome State Fault Refusal :=
  .next (s.whileStarted fun s => s.onExpiry (s.peers.guardOf peer) fun s => deliver (s.peers.expire peer) s)

end Sys2Proof.Machine
end

