-- ==== Sys2Proof/Machine/Line.lean ====
section
/-!
DEFINITION. The Bus Port on the line (02_the_room_bus.md): the quiet detector, the receiver, the transmitter with its
collisions and backoff, the end of a frame, and the family of line commands. No time passes on the line but by commands
(log entry 26).
-/

namespace Sys2Proof.Machine

/-- The receiver takes what the line shows (R14). -/
def BusPort.collect (b : BusPort) (symbol : LineSymbol) : BusPort :=
  match b.receiver, symbol with
  | .listen, .whole v => { b with collected := b.collected ++ [v] }
  | .listen, .framingError => { b with receiver := .hunt, collected := [] }
  | .hunt, _ => b

/-- A change of the Bus Port's own state. -/
def withBus (change : BusPort → BusPort) (s : State) : State := s.setBus (change s.bus)

/-- The frame in transmission ends: the attempt count returns to 0, the transmitter becomes IDLE, and an IDENTITY ends its
hold (R10, R25). -/
def BusPort.endFrame (b : BusPort) (f : Frame) : BusPort :=
  { b with transmitter := .idle, attempts := 0, hold := b.hold && f.kind != .identity }

/-- A frame ends sent or discarded, and its owner is told (R25). Only the report on a FEEDER START has an effect beside
the end of the hold (R157). -/
def endFrame (sent : Bool) (f : Frame) (s : State) : State :=
  let s := withBus (·.endFrame f) s
  if f.kind = .feederStart then feederReport sent f.tag s else s

/-- The slots chosen after the k-th collision: a free draw brought into 1 to 2^min(k, 4) (R24, log entry 9). -/
def backoffSlots (k drawn : Nat) : Nat := 1 + drawn % 2 ^ min k 4

/-- The eighth collision discards a frame (R23). -/
def collisionLimit : Nat := 8

/-- A collision of the frame in transmission (R23, R24). -/
def collide (f : Frame) (s : State) : State :=
  let k := s.bus.attempts + 1
  if collisionLimit ≤ k then endFrame false f s
  else
    (withBus ({ · with attempts := k, transmitter := .backingOff f (.chosen (backoffSlots k (Config.draw s.draws))) }) s).setDraws
      (s.draws + 1)

/-- A character is read back while SENDING (R23). -/
def readBack (f : Frame) (next : Nat) (symbol : LineSymbol) (s : State) : State :=
  let characters := f.characters (s.loader.address.getD 0)
  if (characters[next]?).map LineSymbol.whole = some symbol then
    if next + 1 = characters.length then endFrame true f s
    else withBus (fun b => { b.drive with transmitter := .sending f (next + 1) }) s
  else collide f s

/-- A character, whole or in error, has come to the end of its stop bit (R13, R14, R23). -/
def takeCharacter (symbol : LineSymbol) (s : State) : State :=
  let s := withBus (fun b => (b.seeCharacter s.now).collect symbol) s
  match s.bus.transmitter with
  | .sending f next => readBack f next symbol s
  | .idle | .backingOff .. => s

/-- A character begins with its start bit; without one the line shows no character (R13, log entry 38). -/
def takeBits (bits : LineCharacter) (s : State) : State := if hasStart bits then takeCharacter (readCharacter bits) s else s

/-- LINE_CHARACTER (R13, R14, R23). -/
def execLineCharacter (bits : LineCharacter) (s : State) : Host.Outcome State Fault Refusal :=
  .next (s.whileStarted (takeBits bits))

/-- CHARACTER_NOT_READ_BACK (R23). The character was sent, so the detector takes it as one (DEDUCED, log entry 11). -/
def missCharacter (s : State) : State :=
  match s.bus.transmitter with
  | .sending f _ => collide f (withBus (·.seeCharacter s.now) s)
  | .idle | .backingOff .. => s

def execCharacterNotReadBack (s : State) : Host.Outcome State Fault Refusal := .next (s.whileStarted missCharacter)

/-- The receiver at the quiet event: a frame under collection is complete, is judged, and is routed if accepted (R14 to
R17); HUNT returns to LISTEN. -/
def completeFrame (s : State) : State :=
  let routed :=
    match s.bus.receiver with
    | .listen => (s.route s.bus.collected).toList
    | .hunt => []
  (withBus ({ · with receiver := .listen, collected := [] }) s).setInbox (s.inbox ++ routed)

/-- The transmitter at the quiet event (R22, R24). -/
def BusPort.quiet (b : BusPort) (now : Nat) : BusPort :=
  match b.transmitter with
  | .idle => b.takeHead
  | .backingOff f (.chosen slots) => { b with transmitter := .backingOff f (.running (now + 4 * slots)) }
  | .backingOff f .elapsed => b.startFrame f
  | .backingOff _ (.running _) => b
  | .sending _ _ => b

/-- QUIET_EVENT (R13, R14, R22, R24): the receiver completes its frame, and the transmitter acts at the same event. A
routed message waits in the inbox, a SERVICE RESTART too, so the head of the old queue may be taken to SENDING before the
restart discards it (DESIGN CHOICE, log entry 36). -/
def quietLine (s : State) : State :=
  withBus (·.quiet s.now) (completeFrame (withBus ({ · with line := .quiet, quietTimer := none }) s))

def execQuietEvent (s : State) : Host.Outcome State Fault Refusal :=
  .next (s.whileStarted fun s => s.onExpiry s.bus.quietTimer quietLine)

/-- The backoff timer, once it runs. -/
def Transmitter.backoffTimer : Transmitter → Timer
  | .backingOff _ (.running due) => some due
  | .idle | .sending .. | .backingOff _ (.chosen _) | .backingOff _ .elapsed => none

/-- The backoff expires: the frame starts again on a QUIET line, and waits for the next quiet event on a BUSY one (R24). -/
def BusPort.retry (b : BusPort) : BusPort :=
  match b.transmitter, b.line with
  | .backingOff f _, .quiet => b.startFrame f
  | .backingOff f _, .busy => { b with transmitter := .backingOff f .elapsed }
  | .idle, _ | .sending .., _ => b

/-- BUS_BACKOFF_EXPIRY (R24). -/
def execBusBackoffExpiry (s : State) : Host.Outcome State Fault Refusal :=
  .next (s.whileStarted fun s => s.onExpiry s.bus.transmitter.backoffTimer (withBus BusPort.retry))

/-- The start at the settings-ready notice: HUNT, BUSY, the quiet timer started (R13, R26). -/
def busStart (s : State) : State := s.setBus { BusPort.off with quietTimer := s.timer 2 }

/-- An accepted SERVICE RESTART, as the Bus Port acts on it first (R27). A character that is cut off ends there, so the quiet
timer starts (DEDUCED, log entry 39). -/
def busRestart (s : State) : State :=
  withBus (fun b => { b with
    queue := [], transmitter := .idle, attempts := 0, hold := false
    quietTimer := if b.transmitter.isSending then s.timer 2 else b.quietTimer }) s

end Sys2Proof.Machine
end

