-- ==== Sys2Proof/Machine/Outputs.lean ====
section
/-!
DEFINITION. What the outside observes at the actuator outputs and the panel lamps, as functions of the state (R2, R119,
R136, R150, R166, R175, R178). Without power every output stands at its idle value (DESIGN CHOICE, log entry 13).
-/

namespace Sys2Proof.Machine

/-- A luminaire output by its position, from 1 to 6 (R2, R127, R136, R175). -/
def State.groupOutput (s : State) (position : Nat) : Nat :=
  match s.loader.phase with
  | .off => 0
  | .reading => if s.alert.emergency && (1 ≤ position && position ≤ 6) then 1000 else 0
  | .normal | .fallback => ((pick? s.light.groups position).map s.light.output).getD 0

/-- The damper output (R2, R119, R175). -/
def State.damperOutput (s : State) : Nat := if s.started then s.air.command else 0

/-- What a motor does. -/
inductive Motor where
  | off | up | down
deriving DecidableEq, Repr

/-- A drive's motor output (R150): on in the run's direction while RUNNING. -/
def Drive.motor (d : Drive) : Motor :=
  match d.state, d.run with
  | .running, some r => if r.up then .up else .down
  | _, _ => .off

/-- A motor output by its number; the outputs beyond the drives fitted stay off (R2, R150). -/
def State.motorOutput (s : State) (number : Nat) : Motor :=
  if s.started then ((pick? s.blind.drives number).map Drive.motor).getD .off else .off

/-- What a lamp shows; a blinking lamp is lit and dark in turn, each for the time given in ms (R166). -/
inductive Lamp where
  | dark
  | lit
  | blinking (halfPeriod : Nat)
deriving DecidableEq, Repr

/-- The regime lamp (R166). -/
def State.regimeLamp (s : State) : Lamp :=
  if s.started then
    match s.panel.regime with
    | .standby => .dark
    | .prepare => .blinking 1000
    | .inSession => .lit
  else .dark

/-- The override lamp (R166). -/
def State.overrideLamp (s : State) : Lamp :=
  if s.started then
    if s.panel.on then .lit
    else if s.panel.blinkTimer.isSome then .blinking 250
    else .dark
  else .dark

/-- The alert lamp (R166, R178). -/
def State.alertLamp (s : State) : Lamp := if s.started && s.alert.top != 0 then .lit else .dark

/-- The bits of the character the transmitter is sending, if any (R13, R22, R23). -/
def State.sending (s : State) : Option LineCharacter :=
  match s.bus.transmitter with
  | .sending f next => ((f.characters (s.loader.address.getD 0))[next]?).map characterOf
  | .idle | .backingOff .. => none

end Sys2Proof.Machine
end

