-- ==== Sys2Proof/Machine/Status.lean ====
section
/-!
DEFINITION. The STATUS REPLY (R179, R185): its body, packed from what each owner holds at the moment of assembly, and the
command STATUS_REQUEST.
-/

namespace Sys2Proof.Machine

/-- A number as four bytes, high byte first. -/
def fourBytes (n : Nat) : List Byte := twoBytes (n / 65536) ++ twoBytes n

/-- A signed number in two's complement of `bits` bits. -/
def twosComplement (bits : Nat) (v : Int) : Nat := (v % 2 ^ bits).toNat

/-- Alerts 1 to 12 in order, alert 1 the highest bit (R185, R187). -/
def alertsInOrder (alerts : BitVec 12) : Nat := alerts.reverse.toNat

/-- Half-bytes packed two to a byte, the first in the high half; an odd one stands alone in the high half (R185). -/
def packHalves : List Nat → List Byte
  | a :: b :: rest => byte (16 * a + b) :: packHalves rest
  | [a] => [byte (16 * a)]
  | [] => []

/-- Byte 0 (R185). -/
def State.statusFlags (s : State) : Byte :=
  byte (128 * flag (s.loader.phase == .fallback) + 64 * flag s.clock.running + 16 * regimeCode s.session.regime
    + 4 * (s.session.mode.map modeCode).getD 0 + 2 * flag s.counter.vacant + flag s.blind.glaring)

/-- The id of the ACTIVE entry, or 0 (R179). -/
def SessionEngine.activeId (e : SessionEngine) : Nat :=
  ((e.entries.find? (fun x => x.state = .active)).map (·.id)).getD 0

/-- The cause record as 32 bits (R185). -/
def causeField (record : Option CauseRecord) : Nat :=
  match record with
  | none => 0
  | some r => overrideCauseCode r.cause * 2 ^ 28 + r.minute * 2 ^ 14 + twosComplement 13 r.value

/-- The position byte of a drive (R185). -/
def positionByte (position : Option Nat) : Byte :=
  match position with
  | none => 0xFF
  | some p => byte p

/-- The half-byte of a drive (R185). -/
def Drive.statusHalf (d : Drive) : Nat := 8 * flag (!d.inService) + driveStateCode d.state

/-- The body of a STATUS REPLY (R185). -/
def State.statusBody (s : State) : List Byte :=
  [s.statusFlags] ++ twoBytes s.session.activeId
    ++ twoBytes (s.intake.queue.length * 4096 + s.counter.count)
    ++ [byte (32 * s.light.groups.length + s.session.entries.length)]
    ++ twoBytes s.air.demand ++ twoBytes s.air.minimum ++ twoBytes s.air.grant ++ twoBytes s.air.command
    ++ [byte s.blind.glare,
        byte (128 * flag s.panel.on + 64 * flag s.panel.boost + 8 * s.blind.drives.length
          + twosComplement 3 (s.panel.offset / 100))]
    ++ fourBytes (causeField s.panel.record)
    ++ twoBytes (16 * alertsInOrder s.alert.raised + s.alert.top)
    ++ s.light.groups.flatMap (fun g => twoBytes (s.light.output g))
    ++ s.blind.drives.map (fun d => positionByte d.position)
    ++ packHalves (s.blind.drives.map Drive.statusHalf)

/-- A STATUS REPLY is offered to the requester (R179). -/
def answerStatus (requester : Byte) (s : State) : State := offer (Frame.plain .statusReply requester s.statusBody) s

/-- STATUS_REQUEST (R179). -/
def execStatusRequest (source dest : Byte) (s : State) : Host.Outcome State Fault Refusal :=
  .next (s.onMessage source dest true (answerStatus source))

end Sys2Proof.Machine
end

