-- ==== Sys2Proof/Machine/Service.lean ====
section
/-!
DEFINITION. The emergency line (R175, R176) and the service messages (R27, R180, R181): what passes to several blocks at
once, and the commands that start it.
-/

namespace Sys2Proof.Machine

/-! ### The emergency line -/

/-- The station has power. -/
def State.powered (s : State) : Bool :=
  match s.loader.phase with
  | .off => false
  | .reading | .normal | .fallback => true

/-- The raw level moves; each change restarts the debounce timer from 50 ms (R175). -/
def moveEmergencyLine (asserted : Bool) (s : State) : State :=
  let changed := asserted != s.lines.emergency
  let s := s.setLines { s.lines with emergency := asserted }
  if changed && s.powered then s.setAlert { s.alert with debounce := s.timer 50 } else s

/-- EMERGENCY_LINE_CHANGE (R175). -/
def execEmergencyLineChange (asserted : Bool) (s : State) : Host.Outcome State Fault Refusal :=
  .next (moveEmergencyLine asserted s)

/-- A block takes an assertion by its own chapter (R123, R138, R161, R173, R175). -/
def takeAssertion (b : Block) (s : State) : State :=
  match b with
  | .air => airAssertion s
  | .light => lightAssertion s
  | .blind => blindAssertion s
  | .panel => panelAssertion s
  | .alert => raiseAlert .emergency s
  | .clock | .intake | .session | .counter | .peers => s

/-- A block takes a release by its own chapter (R124, R138, R162, R173, R175). -/
def takeRelease (b : Block) (s : State) : State :=
  match b with
  | .air => airRelease s
  | .light => lightRelease s
  | .blind => blindRelease s
  | .panel => panelRelease s
  | .alert => clearAlert .emergency s
  | .clock | .intake | .session | .counter | .peers => s

/-- The blocks that take an assertion or a release (R175): the Alert Unit alone before the others are started (R2). -/
def State.emergencyBlocks (s : State) : List Block :=
  if s.started then [.air, .light, .blind, .panel, .alert] else [.alert]

/-- The debounce timer expires: a raw level that differs becomes the emergency state, and the event is sent (R175). -/
def settleEmergency (s : State) : State :=
  let s := s.setAlert { s.alert with debounce := none }
  if s.lines.emergency = s.alert.emergency then s
  else
    let s := s.setAlert { s.alert with emergency := s.lines.emergency }
    fanOut s.emergencyBlocks (if s.lines.emergency then takeAssertion else takeRelease) s

/-- DEBOUNCE_TIMER_EXPIRY (R175). -/
def execDebounceTimerExpiry (s : State) : Host.Outcome State Fault Refusal :=
  .next (if s.powered then s.onExpiry s.alert.debounce settleEmergency else s)

/-! ### Service messages -/

/-- A block takes a SERVICE RESTART by its own chapter (R28, R42, R71, R86, R90, R126, R140, R163, R173, R178). The
Session Engine's part is in the Intake's release of the held events (R42, R71). -/
def takeRestart (b : Block) (s : State) : State :=
  match b with
  | .intake => intakeRestart s
  | .peers => peersRestart s
  | .air => airRestart s
  | .light => lightRestart s
  | .blind => blindRestart s
  | .panel => panelRestart s
  | .clock | .session | .counter | .alert => s

/-- An accepted SERVICE RESTART: the Bus Port first, the Loader's IDENTITY, then the other blocks (R27, R180). -/
def restart (s : State) : State := fanOut otherBlocks takeRestart (offerIdentity (busRestart s))

/-- SERVICE_RESTART (R27, R180). -/
def execServiceRestart (source dest : Byte) (s : State) : Host.Outcome State Fault Refusal :=
  .next (s.onMessage source dest false restart)

/-- A block takes a SERVICE CLEAR (R164, R174). -/
def takeClear (b : Block) (s : State) : State :=
  match b with
  | .blind => blindClear s
  | .panel => panelClear s
  | .clock | .intake | .session | .counter | .peers | .air | .light | .alert => s

/-- SERVICE_CLEAR (R181). -/
def execServiceClear (source dest : Byte) (s : State) : Host.Outcome State Fault Refusal :=
  .next (s.onMessage source dest false (fanOut [.blind, .panel] takeClear))

end Sys2Proof.Machine
end

