-- ==== Sys2Proof/Machine/Power.lean ====
section
/-!
DEFINITION. The Settings Loader (01_start_up_and_station_settings.md): the power-on read, the check, the choice of mode,
the clamping of the image (R187), the handover to the blocks, and the family of power commands.
-/

namespace Sys2Proof.Machine

/-! ### The image (R187) -/

/-- A byte of the image as a number. -/
def byteAt (image : Vector Byte 48) (i : Nat) : Nat := (image.toList.getD i 0).toNat

/-- A two-byte field of the image, high byte first. -/
def wordAt (image : Vector Byte 48) (i : Nat) : Nat := byteAt image i * 256 + byteAt image (i + 1)

/-- A bit of a byte of the image. -/
def bitAt (image : Vector Byte 48) (i bit : Nat) : Bool := (image.toList.getD i 0).getLsbD bit

/-- The check of the image is good (R3). -/
def imageGood (image : Vector Byte 48) : Bool :=
  crc (image.toList.take 46) == wordOf (image.toList.getD 46 0) (image.toList.getD 47 0)

/-- The group record of a group, from 1 (R187). -/
def groupAt (image : Vector Byte 48) (number : Nat) : GroupSetting :=
  { window := bitAt image (18 + number) 0, handSelect := bitAt image (18 + number) 1 }

/-- The clamped image (R1, R5, R187). -/
def settle (image : Vector Byte 48) : Settings where
  trunk := clamp 0 15 (byteAt image 1)
  trunkCapacity := clamp 100 20000 (wordAt image 2)
  facade := clamp 0 7 (byteAt image 4)
  sunSensor := bitAt image 5 0
  feederLimit := clamp 1 16 (byteAt image 6)
  area := clamp 10 600 (wordAt image 7)
  areaRate := clamp 0 20 (byteAt image 9)
  personRate := clamp 50 150 (byteAt image 10)
  capacity := clamp 1 400 (wordAt image 11)
  maxFlow := clamp 50 4000 (wordAt image 13)
  setpoint := clamp 600 1400 (wordAt image 15)
  doors := clamp 0 2 (byteAt image 17)
  groups := (List.range (clamp 1 6 (byteAt image 18))).map (fun i => groupAt image (i + 1))
  travel := (List.range (clamp 0 4 (byteAt image 25))).map (fun i => clamp 10 120 (byteAt image (26 + i)))
  vacancyHold := clamp 5 30 (byteAt image 30)
  graceMinutes := clamp 5 30 (byteAt image 31)
  park := clamp 0 100 (byteAt image 32)
  mask := (((image.toList.getD 33 0) ++ (image.toList.getD 34 0)).extractLsb' 4 12).reverse

/-- A value in its range. -/
def within (low high n : Nat) : Bool := decide (low ≤ n) && decide (n ≤ high)

/-- Some field that is judged lies outside its range (R1, R5). The drive records are those of the clamped number. -/
def needsClamp (image : Vector Byte 48) : Bool :=
  !(within 0 15 (byteAt image 1) && within 100 20000 (wordAt image 2) && within 0 7 (byteAt image 4)
    && within 1 16 (byteAt image 6) && within 10 600 (wordAt image 7) && within 0 20 (byteAt image 9)
    && within 50 150 (byteAt image 10) && within 1 400 (wordAt image 11) && within 50 4000 (wordAt image 13)
    && within 600 1400 (wordAt image 15) && within 0 2 (byteAt image 17) && within 1 6 (byteAt image 18)
    && within 0 4 (byteAt image 25)
    && (List.range (clamp 0 4 (byteAt image 25))).all (fun i => within 10 120 (byteAt image (26 + i)))
    && within 5 30 (byteAt image 30) && within 5 30 (byteAt image 31) && within 0 100 (byteAt image 32))

/-- The address field of the image where it can be a working address (R4). -/
def imageAddress (image : Vector Byte 48) : Option Byte :=
  if 1 ≤ byteAt image 0 ∧ byteAt image 0 ≤ 254 then some (image.toList.getD 0 0) else none

/-! ### Handing over (R4, R6, R8) -/

/-- The start of the Alert Unit at the settings-ready notice (R175, R178). -/
def alertStart (s : State) : State :=
  let s := s.setAlert { s.alert with mask := s.loader.settings.mask }
  if s.alert.emergency then raiseAlert .emergency s else s

/-- The start of the Session Engine (R52, R71). -/
def sessionStart (s : State) : State := s.setSession SessionEngine.empty

/-- A block takes its settings-ready notice (R6). -/
def takeStart (b : Block) (s : State) : State :=
  match b with
  | .clock => clockStart s
  | .intake => intakeStart s
  | .session => sessionStart s
  | .counter => counterStart s
  | .peers => peersStart s
  | .air => airStart s
  | .light => lightStart s
  | .blind => blindStart s
  | .panel => panelStart s
  | .alert => alertStart s

/-- The mode is taken with its settled values and the alerts of R8, and the blocks are started: the Bus Port first, then
the IDENTITY, then the others (R4, R6, R8). -/
def takeMode (phase : Phase) (address : Option Byte) (settings : Settings) (clamped : Bool) (s : State) : State :=
  let s := s.setLoader { phase := phase, readTimer := none, address := address, settings := settings }
  let s := alertIs .configClamped clamped (alertIs .configFallback (phase == .fallback) s)
  fanOut otherBlocks takeStart (offerIdentity (busStart s))

/-- The image is judged (R3, R4). -/
def judgeImage (image : Vector Byte 48) (s : State) : State :=
  match imageGood image, imageAddress image with
  | true, some address => takeMode .normal (some address) (settle image) (needsClamp image) s
  | true, none => takeMode .fallback none .fallback false s
  | false, address => takeMode .fallback address .fallback false s

/-! ### Power -/

/-- Every block at its value without power; the field lines, the model's queue and its own fields stay. -/
def blocksOff (s : State) : State :=
  { State.reset with pending := s.pending, now := s.now, draws := s.draws, order := s.order, lines := s.lines }

/-- Power is applied: the read begins with its timer, and the debounce timer runs (R2, R175). -/
def powerUp (s : State) : State :=
  match s.loader.phase with
  | .off =>
    let s := blocksOff s
    (s.setLoader { s.loader with phase := .reading, readTimer := s.timer 1000 }).setAlert
      { s.alert with debounce := s.timer 50 }
  | .reading | .normal | .fallback => s

/-! ### Commands -/

/-- POWER_ON (R2). -/
def execPowerOn (s : State) : Host.Outcome State Fault Refusal := .next (powerUp s)

/-- READ_COMPLETION (R2 to R5). -/
def execReadCompletion (image : Vector Byte 48) (s : State) : Host.Outcome State Fault Refusal :=
  .next (if s.loader.phase = .reading then judgeImage image s else s)

/-- READ_TIMER_EXPIRY (R2, R4). -/
def execReadTimerExpiry (s : State) : Host.Outcome State Fault Refusal :=
  .next (if s.loader.phase = .reading then
    s.onExpiry s.loader.readTimer (takeMode .fallback none .fallback false) else s)

/-- POWER_LOSS (R2, R26): everything the blocks hold is lost. -/
def execPowerLoss (s : State) : Host.Outcome State Fault Refusal := .next (blocksOff s)

end Sys2Proof.Machine
end

