-- ==== Sys2Proof/Machine/Timers.lean ====
section
/-!
DEFINITION. The station's time base. While no command waits, the frames routed and the timers due are taken, and else a
millisecond passes (DESIGN CHOICE, safe, log entry 3).
-/

namespace Sys2Proof.Machine

/-- A running timer with the command of its expiry. -/
structure DueTimer where
  due : Nat
  command : Instr
deriving DecidableEq, Repr

/-- A timer, if it runs. -/
def dueTimer (timer : Timer) (command : Instr) : List DueTimer :=
  match timer with
  | some due => [{ due := due, command := command }]
  | none => []

/-- The timers of numbered things, from 1. -/
def numberedTimers {α : Type} (xs : List α) (timer : α → Timer) (command : Nat → Instr) : List DueTimer :=
  (xs.mapIdx (fun i x => dueTimer (timer x) (command (i + 1)))).flatten

/-- The expiry of a RUNNING drive: its run timer, or its watchdog (R151, R152). -/
def driveExpiry (d : Drive) (number : Nat) : List DueTimer :=
  match d.run with
  | none => []
  | some r => dueTimer d.due (if r.kind = .intermediate then .runTimerExpiry number else .runWatchdogExpiry number)

/-- The backoff of a start group, named by a drive it holds (R159). -/
def backoffExpiry (b : Blind) (k : GroupBackoff) : List DueTimer :=
  match b.groupIn k.group .waitFeeder with
  | [] => []
  | number :: _ => [{ due := k.due, command := .feederBackoffExpiry number }]

/-- The guard expiry of a slot (R97). -/
def guardTimer (slot : Option Peer) : List DueTimer :=
  match slot with
  | none => []
  | some p => dueTimer (p.feeder.map (·.guard)) (.guardExpiry p.address)

/-- The timers of the bus, the clock, the intake, the counter and the table. -/
def State.conversationTimers (s : State) : List DueTimer :=
  dueTimer s.loader.readTimer .readTimerExpiry ++ dueTimer s.alert.debounce .debounceTimerExpiry
    ++ dueTimer s.bus.quietTimer .quietEvent ++ dueTimer s.bus.transmitter.backoffTimer .busBackoffExpiry
    ++ dueTimer s.clock.tick .clockSecond ++ dueTimer (s.intake.merge.map (·.due)) .mergeCompletion
    ++ numberedTimers s.counter.doors (·.blockTimer) .blockTimerExpiry
    ++ dueTimer s.counter.quietTimer .quietTimerExpiry
    ++ dueTimer s.peers.sweepTimer .sweepTimerExpiry ++ s.peers.slots.flatMap guardTimer

/-- The timers of the air, the lights, the blinds and the panel. -/
def State.roomTimers (s : State) : List DueTimer :=
  dueTimer s.air.co2Timer .co2LossTimerExpiry ++ dueTimer s.air.rateWindow .rateWindowExpiry
    ++ dueTimer s.air.refreshTimer .claimRefreshExpiry ++ dueTimer s.air.faultTimer .damperFaultTimerExpiry
    ++ dueTimer s.air.shortfallTimer .shortfallTimerExpiry
    ++ dueTimer s.light.photoTimer .photosensorLossTimerExpiry ++ dueTimer s.light.harvestTimer .harvestTimerExpiry
    ++ numberedTimers s.light.groups (·.fade) .fadeStep ++ dueTimer s.light.warning .vacancyWarningExpiry
    ++ dueTimer s.light.hold.timer .harvestHoldReleaseExpiry
    ++ dueTimer s.blind.ageTimer .ownReadingAgeExpiry ++ dueTimer s.blind.sendTimer .sunSendTimerExpiry
    ++ dueTimer s.blind.holdTimer .glareHoldTimerExpiry ++ dueTimer s.blind.dwellTimer .dwellTimerExpiry
    ++ dueTimer s.blind.hand.timer .settleWindowExpiry ++ s.blind.backoffs.flatMap (backoffExpiry s.blind)
    ++ (s.blind.drives.mapIdx (fun i d => driveExpiry d (i + 1))).flatten
    ++ dueTimer s.panel.blinkTimer .blinkTimerExpiry

/-- The running timer due first, the first listed where several share a due time. -/
def earliest (timers : List DueTimer) : Option DueTimer :=
  timers.foldl (fun best t =>
    match best with
    | none => some t
    | some b => if t.due < b.due then some t else some b) none

/-- The expiry that has come, if any: the earliest; where several fall together, their order is the free field `order`
(log entry 8). -/
def State.dueCommand (s : State) : Option Instr :=
  match earliest (permute s.order (s.conversationTimers ++ s.roomTimers)) with
  | some t => if t.due ≤ s.now then some t.command else none
  | none => none

/-- A millisecond of the time base; none passes without power. -/
def State.tick (s : State) : State := if s.powered then s.setNow (s.now + 1) else s

end Sys2Proof.Machine
end

