-- ==== Sys2Proof/Machine/Dispatch.lean ====
section
/-!
DEFINITION. One arm per command: each calls the command's meaning.
-/

namespace Sys2Proof.Machine

def exec (i : Instr) (s : State) : Host.Outcome State Fault Refusal :=
  match i with
  | .powerOn => Sys2Proof.Machine.execPowerOn s
  | .readCompletion image => Sys2Proof.Machine.execReadCompletion image s
  | .readTimerExpiry => Sys2Proof.Machine.execReadTimerExpiry s
  | .powerLoss => Sys2Proof.Machine.execPowerLoss s
  | .lineCharacter bits => Sys2Proof.Machine.execLineCharacter bits s
  | .quietEvent => Sys2Proof.Machine.execQuietEvent s
  | .busBackoffExpiry => Sys2Proof.Machine.execBusBackoffExpiry s
  | .clockSecond => Sys2Proof.Machine.execClockSecond s
  | .timeMark source dest minute second => Sys2Proof.Machine.execTimeMark source dest minute second s
  | .sessionOffer source dest id start stop mode weekly report expected lead => Sys2Proof.Machine.execSessionOffer source dest id start stop mode weekly report expected lead s
  | .sessionAmend source dest id stop expected mode lead => Sys2Proof.Machine.execSessionAmend source dest id stop expected mode lead s
  | .sessionCancel source dest id scope => Sys2Proof.Machine.execSessionCancel source dest id scope s
  | .mergeCompletion => Sys2Proof.Machine.execMergeCompletion s
  | .beamBreak door beam => Sys2Proof.Machine.execBeamBreak door beam s
  | .beamClear door beam => Sys2Proof.Machine.execBeamClear door beam s
  | .blockTimerExpiry door => Sys2Proof.Machine.execBlockTimerExpiry door s
  | .motionPulse input => Sys2Proof.Machine.execMotionPulse input s
  | .quietTimerExpiry => Sys2Proof.Machine.execQuietTimerExpiry s
  | .claim source dest trunk demand minimum claimClass withdraw => Sys2Proof.Machine.execClaim source dest trunk demand minimum claimClass withdraw s
  | .sunReading source dest facade glare klux => Sys2Proof.Machine.execSunReading source dest facade glare klux s
  | .feederStart source dest facade count duration arrival => Sys2Proof.Machine.execFeederStart source dest facade count duration arrival s
  | .feederEnd source dest facade count => Sys2Proof.Machine.execFeederEnd source dest facade count s
  | .sweepTimerExpiry => Sys2Proof.Machine.execSweepTimerExpiry s
  | .guardExpiry peer => Sys2Proof.Machine.execGuardExpiry peer s
  | .co2Reading ppm => Sys2Proof.Machine.execCo2Reading ppm s
  | .co2LossTimerExpiry => Sys2Proof.Machine.execCo2LossTimerExpiry s
  | .rateWindowExpiry => Sys2Proof.Machine.execRateWindowExpiry s
  | .claimRefreshExpiry => Sys2Proof.Machine.execClaimRefreshExpiry s
  | .damperFeedback permille => Sys2Proof.Machine.execDamperFeedback permille s
  | .damperFaultTimerExpiry => Sys2Proof.Machine.execDamperFaultTimerExpiry s
  | .shortfallTimerExpiry => Sys2Proof.Machine.execShortfallTimerExpiry s
  | .photosensorReading lux => Sys2Proof.Machine.execPhotosensorReading lux s
  | .photosensorLossTimerExpiry => Sys2Proof.Machine.execPhotosensorLossTimerExpiry s
  | .harvestTimerExpiry => Sys2Proof.Machine.execHarvestTimerExpiry s
  | .fadeStep group => Sys2Proof.Machine.execFadeStep group s
  | .vacancyWarningExpiry => Sys2Proof.Machine.execVacancyWarningExpiry s
  | .harvestHoldReleaseExpiry => Sys2Proof.Machine.execHarvestHoldReleaseExpiry s
  | .wallSwitch group on => Sys2Proof.Machine.execWallSwitch group on s
  | .ownSunReading glare klux => Sys2Proof.Machine.execOwnSunReading glare klux s
  | .ownReadingAgeExpiry => Sys2Proof.Machine.execOwnReadingAgeExpiry s
  | .sunSendTimerExpiry => Sys2Proof.Machine.execSunSendTimerExpiry s
  | .glareHoldTimerExpiry => Sys2Proof.Machine.execGlareHoldTimerExpiry s
  | .dwellTimerExpiry => Sys2Proof.Machine.execDwellTimerExpiry s
  | .settleWindowExpiry => Sys2Proof.Machine.execSettleWindowExpiry s
  | .feederBackoffExpiry drive => Sys2Proof.Machine.execFeederBackoffExpiry drive s
  | .limitInput drive limit active => Sys2Proof.Machine.execLimitInput drive limit active s
  | .runTimerExpiry drive => Sys2Proof.Machine.execRunTimerExpiry drive s
  | .runWatchdogExpiry drive => Sys2Proof.Machine.execRunWatchdogExpiry drive s
  | .lightPlus => Sys2Proof.Machine.execLightPlus s
  | .lightMinus => Sys2Proof.Machine.execLightMinus s
  | .blindUp => Sys2Proof.Machine.execBlindUp s
  | .blindDown => Sys2Proof.Machine.execBlindDown s
  | .airPlus => Sys2Proof.Machine.execAirPlus s
  | .resumeKey => Sys2Proof.Machine.execResumeKey s
  | .blinkTimerExpiry => Sys2Proof.Machine.execBlinkTimerExpiry s
  | .emergencyLineChange asserted => Sys2Proof.Machine.execEmergencyLineChange asserted s
  | .debounceTimerExpiry => Sys2Proof.Machine.execDebounceTimerExpiry s
  | .statusRequest source dest => Sys2Proof.Machine.execStatusRequest source dest s
  | .serviceRestart source dest => Sys2Proof.Machine.execServiceRestart source dest s
  | .serviceClear source dest => Sys2Proof.Machine.execServiceClear source dest s
  | .characterNotReadBack => Sys2Proof.Machine.execCharacterNotReadBack s

end Sys2Proof.Machine
end

