-- ==== Sys2Proof/Machine/Step.lean ====
section
/-!
DEFINITION. One step: the command at the front of the queue is taken. With no command waiting the station takes a frame
it has routed, or a timer that is due, or lets a millisecond pass (DESIGN CHOICE, safe, log entry 3).
-/

namespace Sys2Proof.Machine

/-- What the station does of itself while no command waits. -/
def idle (s : State) : Host.Outcome State Fault Refusal :=
  match s.inbox with
  | c :: rest => exec c (s.setInbox rest)
  | [] =>
    match s.dueCommand with
    | some c => exec c s
    | none => .next s.tick

/-- One step. -/
def step (s : State) : Host.Outcome State Fault Refusal :=
  match s.pending with
  | c :: rest => exec c (s.setPending rest)
  | [] => idle s

/-- The command a word spells, put at the front of the queue; no row of the table gives bits, so no word spells one. -/
def State.withFetchWord (s : State) (nbits w : Nat) : State :=
  match decodeTableWord nbits w with
  | some c => s.setPending (c :: s.pending)
  | none => s

end Sys2Proof.Machine
end

