-- ==== Sys2Proof/Safety.lean ====
section
/-!
DEFINITION. The terms the statements use: what an event leaves alone (frames), and the laws the rules say always hold.
-/

namespace Sys2Proof.Machine

/-! ### Frames -/

/-- The quiet detector stands as it stood, or the station has begun to send on a QUIET line, whose quiet timer then waits for
the end of the character (R13, R22). -/
def BusPort.LineKept (b c : BusPort) : Prop :=
  (c.line = b.line ∧ c.quietTimer = b.quietTimer) ∨ (b.line = .quiet ∧ c.line = .busy ∧ c.quietTimer = none)

/-- What no event inside the station touches: the queues of commands, the time base, the free values, the field lines,
the settings, the alert mask, the emergency state with its debounce, and the receiving side of the Bus Port, but for a frame that
begins on a QUIET line. The transmit side and the alert set may change. -/
structure CoreFrame (s t : State) : Prop where
  pending : t.pending = s.pending
  inbox : t.inbox = s.inbox
  now : t.now = s.now
  draws : t.draws = s.draws
  order : t.order = s.order
  lines : t.lines = s.lines
  loader : t.loader = s.loader
  mask : t.alert.mask = s.alert.mask
  emergency : t.alert.emergency = s.alert.emergency
  debounce : t.alert.debounce = s.alert.debounce
  receiver : t.bus.receiver = s.bus.receiver
  collected : t.bus.collected = s.bus.collected
  line : s.bus.LineKept t.bus

/-- Beside the core, the Week Clock, the Intake, the Counter and the Peer Table are left alone, and every block keeps its
copy of the emergency state. The Session Engine and the room's blocks may change. -/
structure SessionFrame (s t : State) : Prop extends CoreFrame s t where
  clock : t.clock = s.clock
  intake : t.intake = s.intake
  counter : t.counter = s.counter
  peers : t.peers = s.peers
  airEmergency : t.air.emergency = s.air.emergency
  lightEmergency : t.light.emergency = s.light.emergency
  blindEmergency : t.blind.emergency = s.blind.emergency
  panelEmergency : t.panel.emergency = s.panel.emergency

/-- Beside that, the Session Engine is left alone: only the Air, Light, Blind and Override blocks, the transmit side of the
Bus Port and the alert set may change. -/
structure RoomFrame (s t : State) : Prop extends SessionFrame s t where
  session : t.session = s.session

/-- Only the Air Controller, the transmit side of the Bus Port and the alert set may change. -/
structure AirFrame (s t : State) : Prop extends RoomFrame s t where
  light : t.light = s.light
  blind : t.blind = s.blind
  panel : t.panel = s.panel

/-- Only the Blind Controller, the harvest hold, the transmit side of the Bus Port and the alert set may change. -/
structure BlindFrame (s t : State) : Prop extends RoomFrame s t where
  air : t.air = s.air
  light : t.light = { s.light with hold := t.light.hold }
  panel : t.panel = s.panel

/-- Only the transmit side of the Bus Port and the alert set may change. -/
structure QuietFrame (s t : State) : Prop extends RoomFrame s t where
  air : t.air = s.air
  light : t.light = s.light
  blind : t.blind = s.blind
  panel : t.panel = s.panel

/-- Only the Light Controller may change, and it keeps its copy of the emergency state. -/
def LightOnly (s t : State) : Prop := ∃ l : Light, l.emergency = s.light.emergency ∧ t = s.setLight l

/-- Only the Intake, the free values drawn, the transmit side of the Bus Port and the alert set may change. -/
def IntakeOnly (s t : State) : Prop := ∃ i d, QuietFrame ((s.setDraws d).setIntake i) t

/-- Beside that, the Session Engine and the room's blocks may change. -/
def MergeFrame (s t : State) : Prop := ∃ i d, SessionFrame ((s.setDraws d).setIntake i) t

/-- Beside the core, the Week Clock, the Intake, the Session Engine, the Counter and the Peer Table are left alone. -/
structure EmergencyFrame (s t : State) : Prop extends CoreFrame s t where
  clock : t.clock = s.clock
  intake : t.intake = s.intake
  counter : t.counter = s.counter
  peers : t.peers = s.peers
  session : t.session = s.session

/-- Every alert but those named stands as it stood. -/
def AlertsKept (touched : List Alert) (s t : State) : Prop := ∀ a, a ∉ touched → t.isRaised a = s.isRaised a

/-! ### What the commands name -/

/-- The timers of the station with the commands of their expiries. -/
def State.timers (s : State) : List DueTimer := s.conversationTimers ++ s.roomTimers

/-- Source, destination and item of a booking message (R35, R36). -/
structure Booking where
  source : Byte
  dest : Byte
  item : Item
deriving DecidableEq, Repr

/-- The booking a command brings; none for a command of another kind. -/
def bookingOf : Instr → Option Booking
  | .sessionOffer source dest id start stop mode weekly report expected lead =>
    some { source := source, dest := dest
           item := { sender := source, id := id.toNat
                     request := .offer start.toNat stop.toNat mode weekly report expected.toNat lead.toNat } }
  | .sessionAmend source dest id stop expected mode lead =>
    some { source := source, dest := dest
           item := { sender := source, id := id.toNat
                     request := .amend (stop.map BitVec.toNat) (expected.map BitVec.toNat) mode (lead.map BitVec.toNat) } }
  | .sessionCancel source dest id scope =>
    some { source := source, dest := dest, item := { sender := source, id := id.toNat, request := .cancel scope } }
  | _ => none

/-- The key a command presses; none for a command of another kind (R166). -/
def keyOf : Instr → Option Key
  | .lightPlus => some .lightPlus
  | .lightMinus => some .lightMinus
  | .blindUp => some .blindUp
  | .blindDown => some .blindDown
  | .airPlus => some .airPlus
  | .resumeKey => some .resume
  | _ => none

/-- The entry that holds an address. -/
def PeerTable.find (t : PeerTable) (address : Byte) : Option Peer := (t.slotOf address).bind t.entryAt

/-- An event of the Week Clock has been sent between two states (R40): it is held while a merge is in flight, and otherwise
the engine has taken it at once, so that its last minute taken is the event's minute. -/
def EventSent (e : ClockEvent) (minute : Nat) (s t : State) : Prop :=
  (s.intake.merge ≠ none ∧ t = s.setIntake { s.intake with heldEvents := s.intake.heldEvents ++ [e] }) ∨
    (s.intake.merge = none ∧ t = takeClockEvent e s ∧ SessionFrame s t ∧ t.session.lastMinute = some minute)

/-- A merge has begun between two states (R38, R39): its item taken, the others waiting, the merge IN_FLIGHT for 5 ms plus
35 ms × n / 24, rounded up. With 2 items or fewer left, RESUME goes to each held sender, in some order, and the set is emptied. -/
def MergeBegun (item : Item) (rest : List Item) (s t : State) : Prop :=
  ∀ i, i = { s.intake with
      queue := rest
      merge := some { item := item, due := s.now + (5 + (35 * s.session.entries.length + 23) / 24) } } →
    (2 < rest.length ∨ s.intake.heldSenders = [] → t = s.setIntake i) ∧
    (rest.length ≤ 2 → s.intake.heldSenders ≠ [] →
      ∃ order : List Byte, order.Perm s.intake.heldSenders ∧
        t = forEach order (fun sender => offer (Frame.plain .resume sender [byte rest.length]))
          ((s.setDraws (s.draws + 1)).setIntake { i with heldSenders := [] }))

/-- The regime is the one the entry states give, counting forward from a minute (R66). -/
def RegimeAt (minute : Nat) (e : SessionEngine) : Prop :=
  (∀ x ∈ e.entries, x.state = .active → (∀ y ∈ e.entries, y.state = .active → y = x) →
    e.regime = .inSession ∧ e.mode = some x.mode ∧ e.preparing = none) ∧
  ((∀ x ∈ e.entries, x.state ≠ .active ∧ x.state ≠ .precondition) →
    e.regime = .standby ∧ e.mode = none ∧ e.preparing = none) ∧
  ((∀ x ∈ e.entries, x.state ≠ .active) → ∀ x ∈ e.entries, x.state = .precondition → (∀ y ∈ e.entries, y.state = .precondition →
      y ≠ x → (x.start + 10080 - minute % 10080) % 10080 < (y.start + 10080 - minute % 10080) % 10080) →
    e.regime = .prepare ∧ e.mode = some x.mode ∧ e.preparing = some x.id ∧ e.preparingHead = x.expected)

/-- The answer is that of the first condition of a list that holds, or the last one where none does. -/
def FirstOf {α : Type} (rows : List (Prop × α)) (last answer : α) : Prop :=
  match rows with
  | [] => answer = last
  | (condition, value) :: rest => (condition → answer = value) ∧ (¬condition → FirstOf rest last answer)

/-- The inputs of the Air Controller beside CO2 and N: regime, mode, preparing headcount, boost, emergency, feedback. -/
structure Air.SameInputs (a b : Air) : Prop where
  regime : b.regime = a.regime
  mode : b.mode = a.mode
  preparingHead : b.preparingHead = a.preparingHead
  boost : b.boost = a.boost
  emergency : b.emergency = a.emergency
  feedback : b.feedback = a.feedback

/-- D, M and class are those the rules give for the inputs as they stand (R107 to R111). -/
def State.figuresCurrent (s : State) : Prop :=
  s.air.figures =
    { demand := s.air.demandNow s.loader.settings, minimum := s.air.minimumNow s.loader.settings
      claimClass := claimClassOf s.air.regime s.air.mode }

/-- The CLAIM the Air Controller offers for figures (R112). -/
def State.claimFrame (s : State) (f : ClaimFigures) (withdraw : Bool) : Frame :=
  Frame.plain .claim broadcast (claimBody s.loader.settings.trunk f withdraw)

/-- A frame's body is that of a withdrawal: D 0, M 0, class 0 and the withdraw flag (R112, R123, R184). -/
def State.withdraws (s : State) (f : Frame) : Prop := f.body = [byte s.loader.settings.trunk, 0, 0, 0, 0, 0, 1]

/-- A frame waits in the queue or is in transmission. -/
def BusPort.carries (b : BusPort) (f : Frame) : Prop :=
  f ∈ b.queue ∨ (∃ next, b.transmitter = .sending f next) ∨ ∃ wait, b.transmitter = .backingOff f wait

/-- A byte of a body, as a number. -/
def byteOf (body : List Byte) (i : Nat) : Nat := (body.getD i 0).toNat

/-- A two-byte field of a body, high byte first (R182). -/
def wordAtOf (body : List Byte) (i : Nat) : Nat := 256 * byteOf body i + byteOf body (i + 1)

/-- The IDENTITY waits first in the queue, under its hold, and carries the values the station holds; a station without a
working address queues nothing (R9, R10, R18). -/
def IdentityWaits (t : State) : Prop :=
  (t.loader.address = none → t.bus.queue = [] ∧ t.bus.hold = false) ∧
  ∀ address, t.loader.address = some address →
    t.bus.hold = true ∧ t.bus.headPlace = some 0 ∧ t.bus.queue.head? = some
      { kind := .identity, dest := 255, tag := 0
        body := [address, byte t.loader.settings.trunk, byte t.loader.settings.facade,
          byte (128 * flag (t.loader.phase == .fallback) + 64 * flag t.loader.settings.sunSensor + t.loader.settings.doors),
          byte (16 * t.loader.settings.groups.length + t.loader.settings.travel.length)] }

/-- The station as its blocks start (R13, R26, R28, R36, R37, R39, R50, R52, R78, R86, R90, R103, R127, R142, R150, R167,
R175, R178), between the state before and the state after. -/
structure StartedFrom (s t : State) : Prop where
  pending : t.pending = s.pending
  inbox : t.inbox = s.inbox
  now : t.now = s.now
  draws : t.draws = s.draws
  order : t.order = s.order
  lines : t.lines = s.lines
  receiver : t.bus.receiver = .hunt ∧ t.bus.collected = [] ∧ t.bus.line = .busy ∧ t.bus.quietTimer = some (s.now + 2)
  transmitter : t.bus.transmitter = .idle ∧ t.bus.attempts = 0
  clock : t.clock = { running := false, minute := 0, second := 0, tick := some (s.now + 1000) }
  intake : t.intake = Intake.empty
  session : t.session = SessionEngine.empty
  counter : t.counter.count = 0 ∧ t.counter.vacant = false ∧
    t.counter.quietTimer = some (s.now + t.loader.settings.vacancyHold * 60000)
  peers : t.peers = { slots := List.replicate 32 none, pointer := 0, sweepTimer := some (s.now + 2000) }
  air : t.air.co2State = .awaiting ∧ t.air.co2 = t.loader.settings.setpoint ∧ t.air.co2Timer = some (s.now + 900000) ∧
    t.air.count = 0 ∧ t.air.vacant = false ∧ t.air.regime = .standby ∧ t.air.boost = false ∧
    t.air.emergency = s.alert.emergency ∧ t.air.feedback = s.lines.damper ∧ t.air.claimClass = 0
  light : t.light.regime = .standby ∧ t.light.vacant = false ∧ t.light.scene = .standby ∧ t.light.warning = none ∧
    t.light.offset = 0 ∧ t.light.photoState = .awaiting ∧ t.light.reading = none ∧
    t.light.harvestTimer = some (s.now + 10000) ∧ t.light.photoTimer = some (s.now + 60000) ∧
    t.light.emergency = s.alert.emergency ∧ t.light.groups.length = t.loader.settings.groups.length
  blind : t.blind.own = none ∧ t.blind.glare = 0 ∧ t.blind.glaring = false ∧ t.blind.regime = .standby ∧
    t.blind.vacant = false ∧ t.blind.override = none ∧ t.blind.wanted = 0 ∧ t.blind.applied = 0 ∧
    t.blind.emergency = s.alert.emergency ∧ t.blind.drives.length = t.loader.settings.travel.length
  panel : t.panel = { on := false, offset := 0, boost := false, target := none, record := none, trapAt := none
                      blinkTimer := none, regime := .standby, mode := none, vacant := false, emergency := s.alert.emergency }
  alert : t.alert.mask = t.loader.settings.mask ∧ t.alert.emergency = s.alert.emergency ∧
    t.alert.debounce = s.alert.debounce
  clockUnset : t.isRaised .clockUnset = true
  identity : IdentityWaits t

/-- Where a drive stands once a restart has stopped it: a RUNNING one at its estimated position, or UNKNOWN on a reference
run (R151, R163). -/
def Drive.leftAt (d : Drive) (now : Nat) : Option Nat := if d.state = .running then d.estimate now else d.position

/-- The FEEDER ENDs of a restart: one for each RUNNING drive, and one for the drives of an open settle window (R153, R160,
R163). -/
def State.restartEnds (s : State) : List (List Byte) :=
  List.replicate (s.blind.drives.countP (·.state == .running)) [byte s.loader.settings.facade, 1] ++
    match s.blind.hand with
    | .window _ drives _ _ _ _ => [[byte s.loader.settings.facade, byte drives]]
    | .nothing | .awaiting .. => []

/-- What a SERVICE RESTART makes of the Blind Controller while the line is released and no clock event is held (R133, R140,
R149, R154, R157, R163), in whatever order the table emptied notice, the restart and the end of override reach it. A glare
state that the emptied table has changed may latch its target again (R149), and may withdraw a fresh START (R154). -/
structure BlindRestarted (s t : State) : Prop where
  kept : t.blind.own = s.blind.own ∧ t.blind.ageTimer = s.blind.ageTimer ∧ t.blind.lastSent = s.blind.lastSent ∧
    t.blind.sendTimer = s.blind.sendTimer ∧ t.blind.regime = s.blind.regime ∧ t.blind.mode = s.blind.mode ∧
    t.blind.vacant = s.blind.vacant ∧ t.blind.emergency = false
  wanted : t.blind.wanted = t.blind.wantedNow s.loader.settings.park
  applied : t.blind.glaring = s.blind.glaring ∨ s.blind.regime ≠ .inSession →
    t.blind.applied = t.blind.wanted ∧ t.blind.latched = false
  dwell : t.blind.dwellTimer = some (s.now + 600000)
  hand : t.blind.hand.timer = none
  orphans : ∀ o ∈ t.blind.orphans, s.blind.nextTag ≤ o.tag ∨ ∃ group, s.blind.hand = .awaiting group o.drives o.tag
  dropped : s.panel.target = none → t.blind.glaring = s.blind.glaring →
    (∀ group drives tag, s.blind.hand = .awaiting group drives tag →
      t.blind.orphans = [{ tag := tag, drives := drives }]) ∧
    (∀ group drives held lower opened due, s.blind.hand = .window group drives held lower opened due →
      t.blind.orphans = [])
  backoffs : s.isNormal = true → s.blind.drives.length ≤ 4 → t.blind.backoffs = []
  fitted : t.blind.drives.length = s.blind.drives.length
  needs : ∀ d ∈ t.blind.drives, d.state = .stopped ↔ d.inService = false ∨ d.needsRun t.blind.applied = false
  drives : ∀ number d e, pick? s.blind.drives number = some d → pick? t.blind.drives number = some e →
    s.loader.settings.facade ≠ 0 ∨ d.limits = { openEnd := false, closedEnd := false } →
    (∀ p, d.leftAt s.now = some p → p ≤ 100) →
    e.position = d.leftAt s.now ∧ e.travel = d.travel ∧ e.inService = d.inService ∧ e.streak = d.streak ∧
      e.limits = d.limits
  motors : s.loader.settings.facade ≠ 0 → (∀ d ∈ t.blind.drives, d.state ≠ .running) ∧ t.light.hold = .off
  ends : s.loader.settings.facade ≠ 0 → s.isNormal = true → s.blind.drives.length ≤ 4 →
    ((t.bus.queue.filter (·.kind == .feederEnd)).map (·.body)).Perm s.restartEnds

/-! ### Laws the rules say always hold -/

/-- The settled values lie in their ranges (R1, R5, R7). -/
structure Settings.InRange (c : Settings) : Prop where
  trunk : c.trunk ≤ 15
  trunkCapacity : 100 ≤ c.trunkCapacity ∧ c.trunkCapacity ≤ 20000
  facade : c.facade ≤ 7
  feederLimit : 1 ≤ c.feederLimit ∧ c.feederLimit ≤ 16
  area : 10 ≤ c.area ∧ c.area ≤ 600
  areaRate : c.areaRate ≤ 20
  personRate : 50 ≤ c.personRate ∧ c.personRate ≤ 150
  capacity : 1 ≤ c.capacity ∧ c.capacity ≤ 400
  maxFlow : 50 ≤ c.maxFlow ∧ c.maxFlow ≤ 4000
  setpoint : 600 ≤ c.setpoint ∧ c.setpoint ≤ 1400
  doors : c.doors ≤ 2
  groups : 1 ≤ c.groups.length ∧ c.groups.length ≤ 6
  drives : c.travel.length ≤ 4
  travel : ∀ t ∈ c.travel, 10 ≤ t ∧ t ≤ 120
  vacancyHold : 5 ≤ c.vacancyHold ∧ c.vacancyHold ≤ 30
  graceMinutes : 5 ≤ c.graceMinutes ∧ c.graceMinutes ≤ 30
  park : c.park ≤ 100

/-- A stored value is kept where it lies in its range, and brought to the nearer end where it does not (R5). -/
def NearestEnd (low high stored value : Nat) : Prop :=
  (stored < low → value = low) ∧ (low ≤ stored → stored ≤ high → value = stored) ∧ (high < stored → value = high)

/-- What mode, address and settled values have to do with each other (R4, R7). -/
structure LoaderLaw (l : Loader) : Prop where
  settings : l.settings.InRange
  fallback : l.phase ≠ .normal → l.settings = Settings.fallback
  address : ∀ a, l.address = some a → 1 ≤ a.toNat ∧ a.toNat ≤ 254
  normal : l.phase = .normal → l.address.isSome
  silent : l.phase = .off ∨ l.phase = .reading → l.address = none

/-- A transmitter holds a frame of a kind. -/
def Transmitter.holds (t : Transmitter) (kind : Kind) : Bool :=
  match t with
  | .idle => false
  | .sending f _ | .backingOff f _ => f.kind == kind

/-- The transmit side of the Bus Port, and the quiet detector beside it: while a frame is sent the line is BUSY and the quiet
timer waits (R13, log entry 39), and on a QUIET line it has expired (R10, R13, R19, R20, R22, R23, R25). -/
structure BusLaw (b : BusPort) : Prop where
  queue : b.queue.length ≤ 10
  attempts : b.attempts ≤ 7
  fresh : b.transmitter = .idle → b.attempts = 0
  claims : b.queue.countP (·.kind == .claim) ≤ 1
  suns : b.queue.countP (·.kind == .sunReading) ≤ 1
  replies : ∀ requester, b.queue.countP (fun f => f.kind == .statusReply && f.dest == requester) ≤ 1
  hold : b.hold = true → (∃ f ∈ b.queue, f.kind = .identity) ∨ b.transmitter.holds .identity = true
  sending : b.transmitter.isSending = true → b.line = .busy ∧ b.quietTimer = none
  quiet : b.line = .quiet → b.quietTimer = none

/-- The session list (R33, R34, R44, R47, R55). -/
structure ListLaw (capacity : Nat) (entries : List Entry) : Prop where
  size : entries.length ≤ 24
  ids : (entries.map (·.id)).Nodup
  inOrder : entries.Pairwise (fun a b => a.stop ≤ b.start)
  booked : ∀ e ∈ entries, e.id ≠ 0 ∧ e.start < 10080 ∧ e.stop ≤ 10080 ∧ e.start + 10 ≤ e.stop ∧ e.stop ≤ e.start + 600
  bounds : ∀ e ∈ entries, e.expected ≤ capacity ∧ e.lead ≤ 60 ∧ e.amendments ≤ 4 ∧ e.streak ≤ 2
  grace : ∀ e ∈ entries, e.grace.isSome = true ↔ e.state = .active
  repeating : ∀ e ∈ entries, e.state = .dormant ∨ e.skip = true → e.weekly = true

/-- The regime follows the entry states (R66, R67). -/
structure RegimeLaw (e : SessionEngine) : Prop where
  inSession : e.regime = .inSession ↔ ∃ x ∈ e.entries, x.state = .active
  standby : e.regime = .standby ↔ ∀ x ∈ e.entries, x.state ≠ .active ∧ x.state ≠ .precondition
  teaching : e.regime = .inSession → ∃ x ∈ e.entries, x.state = .active ∧ e.mode = some x.mode
  preparing : e.regime = .prepare → ∃ x ∈ e.entries, x.state = .precondition ∧ e.preparing = some x.id ∧
    e.mode = some x.mode ∧ e.preparingHead = x.expected
  absent : (e.regime = .standby → e.mode = none) ∧ (e.regime ≠ .prepare → e.preparing = none)

/-- A door decoder: outside BLOCKED its state determines its levels, and its block timer runs while a beam is broken (R72,
R75, R76). -/
structure DoorLaw (d : Door) : Prop where
  clear : d.state = .clear → d.beams = { a := false, b := false }
  outer : d.state = .outer ∨ d.state = .leavingOut → d.beams = { a := true, b := false }
  inner : d.state = .inner ∨ d.state = .leavingIn → d.beams = { a := false, b := true }
  span : d.state = .spanIn ∨ d.state = .spanOut → d.beams = { a := true, b := true }
  timer : d.blockTimer.isSome = true ↔ d.state ≠ .clear ∧ d.state ≠ .blocked

/-- N, the vacant flag, the quiet timer and the doors (R72, R79, R82, R83). -/
structure CounterLaw (s : State) : Prop where
  capacity : 1 ≤ s.loader.settings.capacity
  count : s.counter.count ≤ s.loader.settings.capacity
  vacant : s.counter.vacant = true → s.counter.count = 0
  quiet : s.started = true → (s.counter.vacant = true ↔ s.counter.quietTimer = none)
  doors : ∀ d ∈ s.counter.doors, DoorLaw d

/-- An entry of the Peer Table holds what its fields may hold (R89), and parts only of the kinds the station admits (R91). -/
structure PeerInRange (c : Settings) (p : Peer) : Prop where
  address : 1 ≤ p.address.toNat ∧ p.address.toNat ≤ 254
  age : p.age ≤ 2
  claim : ∀ f, p.claim = some f → c.trunk ≠ 0 ∧ f.minimum ≤ f.demand ∧ f.demand ≤ 4000 ∧ f.claimClass ≤ 3
  sun : ∀ g, p.sun = some g → c.facade ≠ 0 ∧ g ≤ 100
  feeder : ∀ f, p.feeder = some f → c.facade ≠ 0 ∧ 1 ≤ f.drives ∧ f.drives ≤ 4

/-- The Peer Table (R16, R89, R92, R98). -/
structure PeerLaw (s : State) : Prop where
  slots : s.peers.slots.length = 32
  pointer : s.peers.pointer < 32
  entries : ∀ p, some p ∈ s.peers.slots → PeerInRange s.loader.settings p ∧ s.loader.address ≠ some p.address
  distinct : ∀ i j : Nat, ∀ p q, s.peers.slots[i]? = some (some p) → s.peers.slots[j]? = some (some q) →
    p.address = q.address → i = j
  empty : s.started = false → ∀ p, some p ∉ s.peers.slots

/-- Every block's copy of the regime, N, the vacant flag and the override values is what their owners hold (R68, R85, R110,
R136, R148, R172), the light scene is the one R128 derives from the copies, and an override that is OFF holds no adjustment
(R172). -/
structure RoomLaw (s : State) : Prop where
  air : s.air.regime = s.session.regime ∧ s.air.mode = s.session.mode ∧ s.air.count = s.counter.count ∧
    s.air.vacant = s.counter.vacant ∧ s.air.boost = s.panel.boost
  light : s.light.regime = s.session.regime ∧ s.light.mode = s.session.mode ∧ s.light.vacant = s.counter.vacant ∧
    s.light.offset = s.panel.offset
  scene : s.light.scene = sceneOf s.light.regime s.light.mode s.light.vacant
  blind : s.blind.regime = s.session.regime ∧ s.blind.mode = s.session.mode ∧ s.blind.vacant = s.counter.vacant ∧
    s.blind.override = s.panel.target
  panel : s.panel.regime = s.session.regime ∧ s.panel.mode = s.session.mode ∧ s.panel.vacant = s.counter.vacant
  prepare : s.session.regime = .prepare → s.air.preparingHead = s.session.preparingHead
  off : s.panel.on = false → s.panel.offset = 0 ∧ s.panel.boost = false ∧ s.panel.target = none
  band : -300 ≤ s.panel.offset ∧ s.panel.offset ≤ 300 ∧ s.panel.offset % 100 = 0
  target : ∀ t, s.panel.target = some t → t ≤ 100

/-- What the emergency state binds in a started station (R123, R125, R138, R161, R173, R175, R176). The only fade then in
flight is one the photosensor pin has started: of a WINDOW group that is not hand-select, toward a lit scene's INNER level
(R131). -/
structure EmergencyLaw (s : State) : Prop where
  alert : s.isRaised .emergency = s.alert.emergency
  copies : s.started = true → s.air.emergency = s.alert.emergency ∧ s.light.emergency = s.alert.emergency ∧
    s.blind.emergency = s.alert.emergency ∧ s.panel.emergency = s.alert.emergency
  air : s.started = true → s.alert.emergency = true → s.air.grant = 0 ∧ s.air.command = 0 ∧ s.air.refreshTimer = none
  light : s.started = true → s.alert.emergency = true → s.light.warning = none ∧
    ∀ g ∈ s.light.groups, g.fade.isSome = true →
      g.window = true ∧ g.handSelect = false ∧ g.target ∈ [150, 500, 600, 700, 800, 900]
  blind : s.started = true → s.alert.emergency = true → s.blind.hand = .nothing ∧ s.blind.backoffs = [] ∧
    ∀ d ∈ s.blind.drives, d.state = .stopped
  panel : s.started = true → s.alert.emergency = true → s.panel.on = false

/-- The drives hold a slot in the states that do. -/
def Drive.holdsSlot (d : Drive) : Bool := d.state == .waitFeeder || d.state == .settling || d.state == .running

/-- The drives and the stage (R150, R152, R155). -/
structure DriveLaw (b : Blind) : Prop where
  slots : b.drives.countP (·.holdsSlot) ≤ 2
  out : ∀ d ∈ b.drives, d.inService = false → d.state = .stopped
  streak : ∀ d ∈ b.drives, d.streak ≤ 3
  running : ∀ d ∈ b.drives, d.state = .running → d.run.isSome = true ∧ d.due.isSome = true

/-- The figures, the grant, the damper and the shortfall state (R108, R109, R111, R116 to R121, R123, R125). -/
structure AirLaw (s : State) : Prop where
  maxFlow : 1 ≤ s.loader.settings.maxFlow
  figures : s.air.minimum ≤ s.air.demand ∧ s.air.demand ≤ s.loader.settings.maxFlow ∧ s.air.claimClass ≤ 3
  fallback : s.loader.phase = .fallback → s.air.demand = 0 ∧ s.air.claimClass = 0 ∧ s.air.grant = 0 ∧
    (s.air.emergency = false → s.air.command = 500)
  asserted : s.air.emergency = true → s.air.grant = 0 ∧ s.air.command = 0
  grant : s.loader.phase = .normal → s.air.emergency = false →
    s.air.grant = s.grantNow ∧ s.air.command = commandFor s.loader.settings s.air.grant
  bound : s.air.grant ≤ s.air.demand ∧ s.air.command ≤ 1000
  shortfall : s.air.shortfall = s.air.shortNow
  table : s.started = false → ∀ p, some p ∉ s.peers.slots
  fault : s.air.faultTimer.isSome = true ∨ s.isRaised .damperFault = true → s.air.damperFar = true

end Sys2Proof.Machine
end

