-- ==== Sys2Proof/Certificates/Slice0/Obligations.lean ====
section
/-!
DEFINITION. The statements for the provers. Every one speaks of every state that meets its hypotheses, reached by a run or
not; where a law of the station is needed, it is a premise, and a statement of its own says that every step keeps it. The
free fields `order` and `draws` are never fixed.
-/

open Sys2Proof Sys2Proof.Machine

/-! ### The step -/

/-- The step takes the command at the front of the queue (the queue is the model's own, log entry 3). -/
def Obligations.StepTakesTheFrontCommand : Prop :=
  ∀ (c : Instr) (rest : List Instr) (s : State), s.pending = c :: rest → step s = exec c (s.setPending rest)

/-- With no command waiting, the station takes a routed frame (R17), else an expiry that is due, none earlier being left
behind, else a millisecond passes (the model's choice, log entries 3 and 8). No command and no step ends in a fault or a
refusal: the spec names no condition in which the station stops. -/
def Obligations.IdleStepTakesWhatIsDue : Prop :=
  (∀ s : State, s.pending = [] →
     (∀ c rest, s.inbox = c :: rest → step s = exec c (s.setInbox rest)) ∧
     (s.inbox = [] →
       (∀ c, s.dueCommand = some c →
         step s = exec c s ∧ ∃ t ∈ s.timers, t.command = c ∧ t.due ≤ s.now ∧ ∀ u ∈ s.timers, t.due ≤ u.due) ∧
       (s.dueCommand = none →
         (∀ u ∈ s.timers, s.now < u.due) ∧ step s = .next (if s.powered then s.setNow (s.now + 1) else s)))) ∧
  ((∀ (i : Instr) (s : State), ∃ t, exec i s = .next t) ∧ ∀ s : State, ∃ t, step s = .next t)

/-! ### Power and settings -/

/-- Power applied: the read begins with its 1000 ms timer and the debounce timer runs, every block and output at its value
without settings (R2, R26, R175). Power lost: everything held is lost (R26). The field lines stay as they are. -/
def Obligations.PowerComesAndGoes : Prop :=
  ∀ s : State,
    (∀ t, t = { State.reset with pending := s.pending, now := s.now, draws := s.draws, order := s.order, lines := s.lines } →
      exec .powerLoss s = .next t ∧
      (s.loader.phase = .off →
        exec .powerOn s = .next { t with
          loader := { phase := .reading, readTimer := some (s.now + 1000), address := none, settings := Settings.fallback }
          alert := { raised := 0, mask := 0, emergency := false, debounce := some (s.now + 50) } })) ∧
    ∀ t, exec .powerOn s = .next t → s.loader.phase = .off →
      (∀ p, t.groupOutput p = 0) ∧ t.damperOutput = 0 ∧ (∀ n, t.motorOutput n = .off) ∧
      t.regimeLamp = .dark ∧ t.overrideLamp = .dark ∧ t.alertLamp = .dark

/-- The mode the Loader takes, its address and settled values, the two alerts it sets, the start of the blocks and the IDENTITY
that waits first under its hold, after a completed read and after the expiry of the read timer (R4, R6 to R10). Three things
are the model's: the phase of the seconds (log entry 22), the occupancy catch-up at no (log entry 31), and the time base carried
to an expiry's due time (log entry 4). -/
def Obligations.ModeIsTaken : Prop :=
  ∀ s : State, s.loader.phase = .reading →
    (∀ (image : Vector Byte 48) (address : Byte), image.toList[0]? = some address →
      ∃ t, exec (.readCompletion image) s = .next t ∧ StartedFrom s t ∧
        (imageGood image = false → 1 ≤ address.toNat ∧ address.toNat ≤ 254 →
          t.loader = { phase := .fallback, readTimer := none, address := some address, settings := Settings.fallback }) ∧
        (imageGood image = false → address.toNat = 0 ∨ address.toNat = 255 →
          t.loader = { phase := .fallback, readTimer := none, address := none, settings := Settings.fallback }) ∧
        (imageGood image = true → address.toNat = 0 ∨ address.toNat = 255 →
          t.loader = { phase := .fallback, readTimer := none, address := none, settings := Settings.fallback }) ∧
        (imageGood image = true → 1 ≤ address.toNat ∧ address.toNat ≤ 254 →
          t.loader = { phase := .normal, readTimer := none, address := some address, settings := settle image }) ∧
        t.isRaised .configFallback = (t.loader.phase == .fallback) ∧
        t.isRaised .configClamped = (t.loader.phase == .normal && needsClamp image)) ∧
    (∀ due, s.loader.readTimer = some due →
      ∃ t, exec .readTimerExpiry s = .next t ∧ StartedFrom (s.setNow (max s.now due)) t ∧
        t.loader = { phase := .fallback, readTimer := none, address := none, settings := Settings.fallback } ∧
        t.isRaised .configFallback = true ∧ t.isRaised .configClamped = false)

/-- Every field of the image is judged on its own: a value in its range is kept, and a value outside it takes the nearer end
(R1, R5). The group records, the sun bit and the alert mask are read at their bits (R187). CONFIG_CLAMPED is called for exactly
where some field that is read lies outside its range; of the drive records, those of the number of drives as settled are read
(R5, R8). -/
def Obligations.SettledValuesLieInTheirRanges : Prop :=
  ∀ (image : Vector Byte 48) (c : Settings), c = settle image →
    c.InRange ∧
    NearestEnd 0 15 (byteAt image 1) c.trunk ∧ NearestEnd 100 20000 (wordAt image 2) c.trunkCapacity ∧
    NearestEnd 0 7 (byteAt image 4) c.facade ∧ NearestEnd 1 16 (byteAt image 6) c.feederLimit ∧
    NearestEnd 10 600 (wordAt image 7) c.area ∧ NearestEnd 0 20 (byteAt image 9) c.areaRate ∧
    NearestEnd 50 150 (byteAt image 10) c.personRate ∧ NearestEnd 1 400 (wordAt image 11) c.capacity ∧
    NearestEnd 50 4000 (wordAt image 13) c.maxFlow ∧ NearestEnd 600 1400 (wordAt image 15) c.setpoint ∧
    NearestEnd 0 2 (byteAt image 17) c.doors ∧ NearestEnd 1 6 (byteAt image 18) c.groups.length ∧
    NearestEnd 0 4 (byteAt image 25) c.travel.length ∧ NearestEnd 5 30 (byteAt image 30) c.vacancyHold ∧
    NearestEnd 5 30 (byteAt image 31) c.graceMinutes ∧ NearestEnd 0 100 (byteAt image 32) c.park ∧
    (∀ i t, c.travel[i]? = some t → NearestEnd 10 120 (byteAt image (26 + i)) t) ∧
    (∀ i g, c.groups[i]? = some g →
      g.window = (byteAt image (19 + i)).testBit 0 ∧ g.handSelect = (byteAt image (19 + i)).testBit 1) ∧
    c.sunSensor = (byteAt image 5).testBit 0 ∧
    (∀ k, k < 12 → c.mask.getLsbD k = (wordAt image 33).testBit (15 - k)) ∧
    (needsClamp image = true ↔
      15 < byteAt image 1 ∨ wordAt image 2 < 100 ∨ 20000 < wordAt image 2 ∨ 7 < byteAt image 4 ∨ byteAt image 6 < 1 ∨
      16 < byteAt image 6 ∨ wordAt image 7 < 10 ∨ 600 < wordAt image 7 ∨ 20 < byteAt image 9 ∨ byteAt image 10 < 50 ∨
      150 < byteAt image 10 ∨ wordAt image 11 < 1 ∨ 400 < wordAt image 11 ∨ wordAt image 13 < 50 ∨ 4000 < wordAt image 13 ∨
      wordAt image 15 < 600 ∨ 1400 < wordAt image 15 ∨ 2 < byteAt image 17 ∨ byteAt image 18 < 1 ∨ 6 < byteAt image 18 ∨
      4 < byteAt image 25 ∨ (∃ i, i < c.travel.length ∧ (byteAt image (26 + i) < 10 ∨ 120 < byteAt image (26 + i))) ∨
      byteAt image 30 < 5 ∨ 30 < byteAt image 30 ∨ byteAt image 31 < 5 ∨ 30 < byteAt image 31 ∨ 100 < byteAt image 32)

/-- Two bytes are the check of the bytes before them exactly when the check of all of them is 0, of an image (R3) as of a frame
(R12); a good frame is exactly six fields, closed by their check, with at most 40 body bytes and the length its length field
gives (R11, R12, R15). -/
def Obligations.CheckClosesFramesAndImage : Prop :=
  ((∀ (covered : List Byte) (high low : Byte), crc (covered ++ [high, low]) = 0 ↔ wordOf high low = crc covered) ∧
   (∀ image : Vector Byte 48, imageGood image = true ↔ crc image.toList = 0) ∧
   crc [49, 50, 51, 52, 53, 54, 55, 56, 57] = 10673) ∧
  (∀ (characters : List Byte) (r : Received), judgeFrame characters = some r ↔
     r.body.length ≤ 40 ∧
       ∃ high low, characters = [r.dest, r.source, r.code, byte r.body.length] ++ r.body ++ [high, low] ∧
         wordOf high low = crc ([r.dest, r.source, r.code, byte r.body.length] ++ r.body))

/-! ### The room bus -/

/-- A message the station takes, laid out by R182 to R184 and closed by its check, is read back from its characters as the
command it spells, with every field at every value (R11, R12, R15 to R17). A FEEDER START takes its arrival time from the
time base (R95, log entry 7). -/
def Obligations.MessagesAreReadAsTheyAreSpelled : Prop :=
  ∀ (s : State) (i : Instr) (dest source code : Byte) (body : List Byte),
    messageBody i = some (dest, source, code, body) →
    s.accepts source dest (mayBroadcast i) = true →
    (∀ source dest facade count duration arrival,
      i = .feederStart source dest facade count duration arrival → arrival = s.now) →
    s.route (closeFrame (coveredBytes dest source code body)) = some i

/-- A character has 11 bits: a start bit, eight data bits with the least significant first, a parity bit that makes the number
of ones even, and a stop bit. It is received whole where its stop bit is at the idle level and its parity right, and in error
otherwise, and the station sends its own so (R13; which level is idle, and bits without a start bit, are the model's, log entry
38). What a character does to the quiet detector and the receiver while the station sends nothing (R13, R14). A character read
back equal: the transmitter goes on to the next, with the line BUSY and the quiet timer waiting (log entry 39), and after the
last the frame has been sent, the attempt count is 0, the transmitter IDLE, and an IDENTITY ends its hold (R10, R23, R25). A
FEEDER START so sent opens its settle window with the held sum, or, orphaned, offers the FEEDER END of its drive count (R157,
R158). -/
def Obligations.CharactersAreTakenFromTheLine : Prop :=
  (∀ (bits : LineCharacter) (v : Byte) (ones : Nat), ones = (List.range 9).countP (fun i => bits.getLsbD (1 + i)) →
     (readCharacter bits = .whole v ↔
       bits.getLsbD 10 = true ∧ (∀ i, i < 8 → bits.getLsbD (1 + i) = v.getLsbD i) ∧ ones % 2 = 0) ∧
     (readCharacter bits = .framingError ↔ bits.getLsbD 10 = false ∨ ones % 2 = 1) ∧
     readCharacter (characterOf v) = .whole v ∧ (characterOf v).getLsbD 0 = false ∧
     (readCharacter bits = .whole v → bits.getLsbD 0 = false → bits = characterOf v)) ∧
  (∀ (s : State) (bits : LineCharacter), bits.getLsbD 0 = true → exec (.lineCharacter bits) s = .next s) ∧
  (∀ (s : State) (bits : LineCharacter) (symbol : LineSymbol), s.started = true → bits.getLsbD 0 = false →
     readCharacter bits = symbol → (∀ f n, s.bus.transmitter ≠ .sending f n) →
     (∀ v, s.bus.receiver = .listen → symbol = .whole v →
       exec (.lineCharacter bits) s = .next (s.setBus { s.bus with
         line := .busy, quietTimer := some (s.now + 2), collected := s.bus.collected ++ [v] })) ∧
     (s.bus.receiver = .listen → symbol = .framingError →
       exec (.lineCharacter bits) s = .next (s.setBus { s.bus with
         line := .busy, quietTimer := some (s.now + 2), receiver := .hunt, collected := [] })) ∧
     (s.bus.receiver = .hunt →
       exec (.lineCharacter bits) s = .next (s.setBus { s.bus with line := .busy, quietTimer := some (s.now + 2) }))) ∧
  (∀ (s : State) (address v : Byte) (f : Frame) (n : Nat), s.started = true → s.loader.address = some address →
     s.bus.transmitter = .sending f n → (f.characters address)[n]? = some v →
     s.sending = some (characterOf v) ∧
     (n + 1 < (f.characters address).length →
       exec (.lineCharacter (characterOf v)) s = .next (s.setBus { (s.bus.seeCharacter s.now).collect (.whole v) with
         transmitter := .sending f (n + 1), quietTimer := none })) ∧
     (n + 1 = (f.characters address).length → f.kind ≠ .feederStart →
       exec (.lineCharacter (characterOf v)) s = .next (s.setBus { (s.bus.seeCharacter s.now).collect (.whole v) with
         transmitter := .idle, attempts := 0, hold := s.bus.hold && f.kind != .identity }))) ∧
  (∀ (s u : State) (address v : Byte) (f : Frame) (n : Nat), s.started = true → s.loader.address = some address →
     s.bus.transmitter = .sending f n → (f.characters address)[n]? = some v → n + 1 = (f.characters address).length →
     f.kind = .feederStart →
     u = s.setBus { (s.bus.seeCharacter s.now).collect (.whole v) with transmitter := .idle, attempts := 0 } →
     (∀ group drives, s.blind.hand = .awaiting group drives f.tag →
       exec (.lineCharacter (characterOf v)) s = .next (u.setBlind { s.blind with
         hand := .window group drives s.peers.feederSum 0 s.now (s.now + 2000) })) ∧
     ((∀ group drives, s.blind.hand ≠ .awaiting group drives f.tag) →
       (∀ o ∈ s.blind.orphans, o.tag ≠ f.tag) → exec (.lineCharacter (characterOf v)) s = .next u) ∧
     ((∀ group drives, s.blind.hand ≠ .awaiting group drives f.tag) →
       ∀ before o later, s.blind.orphans = before ++ o :: later → o.tag = f.tag → (∀ x ∈ before, x.tag ≠ f.tag) →
         (∀ x ∈ later, x.tag ≠ f.tag) →
         exec (.lineCharacter (characterOf v)) s = .next (offer
           (Frame.plain .feederEnd broadcast [byte s.loader.settings.facade, byte o.drives])
           (u.setBlind { s.blind with orphans := before ++ later }))))

/-- A collision: a character read back different or in error, or not read back. Up to the seventh the frame backs off, its
slots chosen from 1 to 2^min(k, 4), and nothing waiting in the queue is touched; the eighth discards it (R23 to R25). A
character not read back leaves the line BUSY (log entry 11). A FEEDER START so discarded sends its group to WAIT_FEEDER with its
backoff timer; an orphaned one leaves the orphaned starts (R157); here no other drive waits. -/
def Obligations.CollisionsBackOff : Prop :=
  ∀ (s : State) (address : Byte) (f : Frame) (n : Nat) (i : Instr), s.started = true → s.loader.address = some address →
    s.bus.transmitter = .sending f n →
    (i = .characterNotReadBack ∨ ∃ bits : LineCharacter, i = .lineCharacter bits ∧ bits.getLsbD 0 = false ∧
      ∀ v, (f.characters address)[n]? = some v → bits ≠ characterOf v) →
    (s.bus.attempts + 1 < 8 →
      ∃ t slots, exec i s = .next t ∧ 1 ≤ slots ∧ slots ≤ 2 ^ min (s.bus.attempts + 1) 4 ∧
        t.bus.attempts = s.bus.attempts + 1 ∧ t.bus.transmitter = .backingOff f (.chosen slots) ∧
        t.bus.queue = s.bus.queue ∧ t.bus.hold = s.bus.hold ∧ t.bus.line = .busy ∧ t.bus.quietTimer = some (s.now + 2) ∧
        t = (s.setBus t.bus).setDraws (s.draws + 1)) ∧
    (8 ≤ s.bus.attempts + 1 → f.kind ≠ .feederStart →
      ∃ t, exec i s = .next t ∧ t.bus.attempts = 0 ∧ t.bus.transmitter = .idle ∧ t.bus.queue = s.bus.queue ∧
        t.bus.hold = (s.bus.hold && f.kind != .identity) ∧ t.bus.line = .busy ∧ t = s.setBus t.bus) ∧
    (8 ≤ s.bus.attempts + 1 → f.kind = .feederStart →
      (∀ d ∈ s.blind.drives, d.state ≠ .waitStage ∧ d.state ≠ .waitFeeder) →
      ∃ t, exec i s = .next t ∧ t.bus.attempts = 0 ∧ t.bus.transmitter = .idle ∧ t.bus.queue = s.bus.queue ∧
        t.bus.hold = s.bus.hold ∧ t.bus.line = .busy ∧ t = (s.setBus t.bus).setBlind t.blind ∧
        (∀ group drives, s.blind.hand = .awaiting group drives f.tag → t.blind = { s.blind with
          hand := .nothing
          drives := s.blind.drives.map (fun d =>
            if d.group = some group ∧ d.state = .settling then { d with state := .waitFeeder } else d)
          backoffs := s.blind.backoffs ++ [{ group := group, due := s.now + (address.toNat % 8 + 1) * 2000 }] }) ∧
        ((∀ group drives, s.blind.hand ≠ .awaiting group drives f.tag) →
          t.blind = { s.blind with orphans := s.blind.orphans.filter (fun o => o.tag != f.tag) }))

/-- The quiet event: the line is QUIET, a frame collected in LISTEN is judged, accepted and routed, the receiver listens, and
the transmitter takes the head, starts its backoff, or starts again; the first character of a frame makes the line BUSY, and its
quiet timer waits for the character's end (R13, log entry 39). The backoff's expiry: on a QUIET line the frame starts
again from its first character, on a BUSY line it waits for the next quiet event (R13, R14, R22, R24). A routed message waits in
the model's inbox (log entry 5), and an expiry carries the time base to its due time (log entry 4). -/
def Obligations.QuietEventsAndBackoffsAct : Prop :=
  (∀ (s : State) (due n : Nat), s.started = true → s.bus.quietTimer = some due → n = max s.now due →
     ∃ t, exec .quietEvent s = .next t ∧ t = ((s.setNow n).setBus t.bus).setInbox t.inbox ∧
       t.bus.quietTimer = none ∧ t.bus.receiver = .listen ∧ t.bus.collected = [] ∧
       t.inbox = s.inbox ++ (if s.bus.receiver = .listen then ((s.setNow n).route s.bus.collected).toList else []) ∧
       match s.bus.transmitter with
       | .idle =>
         (∀ i f, s.bus.headPlace = some i → s.bus.queue[i]? = some f →
           t.bus.transmitter = .sending f 0 ∧ t.bus.line = .busy ∧ t.bus.queue = s.bus.queue.eraseIdx i ∧
             t.bus.attempts = 0) ∧
         (s.bus.headPlace = none → t.bus.transmitter = .idle ∧ t.bus.line = .quiet ∧ t.bus.queue = s.bus.queue)
       | .backingOff f (.chosen slots) =>
         t.bus.transmitter = .backingOff f (.running (n + 4 * slots)) ∧ t.bus.line = .quiet ∧ t.bus.queue = s.bus.queue
       | .backingOff f .elapsed => t.bus.transmitter = .sending f 0 ∧ t.bus.line = .busy ∧ t.bus.queue = s.bus.queue
       | .backingOff f (.running later) =>
         t.bus.transmitter = .backingOff f (.running later) ∧ t.bus.line = .quiet ∧ t.bus.queue = s.bus.queue
       | .sending f sent => t.bus.transmitter = .sending f sent ∧ t.bus.line = .quiet ∧ t.bus.queue = s.bus.queue) ∧
  (∀ (s : State) (f : Frame) (due : Nat), s.started = true → s.bus.transmitter = .backingOff f (.running due) →
     (s.bus.line = .quiet →
       exec .busBackoffExpiry s = .next ((s.setNow (max s.now due)).setBus { s.bus with
         transmitter := .sending f 0, line := .busy, quietTimer := none })) ∧
     (s.bus.line = .busy →
       exec .busBackoffExpiry s =
         .next ((s.setNow (max s.now due)).setBus { s.bus with transmitter := .backingOff f .elapsed })))

/-- An offer is taken in NORMAL, and in FALLBACK for three kinds; a station without a working address takes none (R18). The
frame that goes next is the oldest of the best class present, or the held IDENTITY, and it goes at the offer where the line is
QUIET and the transmitter IDLE, which makes the line BUSY with its quiet timer waiting (R10, R13, R19, R22, log entry 39). A
frame that is taken gives its body to a frame it replaces, which keeps its place; joins as the newest; or, the queue holding 10,
joins in place of the newest frame of the worst class present, if that class is worse than its own, and is discarded otherwise
(R20, R21). -/
def Obligations.QueueOrdersReplacesAndEvicts : Prop :=
  (∀ b : BusPort,
     (b.hold = false →
       (b.headPlace = none ↔ b.queue = []) ∧
       ∀ i, b.headPlace = some i → ∃ f, b.queue[i]? = some f ∧
         ∀ j g, b.queue[j]? = some g → f.kind.rank < g.kind.rank ∨ (f.kind.rank = g.kind.rank ∧ i ≤ j)) ∧
     (b.hold = true →
       (b.headPlace = none ↔ ∀ f ∈ b.queue, f.kind ≠ .identity) ∧
       ∀ i, b.headPlace = some i → ∃ f, b.queue[i]? = some f ∧ f.kind = .identity ∧
         ∀ j g, b.queue[j]? = some g → g.kind = .identity → i ≤ j)) ∧
  (∀ (b : BusPort) (f : Frame),
     (∀ before w after, b.queue = before ++ w :: after → (∀ g ∈ before, replaces f g = false) → replaces f w = true →
       b.enqueue f = ({ b with queue := before ++ { w with body := f.body } :: after }, true)) ∧
     ((∀ g ∈ b.queue, replaces f g = false) →
       (b.queue.length < 10 → b.enqueue f = ({ b with queue := b.queue ++ [f] }, true)) ∧
       (10 ≤ b.queue.length → (∀ g ∈ b.queue, g.kind.rank ≤ f.kind.rank) → b.enqueue f = (b, false)) ∧
       (10 ≤ b.queue.length → ∀ before v after, b.queue = before ++ v :: after → f.kind.rank < v.kind.rank →
         (∀ g ∈ before, g.kind.rank ≤ v.kind.rank) → (∀ g ∈ after, g.kind.rank < v.kind.rank) →
         b.enqueue f = ({ b with queue := before ++ after ++ [f], hold := b.hold && v.kind != .identity }, true)))) ∧
  (∀ (s : State) (f : Frame),
     offer f s = (offerAnswered f s).1 ∧
     (s.loader.address = none → offerAnswered f s = (s, false)) ∧
     (s.loader.phase = .fallback → f.kind ≠ .identity → f.kind ≠ .statusReply → f.kind ≠ .outcome →
       offerAnswered f s = (s, false)) ∧
     (s.loader.address ≠ none →
       s.loader.phase = .normal ∨
         (s.loader.phase = .fallback ∧ (f.kind = .identity ∨ f.kind = .statusReply ∨ f.kind = .outcome)) →
       offerAnswered f s = (s.setBus (s.bus.enqueue f).1.takeHead, (s.bus.enqueue f).2))) ∧
  (∀ b : BusPort,
     (∀ i f, b.transmitter = .idle → b.line = .quiet → b.headPlace = some i → b.queue[i]? = some f →
       b.takeHead = { b with
         queue := b.queue.eraseIdx i, transmitter := .sending f 0, attempts := 0, line := .busy, quietTimer := none }) ∧
     (b.transmitter ≠ .idle ∨ b.line = .busy ∨ b.headPlace = none → b.takeHead = b)) ∧
  (∀ f g : Frame, replaces f g = true ↔
     (f.kind = .claim ∧ g.kind = .claim) ∨ (f.kind = .sunReading ∧ g.kind = .sunReading) ∨
       (f.kind = .statusReply ∧ g.kind = .statusReply ∧ g.dest = f.dest)) ∧
  ([.feederStart, .feederEnd, .claim, .hold, .resume, .sunReading, .outcome, .sessionReport, .statusReply, .identity].map
     Kind.rank = [1, 1, 2, 3, 3, 4, 5, 5, 6, 6])

/-- The law of the transmit side, and of the quiet detector beside it, is kept by every step: in particular the line is BUSY
while a frame is sent, its quiet timer waiting (R13, log entry 39). -/
def Obligations.EveryStepKeepsTheBusLaw : Prop :=
  ∀ s t : State, BusLaw s.bus → step s = .next t → BusLaw t.bus

/-! ### The Week Clock -/

/-- A second of the time base: the clock counts while SET, and a new minute sends one minute event (R28, R29, R40). The expiry
carries the time base to its due time (log entry 4), and the next second falls 1000 ms after that due time (log entry 24). -/
def Obligations.SecondsAreCounted : Prop :=
  ∀ (s : State) (due n : Nat), s.started = true → s.clock.tick = some due → n = max s.now due →
    (s.clock.running = false →
      exec .clockSecond s = .next ((s.setNow n).setClock { s.clock with tick := some (due + 1000) })) ∧
    (s.clock.running = true → s.clock.second < 59 →
      exec .clockSecond s = .next ((s.setNow n).setClock
        { s.clock with second := s.clock.second + 1, tick := some (due + 1000) })) ∧
    (s.clock.running = true → 59 ≤ s.clock.second →
      ∃ t, exec .clockSecond s = .next t ∧
        EventSent (.minute ((s.clock.minute + 1) % 10080)) ((s.clock.minute + 1) % 10080)
          ((s.setNow n).setClock
            { running := true, minute := (s.clock.minute + 1) % 10080, second := 0, tick := some (due + 1000) }) t)

/-- A time mark out of range is ignored in either state; a valid one, taken while UNSET, is adopted whole, clears CLOCK_UNSET
and sends one minute event and no jump event (R30). -/
def Obligations.FirstMarkIsAdoptedWhole : Prop :=
  ∀ (s : State) (source dest second : Byte) (minute : Word), s.accepts source dest true = true →
    (10080 ≤ minute.toNat ∨ 60 ≤ second.toNat → exec (.timeMark source dest minute second) s = .next s) ∧
    (minute.toNat < 10080 → second.toNat < 60 → s.clock.running = false →
      ∃ t, exec (.timeMark source dest minute second) s = .next t ∧ t.isRaised .clockUnset = false ∧
        t.clock = { running := true, minute := minute.toNat, second := second.toNat, tick := s.clock.tick } ∧
        EventSent (.minute minute.toNat) minute.toNat (clearAlert .clockUnset (s.setClock
          { running := true, minute := minute.toNat, second := second.toNat, tick := s.clock.tick })) t)

/-- A valid time mark, taken while SET, is judged by its signed difference d in seconds, brought into −302400 to +302399: it
is ignored, adopted quietly or adopted as a jump (R31, R32, R40). -/
def Obligations.MarksMoveTheClock : Prop :=
  ∀ (s u : State) (source dest second : Byte) (minute : Word) (d k : Int), s.accepts source dest true = true →
    s.clock.running = true → minute.toNat < 10080 → second.toNat < 60 → -302400 ≤ d → d ≤ 302399 →
    ((minute.toNat * 60 + second.toNat : Nat) : Int) - ((s.clock.minute * 60 + s.clock.second : Nat) : Int) =
      d + 604800 * k →
    u = s.setClock { s.clock with minute := minute.toNat, second := second.toNat } →
    (d.natAbs ≤ 2 → exec (.timeMark source dest minute second) s = .next s) ∧
    (2 < d.natAbs → d.natAbs ≤ 60 → ¬(0 < d ∧ minute.toNat ≠ s.clock.minute) →
      exec (.timeMark source dest minute second) s = .next u) ∧
    (2 < d.natAbs → d.natAbs ≤ 60 → 0 < d → minute.toNat ≠ s.clock.minute →
      ∃ t, exec (.timeMark source dest minute second) s = .next t ∧ t.clock = u.clock ∧
        EventSent (.minute minute.toNat) minute.toNat u t) ∧
    (60 < d.natAbs →
      ∃ t, exec (.timeMark source dest minute second) s = .next t ∧ t.clock = u.clock ∧
        EventSent (.jump s.clock.minute s.clock.second minute.toNat second.toNat (decide (0 < d))) minute.toNat u t)

/-! ### The Timetable Intake and the session list -/

/-- A booking that arrives in NORMAL with room in the queue: while a merge is in flight it waits, and from 5 waiting items on
its sender is paced once with a HOLD; while the merge is IDLE and nothing waits, its merge begins, 5 ms plus 35 ms × n / 24
long, rounded up, with a RESUME to each held sender, in an order the spec leaves open (R36 to R39, log entry 10). A booking
turned away gets its result at once and enters no queue: NOT_CONFIGURED in FALLBACK, INTAKE_FULL with 8 items waiting (R36,
R50). -/
def Obligations.BookingsAreQueuedMergedOrTurnedAway : Prop :=
  (∀ (s : State) (i : Instr) (b : Booking) (paced : Bool), bookingOf i = some b → s.accepts b.source b.dest false = true →
     s.isNormal = true → s.intake.queue.length < 8 →
     paced = (decide (5 ≤ s.intake.queue.length + 1) && !s.intake.heldSenders.contains b.source) →
     (∀ m, s.intake.merge = some m →
       exec i s = .next ((if paced then
           offer (Frame.plain .hold b.source (depthBody (s.intake.queue.length + 1))) s else s).setIntake { s.intake with
         queue := s.intake.queue ++ [b.item]
         heldSenders := if paced && decide (s.intake.heldSenders.length < 4) then s.intake.heldSenders ++ [b.source]
           else s.intake.heldSenders })) ∧
     (s.intake.merge = none → s.intake.queue = [] →
       ∃ t, exec i s = .next t ∧ IntakeOnly s t ∧ MergeBegun b.item [] s t)) ∧
  (∀ (s : State) (i : Instr) (b : Booking), bookingOf i = some b → s.accepts b.source b.dest false = true →
     (s.isNormal = false →
       ∀ t, t = { s.intake with
           previous := s.intake.current
           current := some { id := b.item.id, kind := b.item.request.kind, verdict := .notConfigured } } →
         exec i s = .next (offer (Frame.plain .outcome b.source (outcomeBytes t.current ++ outcomeBytes t.previous))
           (s.setIntake t))) ∧
     (s.isNormal = true → 8 ≤ s.intake.queue.length →
       ∃ t, exec i s = .next t ∧ IntakeOnly s t ∧ t.intake.queue = s.intake.queue ∧ t.intake.merge = s.intake.merge ∧
         t.intake.current = some { id := b.item.id, kind := b.item.request.kind, verdict := .intakeFull } ∧
         t.intake.previous = s.intake.current ∧ t.intake.heldEvents = s.intake.heldEvents))

/-- A merge completion takes its steps in order: the item is judged and, if accepted, applied, the regime derived at the
engine's last minute taken; its result moves the outcome pair and its OUTCOME is offered; the occupancy catch-up is made and the
held events are given to the engine in the order they came; the merge becomes IDLE, and the next begins with the oldest waiting
item (R38 to R40, R49, R50, R59). The expiry carries the time base to its due time (log entry 4). -/
def Obligations.MergesComplete : Prop :=
  (∀ (s : State) (m : Merge) (v : Verdict), s.started = true → s.intake.merge = some m →
     v = judgeItem s.loader.settings.capacity s.session.entries m.item →
     ∃ a b c t, exec .mergeCompletion s = .next t ∧ MergeFrame (s.setNow (max s.now m.due)) t ∧
       (v.accepts = false → a = s.setNow (max s.now m.due)) ∧
       (v.accepts = true → SessionFrame (s.setNow (max s.now m.due)) a ∧
         a.session.entries = (applyItem s.loader.settings.capacity
           { minute := s.session.lastMinute, count := s.counter.count, graceMinutes := s.loader.settings.graceMinutes }
           m.item s.session.work).entries ∧
         a.session.lastMinute = s.session.lastMinute ∧ a.session.catchUp = s.session.catchUp ∧
         ∀ minute, s.session.lastMinute = some minute → RegimeAt minute a.session) ∧
       b = (offer (Frame.plain .outcome m.item.sender
           (outcomeBytes (some { id := m.item.id, kind := m.item.request.kind, verdict := v }) ++ outcomeBytes s.intake.current))
         (a.setIntake { s.intake with
           previous := s.intake.current
           current := some { id := m.item.id, kind := m.item.request.kind, verdict := v } })) ∧
       c = forEach s.intake.heldEvents takeClockEvent (catchUp (b.setIntake { b.intake with heldEvents := [] })) ∧
       (s.intake.queue = [] → t = c.setIntake { c.intake with merge := none }) ∧
       (∀ item rest, s.intake.queue = item :: rest →
         MergeBegun item rest (c.setIntake { c.intake with merge := none }) t)) ∧
  (∀ s : State,
     (s.session.catchUp = false → catchUp s = s) ∧
     (s.session.catchUp = true → SessionFrame s (catchUp s) ∧ (catchUp s).session.catchUp = false ∧
       (catchUp s).session.lastMinute = s.session.lastMinute ∧
       (catchUp s).session.entries =
         (s.session.entries.map (fun e => if e.state = .active ∧ 0 < s.counter.count then
             { e with seen := true, peak := max e.peak s.counter.count } else e)).filterMap
           (fun e => if e.state = .active ∧ e.seen = true ∧ s.counter.vacant = true then (e.finish .earlyRelease).kept
             else some e)))

/-- The result of an item, the first that its conditions give in the order of R43 and R44; it is accepted when none refuses it.
How an accepted item is written into a list whose ids are distinct: an OFFER at its place in start order, an AMEND into the
fields it carries, a CANCEL by scope, repeat and state, with an evaluation at once while the engine's last minute taken is
present (R45 to R49). -/
def Obligations.ItemsAreJudgedAndWritten : Prop :=
  (∀ (capacity : Nat) (entries : List Entry) (item : Item) (v : Verdict), v = judgeItem capacity entries item →
     (v.accepts = true ↔ v = .accepted ∨ v = .acceptedClamped) ∧
     match item.request with
     | .offer start stop _ _ _ expected lead =>
       FirstOf [
         (item.id = 0 ∨ 10080 ≤ start ∨ stop = 0 ∨ 10080 < stop ∨ stop < start + 10 ∨ start + 600 < stop, .badTimes),
         (∃ e ∈ entries, e.id = item.id, .duplicateId),
         (∃ e ∈ entries, start < e.stop ∧ e.start < stop, .overlap),
         (24 ≤ entries.length, .listFull),
         (capacity < expected ∨ 60 < lead, .acceptedClamped)] .accepted v
     | .amend stop expected mode lead =>
       ∀ found, found = entries.find? (fun e => e.id == item.id) →
       FirstOf [
         (item.id = 0 ∨ ∃ e, stop = some e ∧ (e = 0 ∨ 10080 < e ∨
           ∃ x, found = some x ∧ (e < x.start + 10 ∨ x.start + 600 < e)), .badTimes),
         (∃ e x, stop = some e ∧ found = some x ∧ ∃ y ∈ entries, y.id ≠ x.id ∧ x.start < y.stop ∧ y.start < e, .overlap),
         (found = none, .unknownId),
         (∃ x, found = some x ∧ 4 ≤ x.amendments, .amendLimit),
         (stop = none ∧ expected = none ∧ mode = none ∧ lead = none, .nothingToAmend),
         ((∃ h, expected = some h ∧ capacity < h) ∨ (∃ l, lead = some l ∧ 60 < l), .acceptedClamped)] .accepted v
     | .cancel _ => FirstOf [(item.id = 0 ∨ ∀ e ∈ entries, e.id ≠ item.id, .unknownId)] .accepted v) ∧
  (∀ (capacity : Nat) (sender : Byte) (id : Nat) (w : EngineWork) (now : AtOnce) (atOnce : Entry → List Entry),
     (w.entries.map (·.id)).Nodup →
     (atOnce = fun e => match now.minute with
       | none => [e]
       | some m => (e.evaluate m now.count now.graceMinutes false).kept.toList) →
     (∀ start stop mode weekly report expected lead, (∀ e ∈ w.entries, e.id ≠ id) →
       (applyItem capacity now { sender := sender, id := id
                                 request := .offer start stop mode weekly report expected lead } w).entries =
         w.entries.takeWhile (fun e => decide (e.start ≤ start)) ++
           atOnce { id := id, origin := sender, start := start, stop := stop, mode := mode, expected := min expected capacity
                    lead := min lead 60, weekly := weekly, report := report, skip := false, amendments := 0, streak := 0
                    state := .pending, seen := false, grace := none, peak := 0, occupied := 0, shortfall := 0
                    carried := false } ++
           w.entries.dropWhile (fun e => decide (e.start ≤ start))) ∧
     (∀ before x after, w.entries = before ++ x :: after → x.id = id →
       (∀ (stop expected : Option Nat) (mode : Option Mode) (lead : Option Nat) (y : Entry), y = { x with
             stop := stop.getD x.stop, expected := ((expected.map (min · capacity)).getD x.expected)
             mode := mode.getD x.mode, lead := ((lead.map (min · 60)).getD x.lead), amendments := x.amendments + 1 } →
         (applyItem capacity now { sender := sender, id := id, request := .amend stop expected mode lead } w).entries =
           before ++ (if x.state = .active then
               match stop, now.minute with
               | some e, some m => if e ≤ m then (y.finish .ended).kept.toList else [y]
               | _, _ => [y]
             else atOnce y) ++ after) ∧
       (applyItem capacity now { sender := sender, id := id, request := .cancel .series } w).entries = before ++ after ∧
       (applyItem capacity now { sender := sender, id := id, request := .cancel .occurrence } w).entries =
         before ++ (match x.weekly, x.state with
           | true, .active => [{ x with
               state := .dormant, grace := none, seen := false, carried := false, streak := if x.seen then 0 else x.streak }]
           | true, .precondition => [{ x with state := .dormant, carried := false }]
           | true, .pending | true, .dormant => [{ x with skip := true }]
           | false, _ => []) ++ after))

/-- The settled values stay in their ranges under a mode and an address that fit (R4, R5, R7), and the session list holds at
most 24 entries, of distinct ids, in start order, of which no two share a minute (R34), after every step. -/
def Obligations.EveryStepKeepsTheSessionListLaw : Prop :=
  ∀ s t : State, LoaderLaw s.loader → step s = .next t → LoaderLaw t.loader ∧
    (ListLaw s.loader.settings.capacity s.session.entries → ListLaw t.loader.settings.capacity t.session.entries)

/-! ### The Session Engine -/

/-- A minute lies in a window when counting forward from the window's first minute reaches it before the window's excluded
end, modulo the week (R35). The evaluation of an entry at a minute, row by row, by a minute event or an at-once evaluation:
the entry that stays, the reports and the boundary events (R54 to R56, R60, R69). -/
def Obligations.EntriesAreEvaluatedInTheirWindows : Prop :=
  (∀ (e : Entry) (m : Nat), e.start < 10080 → e.lead ≤ 60 → e.start < e.stop → e.stop ≤ e.start + 600 → m < 10080 →
     (e.inInterval m = true ↔ ∃ k, k < e.stop - e.start ∧ m = (e.start + k) % 10080) ∧
     (e.inLead m = true ↔ ∃ k, k < e.lead ∧ m = (e.start + 10080 - e.lead + k) % 10080) ∧
     (e.inWhole m = true ↔ ∃ k, k < e.lead + (e.stop - e.start) ∧ m = (e.start + 10080 - e.lead + k) % 10080) ∧
     (e.inWhole m = true ↔ e.inLead m = true ∨ e.inInterval m = true) ∧
     ¬(e.inLead m = true ∧ e.inInterval m = true)) ∧
  (∀ (e : Entry) (m count graceMinutes : Nat) (t opened : Turn), t = e.evaluate m count graceMinutes false →
     opened =
       { kept := some (if e.carried then
             { e with state := .active, grace := some ((m + graceMinutes) % 10080), carried := false
                      peak := max e.peak count, seen := e.seen || decide (0 < count) }
           else
             { e with state := .active, grace := some ((e.start + graceMinutes) % 10080)
                      peak := count, occupied := 0, shortfall := 0, seen := decide (0 < count) })
         reports := [], boundaries := 1 } →
     (e.state = .pending →
       (e.skip = true → e.inWhole m = true → t.kept = some { e with skip := false, carried := false, state := .dormant }) ∧
       (¬(e.skip = true ∧ e.inWhole m = true) →
         (e.inLead m = true → t.kept = some { e with state := .precondition }) ∧
         (e.inLead m = false → e.inInterval m = true → t = opened) ∧
         (e.inLead m = false → e.inInterval m = false → t.kept = some e))) ∧
     (e.state = .precondition →
       (e.inInterval m = true → t = opened) ∧
       (e.inInterval m = false → e.inWhole m = false → t.kept = some { e with state := .pending }) ∧
       (e.inInterval m = false → e.inWhole m = true → t.kept = some e)) ∧
     (e.state = .active →
       (e.grace = some m → e.seen = false → t = e.finish .noShow) ∧
       (¬(e.grace = some m ∧ e.seen = false) → m = e.stop % 10080 → t = e.finish .ended) ∧
       (¬(e.grace = some m ∧ e.seen = false) → m ≠ e.stop % 10080 → t.kept = some e)) ∧
     (e.state = .dormant →
       (e.inWhole m = false → e.weekly = true → t.kept = some { e with state := .pending }) ∧
       (¬(e.inWhole m = false ∧ e.weekly = true) → t.kept = some e)) ∧
     (t = opened ∨ t = e.finish .noShow ∨ t = e.finish .ended ∨ (t.reports = [] ∧ t.boundaries = 0)))

/-- The end procedure: the report if one is wanted, the no-show streak, the series, and the entry's fate (R60 to R62). -/
def Obligations.OccurrencesEndByTheProcedure : Prop :=
  ∀ (e : Entry) (cause : EndCause) (dropped : Bool) (streak : Nat),
    dropped = (decide (cause = .noShow) && e.weekly && decide (2 ≤ e.streak)) →
    (cause = .noShow → e.weekly = true → e.streak ≤ 1 → streak = e.streak + 1) →
    (cause = .noShow → e.weekly = false ∨ 2 ≤ e.streak → streak = e.streak) →
    (cause ≠ .noShow → cause ≠ .missed → e.seen = true → streak = 0) →
    (cause ≠ .noShow → e.seen = false ∨ cause = .missed → streak = e.streak) →
    (e.weekly = true → dropped = false →
      (e.finish cause).kept = some { e with
        streak := streak, grace := none, seen := false, carried := false, state := .dormant }) ∧
    (e.weekly = false ∨ dropped = true → (e.finish cause).kept = none) ∧
    (e.report = true → ∃ f, (e.finish cause).reports = [f] ∧ f.kind = .sessionReport ∧ f.dest = e.origin ∧
      f.body = twoBytes e.id ++ [byte (endCauseCode cause)] ++ twoBytes e.peak ++ twoBytes e.occupied ++
        twoBytes e.shortfall ++ [if dropped then 1 else 0]) ∧
    (e.report = false → (e.finish cause).reports = []) ∧
    ((e.finish cause).boundaries = if e.state = .active then 1 else 0)

/-- What a clock event makes of the list. A minute event adds the tallies when it is new and evaluates every entry once; a jump
FORWARD is taken in its three stages, a jump BACKWARD in its two, and no jump adds a tally; the regime is then derived at the
event's minute, also where a merge held the event (R53, R57, R63 to R66, log entry 18). The stages, entry by entry: an ACTIVE
end passed is closed with cause TIME_JUMP, a passed grace deadline starts anew; a passed occurrence is MISSED, or waits again;
an ACTIVE entry outside its interval returns with its carried mark; what a jump makes ACTIVE has its deadline from the new
minute, and after a BACKWARD jump begins a new occurrence (log entry 34). -/
def Obligations.ClockEventsReachEveryEntry : Prop :=
  (∀ (s : State) (m old count graceMinutes : Nat), count = s.counter.count →
    graceMinutes = s.loader.settings.graceMinutes →
    (s.session.lastMinute = some m →
      (takeMinute m s).session.entries =
        s.session.entries.filterMap (fun e => (e.evaluate m count graceMinutes false).kept)) ∧
    (s.session.lastMinute ≠ some m →
      (takeMinute m s).session.entries =
        (s.session.entries.map (fun e => if e.state = .active then
            { e with occupied := if 0 < count then min 600 (e.occupied + 1) else e.occupied
                     shortfall := if s.air.shortfallRecord then min 600 (e.shortfall + 1) else e.shortfall }
          else e)).filterMap (fun e => (e.evaluate m count graceMinutes false).kept)) ∧
    ((takeJump old m false s).session.entries =
        s.session.entries.filterMap (fun e => (e.takeBack m count graceMinutes).kept)) ∧
    ((takeJump old m true s).session.entries =
        ((s.session.entries.filterMap (fun e => (e.passEnd old m graceMinutes).kept)).filterMap
          (fun e => (e.passOccurrence old m).kept)).filterMap (fun e => (e.evaluate m count graceMinutes true).kept)) ∧
    ∀ t, t = takeMinute m s ∨ t = takeJump old m false s ∨ t = takeJump old m true s →
      t.session.lastMinute = some m ∧ RegimeAt m t.session ∧ t.session.catchUp = s.session.catchUp) ∧
  (∀ (e opened : Entry) (old new count graceMinutes : Nat) (opens : Prop) (spanned : Nat → Nat → Prop),
     old < 10080 → new < 10080 → e.start < 10080 → e.start < e.stop → e.stop ≤ e.start + 600 →
     (∀ d, e.grace = some d → d < 10080) →
     (spanned = fun k m => 1 ≤ k ∧ k ≤ (new + 10080 - old) % 10080 ∧ m = (old + k) % 10080) →
     (opens = ((e.state = .pending ∧ ¬(e.skip = true ∧ e.inWhole new = true) ∧ e.inLead new = false ∧ e.inInterval new = true) ∨
       (e.state = .precondition ∧ e.inInterval new = true))) →
     (opened = { e with
       state := .active, grace := some ((new + graceMinutes) % 10080), carried := false
       peak := count, occupied := 0, shortfall := 0, seen := decide (0 < count) }) →
     (e.state = .active →
       ((∃ k, spanned k (e.stop % 10080)) → e.passEnd old new graceMinutes = e.finish .timeJump) ∧
       ((¬∃ k, spanned k (e.stop % 10080)) →
         (∀ d, e.grace = some d → (∃ k, spanned k d) →
           e.passEnd old new graceMinutes = .keep { e with grace := some ((new + graceMinutes) % 10080) }) ∧
         ((∀ d, e.grace = some d → ¬∃ k, spanned k d) → e.passEnd old new graceMinutes = .keep e)) ∧
       e.passOccurrence old new = .keep e ∧
       (e.inInterval new = true → e.takeBack new count graceMinutes = .keep e) ∧
       (e.inInterval new = false → e.takeBack new count graceMinutes =
         { kept := some { e with
             state := if e.inLead new then .precondition else .pending, grace := none, carried := true }
           reports := [], boundaries := 1 }) ∧
       e.evaluate new count graceMinutes true = e.evaluate new count graceMinutes false) ∧
     (e.state ≠ .active →
       e.passEnd old new graceMinutes = .keep e ∧
       (opens → e.takeBack new count graceMinutes = { kept := some opened, reports := [], boundaries := 1 } ∧
         e.evaluate new count graceMinutes true =
           { kept := some (if e.carried then { opened with
                 peak := max e.peak count, occupied := e.occupied, shortfall := e.shortfall
                 seen := e.seen || decide (0 < count) } else opened)
             reports := [], boundaries := 1 }) ∧
       (¬opens → e.takeBack new count graceMinutes = e.evaluate new count graceMinutes false ∧
         e.evaluate new count graceMinutes true = e.evaluate new count graceMinutes false)) ∧
     (e.state = .pending ∨ e.state = .precondition →
       ((∃ j k, j ≤ k ∧ spanned j e.start ∧ spanned k (e.stop % 10080)) →
         e.passOccurrence old new =
           if e.weekly then .keep { e with state := .pending, skip := false, carried := false } else e.finish .missed) ∧
       ((¬∃ j k, j ≤ k ∧ spanned j e.start ∧ spanned k (e.stop % 10080)) → e.passOccurrence old new = .keep e)) ∧
     (e.state = .dormant →
       e.passOccurrence old new = .keep { e with state := if e.inWhole new then .dormant else .pending }))

/-- The regime follows the entry states after every step (R66, R67: the regime is IN_SESSION exactly while an entry is
ACTIVE). -/
def Obligations.EveryStepKeepsTheRegimeLaw : Prop :=
  ∀ s t : State, RegimeLaw s.session → step s = .next t → RegimeLaw t.session

/-- Every block's copy of the regime, N, the vacant flag and the override values agrees with its owner, and the light scene is
the one the regime, the mode and the vacant flag give, after every step (R68, R85, R110, R128, R136, R148, R172). -/
def Obligations.EveryStepKeepsTheRoomLaw : Prop :=
  ∀ s t : State, RoomLaw s → step s = .next t → RoomLaw t

/-! ### Occupancy -/

/-- A decoder that is not BLOCKED moves by the table of R73 and counts an ENTRY or an EXIT in two cells alone; in BLOCKED it
counts nothing and returns to CLEAR when both beams are clear (R72, R73, R75, R77). -/
def Obligations.DoorsCountWholePasses : Prop :=
  ∀ (d e : Door) (beam : Beam) (broken : Bool) (now : Nat) (pass : Option Pass), DoorLaw d → d.beams.get beam ≠ broken →
    d.take beam broken now = (e, pass) →
    DoorLaw e ∧ e.beams = d.beams.set beam broken ∧
    (pass = some .entry ↔ d.state = .leavingIn ∧ beam = .b ∧ broken = false) ∧
    (pass = some .exit ↔ d.state = .leavingOut ∧ beam = .a ∧ broken = false) ∧
    (d.state = .blocked → e.state = if e.beams.bothClear then .clear else .blocked) ∧
    (d.state ≠ .blocked → e.blockTimer = if e.beams.bothClear then none else some (now + 6000)) ∧
    (d.state = .clear → e.state = if beam = .a then .outer else .inner) ∧
    (d.state = .outer → e.state = if beam = .a then .clear else .spanIn) ∧
    (d.state = .inner → e.state = if beam = .a then .spanOut else .clear) ∧
    (d.state = .spanIn → e.state = if beam = .a then .leavingIn else .outer) ∧
    (d.state = .leavingIn → e.state = if beam = .a then .spanIn else .clear) ∧
    (d.state = .spanOut → e.state = if beam = .a then .inner else .leavingOut) ∧
    (d.state = .leavingOut → e.state = if beam = .a then .clear else .spanOut)

/-- A beam event at a fitted door: a repeat shows on the field line alone; any other moves the decoder; an ENTRY sets N to the
lesser of N + 1 and Ncap, restarts the quiet timer and clears the vacant flag, an EXIT sets N to the greater of N − 1 and 0
and leaves both (R72, R73, R77, R79, R81). The block timer of a door expires: BLOCKED, its levels kept, DOOR_BLOCKED raised, no
count (R76; the expiry carries the time base to its due time, log entry 4). -/
def Obligations.BeamEventsAreCounted : Prop :=
  (∀ (s u : State) (i : Instr) (door : Nat) (beam : Beam) (broken : Bool) (levels : BeamLevels) (d e : Door)
     (pass : Option Pass),
     (i = if broken then .beamBreak door beam else .beamClear door beam) → s.started = true →
     pick? s.lines.beams door = some levels → pick? s.counter.doors door = some d → d.take beam broken s.now = (e, pass) →
     u = s.setLines { s.lines with beams := put s.lines.beams door (levels.set beam broken) } →
     (d.beams.get beam = broken → exec i s = .next u) ∧
     (d.beams.get beam ≠ broken →
       (pass = none → d.state ≠ .blocked →
         exec i s = .next (u.setCounter { s.counter with doors := put s.counter.doors door e })) ∧
       (pass = none → d.state = .blocked →
         ∃ t, exec i s = .next t ∧ t.counter = { s.counter with doors := put s.counter.doors door e } ∧
           AlertsKept [.doorBlocked] s t ∧ QuietFrame (u.setCounter t.counter) t ∧ t.bus = s.bus ∧
           t.isRaised .doorBlocked = (s.isRaised .doorBlocked && t.counter.anyBlocked)) ∧
       (pass = some .entry → d.state ≠ .blocked →
         ∃ t, exec i s = .next t ∧ SessionFrame (u.setCounter t.counter) t ∧ t.counter =
           { doors := put s.counter.doors door e, count := min (s.counter.count + 1) s.loader.settings.capacity
             vacant := false, quietTimer := some (s.now + s.loader.settings.vacancyHold * 60000) }) ∧
       (pass = some .exit → d.state ≠ .blocked →
         ∃ t, exec i s = .next t ∧ SessionFrame (u.setCounter t.counter) t ∧ t.counter =
           { s.counter with doors := put s.counter.doors door e, count := s.counter.count - 1 }))) ∧
  (∀ (s : State) (door due : Nat) (d : Door), s.started = true → pick? s.counter.doors door = some d →
     d.blockTimer = some due →
     exec (.blockTimerExpiry door) s = .next (raiseAlert .doorBlocked ((s.setNow (max s.now due)).setCounter
       { s.counter with doors := put s.counter.doors door { d with state := .blocked, blockTimer := none } })))

/-- A motion pulse restarts the quiet timer, raises N to at least 1 and clears the vacant flag; N and the flag reach every block
that keeps a copy, and an ACTIVE entry is marked where N has changed and no merge is in flight (R57, R58, R80, R85). The quiet
timer expires: with N at 4 or more the count is trusted and the timer restarts; with N at 3 or less the room is vacant, N is
0, an attended ACTIVE occurrence is released early, override ends, and every block hears of it (R58, R59, R82, R85, R173). The
expiry carries the time base to its due time (log entry 4). -/
def Obligations.PresenceAndQuietDecideVacancy : Prop :=
  (∀ (s : State) (input : Nat), s.started = true → 1 ≤ input → input ≤ 4 →
     ∃ t, exec (.motionPulse input) s = .next t ∧ SessionFrame (s.setCounter t.counter) t ∧
       t.counter = { s.counter with
         count := max 1 s.counter.count, vacant := false
         quietTimer := some (s.now + s.loader.settings.vacancyHold * 60000) } ∧
       t.air.count = t.counter.count ∧ t.air.vacant = false ∧ t.light.vacant = false ∧ t.blind.vacant = false ∧
       t.panel.vacant = false ∧
       (s.intake.merge = none → s.counter.count = 0 →
         t.session.entries = s.session.entries.map (fun e => if e.state = .active then
           { e with seen := true, peak := max e.peak 1 } else e)) ∧
       (s.intake.merge = none → 0 < s.counter.count → t.session = s.session) ∧
       (s.intake.merge ≠ none → t.session = { s.session with catchUp := true })) ∧
  (∀ (s : State) (due n : Nat), s.started = true → s.counter.quietTimer = some due → n = max s.now due →
     (4 ≤ s.counter.count →
       exec .quietTimerExpiry s = .next ((s.setNow n).setCounter
         { s.counter with quietTimer := some (n + s.loader.settings.vacancyHold * 60000) })) ∧
     (s.counter.count ≤ 3 →
       ∃ t, exec .quietTimerExpiry s = .next t ∧ SessionFrame ((s.setNow n).setCounter t.counter) t ∧
         t.counter = { s.counter with count := 0, vacant := true, quietTimer := none } ∧
         t.air.count = 0 ∧ t.air.vacant = true ∧ t.light.vacant = true ∧ t.blind.vacant = true ∧ t.panel.vacant = true ∧
         t.panel.on = false ∧
         (s.intake.merge = none →
           t.session.entries = s.session.entries.filterMap (fun e =>
             if e.state = .active ∧ e.seen = true then (e.finish .earlyRelease).kept else some e)) ∧
         (s.intake.merge ≠ none → t.session = { s.session with catchUp := true })))

/-- N lies between 0 and Ncap, a vacant room counts no one, the quiet timer runs exactly while the room is not vacant, and the
doors keep their law, after every step (R72, R79, R82). -/
def Obligations.EveryStepKeepsTheCounterLaw : Prop :=
  ∀ s t : State, CounterLaw s → step s = .next t → CounterLaw t

/-! ### The Peer Table -/

/-- What a neighbour's message does to the table once it is accepted and admitted and there is an entry or a free slot for
it: its entry's age is 0, the part of its kind is written, and every other entry stands as it stood (R91 to R96). -/
def Obligations.MessagesAreRecorded : Prop :=
  ∀ (s : State) (source dest : Byte) (p : Peer), s.accepts source dest true = true →
    (s.peers.find source = some p ∨
      (s.peers.find source = none ∧ (∃ i, s.peers.freeSlot = some i) ∧
        p = { address := source, age := 0, claim := none, sun := none, feeder := none })) →
    (∀ (trunk claimClass : Byte) (demand minimum : Word), s.loader.settings.trunk ≠ 0 →
      trunk.toNat = s.loader.settings.trunk → minimum.toNat ≤ demand.toNat → demand.toNat ≤ 4000 → claimClass.toNat ≤ 3 →
      ∃ t, exec (.claim source dest trunk demand minimum claimClass false) s = .next t ∧
        RoomFrame (s.setPeers t.peers) t ∧ t.peers.find source = some { p with
          age := 0
          claim := some { demand := demand.toNat, minimum := minimum.toNat, claimClass := claimClass.toNat } } ∧
        (∀ a, a ≠ source → t.peers.find a = s.peers.find a) ∧
        t.peers.pointer = s.peers.pointer ∧ t.peers.sweepTimer = s.peers.sweepTimer) ∧
    (∀ facade glare klux : Byte, s.loader.settings.facade ≠ 0 → facade.toNat = s.loader.settings.facade →
      glare.toNat ≤ 100 → klux.toNat ≤ 150 →
      ∃ t, exec (.sunReading source dest facade glare klux) s = .next t ∧
        RoomFrame (s.setPeers t.peers) t ∧ t.peers.find source = some { p with age := 0, sun := some glare.toNat } ∧
        (∀ a, a ≠ source → t.peers.find a = s.peers.find a) ∧
        t.peers.pointer = s.peers.pointer ∧ t.peers.sweepTimer = s.peers.sweepTimer) ∧
    (∀ (facade count duration : Byte) (arrival : Nat), s.loader.settings.facade ≠ 0 →
      facade.toNat = s.loader.settings.facade → 1 ≤ count.toNat → count.toNat ≤ 4 → 1 ≤ duration.toNat →
      duration.toNat ≤ 150 →
      ∃ t, exec (.feederStart source dest facade count duration arrival) s = .next t ∧
        RoomFrame (s.setPeers t.peers) t ∧ t.peers.find source = some { p with
          age := 0
          feeder := some (match p.feeder with
            | none => { drives := count.toNat, guard := arrival + (duration.toNat + 5) * 1000 }
            | some f => { drives := min (f.drives + count.toNat) 4
                          guard := max f.guard (arrival + (duration.toNat + 5) * 1000) }) } ∧
        (∀ a, a ≠ source → t.peers.find a = s.peers.find a) ∧
        t.peers.pointer = s.peers.pointer ∧ t.peers.sweepTimer = s.peers.sweepTimer) ∧
    (∀ (facade count : Byte), s.loader.settings.facade ≠ 0 → facade.toNat = s.loader.settings.facade →
      1 ≤ count.toNat → count.toNat ≤ 4 → s.peers.find source = some p →
      ∃ t, exec (.feederEnd source dest facade count) s = .next t ∧
        RoomFrame (s.setPeers t.peers) t ∧ t.peers.find source = some { p with
          age := 0
          feeder := match p.feeder with
            | none => none
            | some f => if count.toNat < f.drives then some { f with drives := f.drives - count.toNat } else none } ∧
        (∀ a, a ≠ source → t.peers.find a = s.peers.find a) ∧
        t.peers.pointer = s.peers.pointer ∧ t.peers.sweepTimer = s.peers.sweepTimer) ∧
    (∀ (trunk claimClass : Byte) (demand minimum : Word), s.loader.settings.trunk ≠ 0 →
      trunk.toNat = s.loader.settings.trunk → s.peers.find source = some p →
      ∃ t, exec (.claim source dest trunk demand minimum claimClass true) s = .next t ∧
        RoomFrame (s.setPeers t.peers) t ∧ t.peers.find source = some { p with age := 0, claim := none } ∧
        (∀ a, a ≠ source → t.peers.find a = s.peers.find a) ∧
        t.peers.pointer = s.peers.pointer ∧ t.peers.sweepTimer = s.peers.sweepTimer)

/-- A neighbour's message that is not accepted, not admitted, or withdraws what no entry holds changes nothing (R16, R91, R92).
In a full table, an adding message from a source without an entry replaces the entry of greatest age, 1 or more, at the
lowest slot, and clears PEER_TABLE_FULL; with every age 0 it is not recorded and the alert is raised (R92, R100): so the table
and the alert stand after a CLAIM, a SUN READING and a FEEDER START. -/
def Obligations.MessagesWithoutAPlace : Prop :=
  (∀ (s : State) (source dest : Byte),
     (∀ (trunk claimClass : Byte) (demand minimum : Word) (withdraw : Bool),
       s.accepts source dest true = false ∨ s.loader.settings.trunk = 0 ∨ trunk.toNat ≠ s.loader.settings.trunk ∨
         (withdraw = true ∧ s.peers.find source = none) ∨
         (withdraw = false ∧ (demand.toNat < minimum.toNat ∨ 4000 < demand.toNat ∨ 3 < claimClass.toNat)) →
       exec (.claim source dest trunk demand minimum claimClass withdraw) s = .next s) ∧
     (∀ facade glare klux : Byte,
       s.accepts source dest true = false ∨ s.loader.settings.facade = 0 ∨ facade.toNat ≠ s.loader.settings.facade ∨
         100 < glare.toNat ∨ 150 < klux.toNat →
       exec (.sunReading source dest facade glare klux) s = .next s) ∧
     (∀ (facade count duration : Byte) (arrival : Nat),
       s.accepts source dest true = false ∨ s.loader.settings.facade = 0 ∨ facade.toNat ≠ s.loader.settings.facade ∨
         count.toNat = 0 ∨ 4 < count.toNat ∨ duration.toNat = 0 ∨ 150 < duration.toNat →
       exec (.feederStart source dest facade count duration arrival) s = .next s) ∧
     (∀ facade count : Byte,
       s.accepts source dest true = false ∨ s.loader.settings.facade = 0 ∨ facade.toNat ≠ s.loader.settings.facade ∨
         count.toNat = 0 ∨ 4 < count.toNat →
       exec (.feederEnd source dest facade count) s = .next s)) ∧
  (∀ (t : PeerTable) (source : Byte) (m : PeerMessage), t.find source = none → m.adds = true → t.freeSlot = none →
     (∀ (i : Nat) (p : Peer), t.slots[i]? = some (some p) → 1 ≤ p.age → p.age ≤ 2 →
       (∀ (j : Nat) (q : Peer), t.slots[j]? = some (some q) → q.age ≤ p.age ∧ (q.age = p.age → i ≤ j)) →
       (t.take source m).table = { t with slots := t.slots.set i (some ((Peer.new source).record m).1) } ∧
       (t.take source m).full = some false ∧
       (t.take source m).notices = p.removal ++ ((Peer.new source).record m).2) ∧
     ((∀ (j : Nat) (q : Peer), t.slots[j]? = some (some q) → q.age = 0) →
       (t.take source m).table = t ∧ (t.take source m).full = some true)) ∧
  (∀ (s : State) (source dest : Byte) (i : Instr) (made : Peer), s.accepts source dest true = true →
     s.peers.find source = none → s.peers.freeSlot = none →
     ((∃ (trunk claimClass : Byte) (demand minimum : Word), i = .claim source dest trunk demand minimum claimClass false ∧
         s.loader.settings.trunk ≠ 0 ∧ trunk.toNat = s.loader.settings.trunk ∧ minimum.toNat ≤ demand.toNat ∧
         demand.toNat ≤ 4000 ∧ claimClass.toNat ≤ 3 ∧ made = { Peer.new source with
           claim := some { demand := demand.toNat, minimum := minimum.toNat, claimClass := claimClass.toNat } }) ∨
       (∃ facade glare klux : Byte, i = .sunReading source dest facade glare klux ∧ s.loader.settings.facade ≠ 0 ∧
         facade.toNat = s.loader.settings.facade ∧ glare.toNat ≤ 100 ∧ klux.toNat ≤ 150 ∧
         made = { Peer.new source with sun := some glare.toNat }) ∨
       (∃ (facade count duration : Byte) (arrival : Nat), i = .feederStart source dest facade count duration arrival ∧
         s.loader.settings.facade ≠ 0 ∧ facade.toNat = s.loader.settings.facade ∧ 1 ≤ count.toNat ∧ count.toNat ≤ 4 ∧
         1 ≤ duration.toNat ∧ duration.toNat ≤ 150 ∧ made = { Peer.new source with
           feeder := some { drives := count.toNat, guard := arrival + (duration.toNat + 5) * 1000 } })) →
     (∀ (n : Nat) (p : Peer), s.peers.slots[n]? = some (some p) → 1 ≤ p.age → p.age ≤ 2 →
       (∀ (j : Nat) (q : Peer), s.peers.slots[j]? = some (some q) → q.age ≤ p.age ∧ (q.age = p.age → n ≤ j)) →
       ∃ t, exec i s = .next t ∧ RoomFrame (s.setPeers t.peers) t ∧
         t.peers = { s.peers with slots := s.peers.slots.set n (some made) } ∧ t.isRaised .peerTableFull = false) ∧
     ((∀ (j : Nat) (q : Peer), s.peers.slots[j]? = some (some q) → q.age = 0) →
       ∃ t, exec i s = .next t ∧ RoomFrame s t ∧ t.peers = s.peers ∧ t.isRaised .peerTableFull = true ∧
         ((∀ facade count duration arrival, i ≠ .feederStart source dest facade count duration arrival) →
           t = raiseAlert .peerTableFull s)))

/-- The sweep visits the slot at its pointer every 2 s, ages its entry or removes it at age 2, and moves on; a guard expiry
removes the feeder part of its peer alone (R97, R98, R100). An expiry carries the time base to its due time (log entry 4). -/
def Obligations.SweepsAgeAndGuardsExpire : Prop :=
  ∀ (s : State) (due n : Nat), s.started = true → n = max s.now due →
    (s.peers.sweepTimer = some due → s.peers.pointer < s.peers.slots.length →
      ∃ t, exec .sweepTimerExpiry s = .next t ∧ RoomFrame ((s.setNow n).setPeers t.peers) t ∧
        t.peers.sweepTimer = some (due + 2000) ∧ t.peers.pointer = (s.peers.pointer + 1) % 32 ∧
        (s.peers.slots[s.peers.pointer]? = some none → t.peers.slots = s.peers.slots) ∧
        (∀ p, s.peers.slots[s.peers.pointer]? = some (some p) → p.age < 2 →
          t.peers.slots = s.peers.slots.set s.peers.pointer (some { p with age := p.age + 1 })) ∧
        (∀ p, s.peers.slots[s.peers.pointer]? = some (some p) → 2 ≤ p.age →
          t.peers.slots = s.peers.slots.set s.peers.pointer none ∧ t.isRaised .peerTableFull = false)) ∧
    (∀ (peer : Byte) (p : Peer) (f : FeederPart), s.peers.find peer = some p → p.feeder = some f → f.guard = due →
      ∃ t, exec (.guardExpiry peer) s = .next t ∧ RoomFrame ((s.setNow n).setPeers t.peers) t ∧
        t.peers.find peer = some { p with feeder := none } ∧ (∀ a, a ≠ peer → t.peers.find a = s.peers.find a) ∧
        t.peers.pointer = s.peers.pointer ∧ t.peers.sweepTimer = s.peers.sweepTimer)

/-- The table keeps its 32 slots, distinct addresses, no entry of the station's own, and fields in range, after every step
(R16, R89). -/
def Obligations.EveryStepKeepsThePeerLaw : Prop :=
  ∀ s t : State, PeerLaw s → step s = .next t → PeerLaw t

/-! ### The Air Controller -/

/-- N_eff, D, M, setback and the claim class, worked from the settled values and the inputs (R107 to R109, R111). -/
def Obligations.FiguresFollowTheRules : Prop :=
  ∀ (c : Settings) (a : Air) (occupants base sub boost : Nat),
    (a.regime = .prepare → occupants = max a.count a.preparingHead) → (a.regime ≠ .prepare → occupants = a.count) →
    base = (c.area * c.areaRate + 9) / 10 → sub = base + (occupants * c.personRate + 9) / 10 →
    (a.co2 ≤ c.setpoint → boost = 0) → (c.setpoint < a.co2 → boost = min ((a.co2 - c.setpoint) * sub / 1000) sub) →
    a.effective = occupants ∧
    (a.regime = .standby ∧ a.vacant = true →
      a.demandNow c = min ((base + 3) / 4) c.maxFlow ∧ a.minimumNow c = min ((base + 3) / 4) c.maxFlow) ∧
    (¬(a.regime = .standby ∧ a.vacant = true) →
      a.demandNow c = min (sub + boost + (if a.boost then sub / 4 else 0)) c.maxFlow ∧
      a.minimumNow c = min base c.maxFlow) ∧
    (∀ mode, claimClassOf .standby mode = 0 ∧ claimClassOf .prepare mode = 1) ∧
    claimClassOf .inSession (some .exam) = 3 ∧ claimClassOf .inSession (some .lecture) = 2 ∧
    claimClassOf .inSession (some .screen) = 2 ∧ claimClassOf .inSession (some .seminar) = 1

/-- The grants of the participants of a trunk: together never more than C_T; each its M scaled down when ΣM exceeds C_T, and
otherwise between its M and its D; a class is served in full before any extra goes below it. The classes take the residual in
turn from 3 down: a class whose extras fit is granted its D, and any other shares what it finds in proportion, rounded down, and
leaves nothing (R117). -/
def Obligations.GrantsShareTheTrunk : Prop :=
  ∀ (capacity : Nat) (participants : List ClaimFigures),
    (∀ p ∈ participants, p.minimum ≤ p.demand ∧ p.claimClass ≤ 3) →
    (participants.map (grantOf capacity participants)).sum ≤ capacity ∧
    (∀ p ∈ participants,
      (capacity < (participants.map (·.minimum)).sum →
        grantOf capacity participants p = p.minimum * capacity / (participants.map (·.minimum)).sum) ∧
      ((participants.map (·.minimum)).sum ≤ capacity →
        p.minimum ≤ grantOf capacity participants p ∧ grantOf capacity participants p ≤ p.demand)) ∧
    (∀ p ∈ participants, ∀ q ∈ participants, (participants.map (·.minimum)).sum ≤ capacity →
      q.claimClass < p.claimClass → grantOf capacity participants p < p.demand →
      grantOf capacity participants q = q.minimum) ∧
    (∀ need residual : Nat → Nat, (participants.map (·.minimum)).sum ≤ capacity →
      (∀ k, need k = ((participants.filter (·.claimClass == k)).map (fun p => p.demand - p.minimum)).sum) →
      residual 3 = capacity - (participants.map (·.minimum)).sum →
      (∀ k, k < 3 → residual k = if need (k + 1) ≤ residual (k + 1) then residual (k + 1) - need (k + 1) else 0) →
      ∀ p ∈ participants,
        (need p.claimClass ≤ residual p.claimClass → grantOf capacity participants p = p.demand) ∧
        (residual p.claimClass < need p.claimClass → grantOf capacity participants p =
          p.minimum + (p.demand - p.minimum) * residual p.claimClass / need p.claimClass))

/-- A CO2 reading is clamped and taken as C, the input is LIVE, its loss timer restarts, CO2_LOST ends, CO2_HIGH is judged and
demand is recomputed, the trigger test last; its loss makes C the setpoint and raises CO2_LOST (R104 to R106, R110, R125). The
expiry carries the time base to its due time (log entry 4). -/
def Obligations.Co2IsTakenAndLost : Prop :=
  ∀ s : State, s.started = true → (s.isRaised .co2Lost = true → s.air.co2State = .lost) →
    (∀ (ppm c : Nat), c = max 300 (min ppm 5000) →
      ∃ t, exec (.co2Reading ppm) s = .next t ∧ AirFrame s t ∧ s.air.SameInputs t.air ∧
        t.air.count = s.air.count ∧ t.air.vacant = s.air.vacant ∧
        t.air.co2 = c ∧ t.air.co2State = .live ∧ t.air.co2Timer = some (s.now + 900000) ∧
        t.isRaised .co2Lost = false ∧ t.isRaised .co2High = decide (s.loader.settings.setpoint + 600 ≤ c) ∧
        AlertsKept [.co2High, .co2Lost, .damperFault, .shortfall] s t ∧ (s.isNormal = true → t.figuresCurrent ∧
          ∃ r, t = testTrigger r ∧ r.bus = s.bus ∧ r.air.record = s.air.record ∧ r.air.rateWindow = s.air.rateWindow)) ∧
    (∀ (due n : Nat), s.air.co2Timer = some due → n = max s.now due →
      ∃ t, exec .co2LossTimerExpiry s = .next t ∧ AirFrame (s.setNow n) t ∧ s.air.SameInputs t.air ∧
        t.air.count = s.air.count ∧ t.air.vacant = s.air.vacant ∧
        t.air.co2 = s.loader.settings.setpoint ∧ t.air.co2State = .lost ∧ t.air.co2Timer = none ∧
        t.isRaised .co2Lost = true ∧ t.isRaised .co2High = false ∧
        AlertsKept [.co2High, .co2Lost, .damperFault, .shortfall] s t ∧ (s.isNormal = true → t.figuresCurrent))

/-- The rate window closes: a pending trigger offers the current figures, or a withdrawal while the line is asserted, and opens
the window again; the refresh offers the current figures (R112, R114, R115, R123). Feedback is compared with the command: more
than 100 permille apart starts the 90 s fault timer, 100 or less stops it and clears DAMPER_FAULT; the expiry raises it. The
shortfall timer's expiry raises SHORTFALL (R120, R121). The trigger test, and what a trigger does while the window is closed and
while it is open (R113, R114; before any record the figures count as changed, log entry 20). An expiry carries the time base to
its due time (log entry 4). -/
def Obligations.AirTimersAndDamperAct : Prop :=
  (∀ (s : State) (due n : Nat), s.started = true → n = max s.now due →
     (s.air.rateWindow = some due →
       (s.air.pendingTrigger = false →
         exec .rateWindowExpiry s = .next ((s.setNow n).setAir { s.air with rateWindow := none, pendingTrigger := false })) ∧
       (s.air.pendingTrigger = true → s.air.emergency = false →
         exec .rateWindowExpiry s = .next (offer (s.claimFrame s.air.figures false) ((s.setNow n).setAir { s.air with
           rateWindow := some (n + 2000), pendingTrigger := false, record := some s.air.figures
           refreshTimer := some (n + 30000) }))) ∧
       (s.air.pendingTrigger = true → s.air.emergency = true →
         exec .rateWindowExpiry s =
           .next (offer (s.claimFrame { demand := 0, minimum := 0, claimClass := 0 } true) ((s.setNow n).setAir { s.air with
             rateWindow := some (n + 2000), pendingTrigger := false })))) ∧
     (s.air.refreshTimer = some due →
       exec .claimRefreshExpiry s = .next (offer (s.claimFrame s.air.figures false) ((s.setNow n).setAir { s.air with
         rateWindow := some (n + 2000), record := some s.air.figures, refreshTimer := some (n + 30000) })))) ∧
  (∀ (s u : State) (permille due : Nat), s.started = true →
     u = s.setLines { s.lines with damper := permille } →
     (s.air.command ≤ permille + 100 → permille ≤ s.air.command + 100 →
       exec (.damperFeedback permille) s =
         .next (clearAlert .damperFault (u.setAir { s.air with feedback := permille, faultTimer := none }))) ∧
     (permille + 100 < s.air.command ∨ s.air.command + 100 < permille →
       exec (.damperFeedback permille) s = .next (u.setAir { s.air with
         feedback := permille
         faultTimer := some (s.air.faultTimer.getD (s.now + 90000)) })) ∧
     (s.air.faultTimer = some due →
       exec .damperFaultTimerExpiry s =
         .next (raiseAlert .damperFault ((s.setNow (max s.now due)).setAir { s.air with faultTimer := none }))) ∧
     (s.air.shortfallTimer = some due →
       exec .shortfallTimerExpiry s =
         .next (raiseAlert .shortfall ((s.setNow (max s.now due)).setAir { s.air with shortfallTimer := none })))) ∧
  (∀ a : Air, (a.record = none → a.triggerTest = true) ∧
     ∀ r, a.record = some r →
       (a.triggerTest = true ↔ a.claimClass ≠ r.claimClass ∨ a.minimum ≠ r.minimum ∨
         r.demand + max 10 (r.demand / 20) ≤ a.demand ∨ a.demand + max 10 (r.demand / 20) ≤ r.demand)) ∧
  (∀ s : State,
     (s.air.triggerTest = false ∨ s.air.emergency = true ∨ s.loader.settings.trunk = 0 ∨ s.isNormal = false →
       testTrigger s = s) ∧
     (s.air.triggerTest = true → s.air.emergency = false → s.loader.settings.trunk ≠ 0 → s.isNormal = true →
       (s.air.rateWindow = none → testTrigger s = offer (s.claimFrame s.air.figures false) (s.setAir { s.air with
         rateWindow := some (s.now + 2000), record := some s.air.figures, refreshTimer := some (s.now + 30000) })) ∧
       (s.air.rateWindow ≠ none → testTrigger s = s.setAir { s.air with pendingTrigger := true })))

/-- The figures stay in their ranges, the grant is the one the view gives at every moment, the damper command follows it, and
the shortfall state and the damper fault are judged, after every step (R108, R109, R116 to R121, R123, R125). That g is 0 also
from a start with the line asserted is read by inference (log entry 35). -/
def Obligations.EveryStepKeepsTheAirLaw : Prop :=
  ∀ s t : State, AirLaw s → step s = .next t → AirLaw t

/-! ### The Light Controller -/

/-- A scene change (R128, R129, R134, R135): the scene is the table's, with its INNER level and lux target; a change to a lit
scene ends the warning and starts the fade of every group that is not hand-select; a change to OFF starts the warning with the
fades stopped; while the line is asserted a change is recorded only (R138). That every step leaves the scene of the regime, mode
and vacant flag held is in the law of the room (EveryStepKeepsTheRoomLaw). -/
def Obligations.ScenesFollowTheRegime : Prop :=
  ∀ (l : Light) (now : Nat) (scene : Scene), scene = sceneOf l.regime l.mode l.vacant →
    (∀ vacant, sceneOf .inSession (some .lecture) vacant = .lecture ∧ sceneOf .inSession (some .seminar) vacant = .seminar ∧
      sceneOf .inSession (some .exam) vacant = .exam ∧ sceneOf .inSession (some .screen) vacant = .screen) ∧
    (∀ mode, sceneOf .prepare mode false = .prepare ∧ sceneOf .standby mode false = .standby ∧
      sceneOf .prepare mode true = .off ∧ sceneOf .standby mode true = .off) ∧
    [.lecture, .seminar, .exam, .screen, .prepare, .standby, .off].map Scene.innerLevel = [800, 700, 900, 150, 500, 600, 0] ∧
    [.lecture, .seminar, .exam, .screen, .prepare, .standby, .off].map Scene.luxTarget =
      [some 500, some 400, some 600, some 50, some 300, some 400, none] ∧
    (l.rescene now).scene = scene ∧
    (scene = l.scene → l.rescene now = l) ∧
    (scene ≠ l.scene → l.emergency = true → l.rescene now = { l with scene := scene }) ∧
    (scene ≠ l.scene → l.emergency = false → scene ≠ .off →
      l.rescene now = { l with
        scene := scene, warning := none
        groups := l.groups.map (fun g => if g.handSelect then g else { g with
          target := scene.innerLevel
          fade := if g.level = scene.innerLevel then none else some (now + 5) }) }) ∧
    (scene ≠ l.scene → l.emergency = false → scene = .off →
      l.rescene now = { l with
        scene := scene, warning := some (now + 60000)
        groups := l.groups.map (fun g => if g.handSelect then g else { g with fade := none }) })

/-- A photosensor reading is held within 0 and 5000 and restarts the loss timer; the loss pins the WINDOW groups to the lit
scene's INNER level, with the emergency line asserted as with it released (R131). The harvest timer runs on with its
period; a WINDOW group takes one step toward the lux target where every condition holds, and none where one does not (R132). An
expiry carries the time base to its due time (log entry 4). -/
def Obligations.PhotosensorStepsTheWindowGroups : Prop :=
  (∀ s : State, s.started = true →
     (∀ lux, exec (.photosensorReading lux) s = .next (s.setLight { s.light with
       reading := some (min lux 5000), photoState := .live, photoTimer := some (s.now + 60000) })) ∧
     (∀ due n, s.light.photoTimer = some due → n = max s.now due →
       exec .photosensorLossTimerExpiry s = .next ((s.setNow n).setLight { s.light with
         photoState := .lost, photoTimer := none
         groups := if s.light.scene ≠ .off then
             s.light.groups.map (fun g => if g.window && !g.handSelect then { g with
               target := s.light.scene.innerLevel
               fade := if g.level = s.light.scene.innerLevel then none else some (n + 5) } else g)
           else s.light.groups }))) ∧
  (∀ (s : State) (due : Nat), s.started = true → s.light.harvestTimer = some due →
     (∀ lux reading, s.isNormal = true → s.light.scene.luxTarget = some lux → s.light.reading = some reading →
       s.light.warning = none → s.light.emergency = false → s.light.hold = .off → s.light.photoState = .live →
       exec .harvestTimerExpiry s = .next ((s.setNow (max s.now due)).setLight { s.light with
         harvestTimer := some (due + 10000)
         groups := s.light.groups.map (fun g => if g.window && !g.handSelect && g.fade.isNone then { g with
           level := (max 0 (min 1000 ((g.level : Int) + max (-50) (min 50 (Int.tdiv ((lux : Int) - reading) 2))))).toNat }
           else g) })) ∧
     (s.isNormal = false ∨ s.light.scene = .off ∨ s.light.reading = none ∨ s.light.warning ≠ none ∨ s.light.emergency = true ∨
         s.light.hold ≠ .off ∨ s.light.photoState ≠ .live →
       exec .harvestTimerExpiry s = .next ((s.setNow (max s.now due)).setLight { s.light with
         harvestTimer := some (due + 10000) })))

/-- A fade moves by 1 permille every 5 ms and completes at its target; the warning's expiry darkens the groups that are not
hand-select; the release of the harvest hold ends it (R130, R133, R135). A wall switch shows on its field line, and is taken
for a hand-select group alone (R137). An expiry carries the time base to its due time (log entry 4). -/
def Obligations.FadesTimersAndSwitchesMoveGroups : Prop :=
  (∀ (s : State) (due n : Nat), s.started = true → n = max s.now due →
     (∀ (number : Nat) (g : Group), pick? s.light.groups number = some g → g.fade = some due →
       ∃ level, exec (.fadeStep number) s = .next ((s.setNow n).setLight { s.light with
           groups := put s.light.groups number
             { g with level := level, fade := if level = g.target then none else some (due + 5) } }) ∧
         (g.level < g.target → level = g.level + 1) ∧ (g.target < g.level → level + 1 = g.level) ∧
         (g.level = g.target → level = g.level)) ∧
     (s.light.warning = some due →
       exec .vacancyWarningExpiry s = .next ((s.setNow n).setLight { s.light with
         warning := none
         groups := s.light.groups.map (fun g => if g.handSelect then g else { g with level := 0, target := 0, fade := none }) })) ∧
     (s.light.hold = .releasing due →
       exec .harvestHoldReleaseExpiry s = .next ((s.setNow n).setLight { s.light with hold := .off }))) ∧
  (∀ (s u : State) (number : Nat) (on : Bool), s.started = true →
     u = s.setLines { s.lines with switches := put s.lines.switches number on } →
     (∀ g, pick? s.light.groups number = some g → g.handSelect = true →
       exec (.wallSwitch number on) s = .next (u.setLight { s.light with
         groups := put s.light.groups number { g with switch := on } })) ∧
     ((∀ g, pick? s.light.groups number = some g → g.handSelect = false) → exec (.wallSwitch number on) s = .next u))

/-- The output of a fitted group is the first row of R136 that applies; while the emergency line is asserted, the outputs show
the law of R176, and EMERGENCY is the top alert unless it is masked (R178). -/
def Obligations.OutputsFollowTheFirstRow : Prop :=
  (∀ (s : State) (position : Nat) (g : Group), s.started = true → pick? s.light.groups position = some g →
     (s.light.emergency = true → s.groupOutput position = 1000) ∧
     (s.light.emergency = false → g.handSelect = true → s.groupOutput position = if g.switch then 1000 else 0) ∧
     (s.light.emergency = false → g.handSelect = false →
       (s.light.warning ≠ none → s.groupOutput position = g.level * 3 / 10) ∧
       (s.light.warning = none → s.light.scene = .off → s.groupOutput position = g.level) ∧
       (s.light.warning = none → s.light.scene ≠ .off →
         ((s.groupOutput position : Nat) : Int) = max 0 (min 1000 ((g.level : Int) + s.light.offset))))) ∧
  (∀ s : State, EmergencyLaw s → s.started = true → s.alert.emergency = true →
     (∀ position g, pick? s.light.groups position = some g → s.groupOutput position = 1000) ∧ s.damperOutput = 0 ∧
     (∀ number, s.motorOutput number = .off) ∧ s.overrideLamp ≠ .lit ∧
     (s.alert.mask.getLsbD 0 = false → s.alert.top = 1 ∧ s.alertLamp = .lit))

/-! ### The Blind Controller -/

/-- An own sun reading is clamped and held, its age timer restarts, and G becomes the median of the fresh set, which stops the
hold timer and clears SUN_LOST; a change of the glare state is a policy event. A SUN READING with the façade, the glare index
and the illuminance is offered at the first reading and at a change of 10 or more; a station that takes no sun readings leaves
it alone (R143 to R148). A reading that grows stale leaves the fresh set to the neighbours, or to the hold timer where it is
empty; the send timer offers a fresh reading and restarts; the hold timer's expiry makes G 0 and raises SUN_LOST. The fresh suns
are the sun parts of entries of age 0 or 1 (R102). An expiry carries the time base to its due time (log entry 4). -/
def Obligations.OwnSunIsReadSentAndLost : Prop :=
  (∀ (s r₀ r : State) (glare klux g med : Nat) (glaring : Bool), s.started = true → g = min glare 100 →
     (s.loader.settings.sunSensor = false ∨ s.loader.settings.facade = 0 → exec (.ownSunReading glare klux) s = .next s) ∧
     (s.loader.settings.sunSensor = true → s.loader.settings.facade ≠ 0 → med = median (g :: s.peers.freshSuns) →
       glaring = (decide (60 ≤ med) || (decide (40 < med) && s.blind.glaring)) →
       r₀ = clearAlert .sunLost (s.setBlind { s.blind with
         own := some { glare := g, klux := min klux 150 }, ageTimer := some (s.now + 120000), holdTimer := none
         glare := med, glaring := glaring }) →
       r = (if glaring = s.blind.glaring then r₀ else policyEvent true r₀) →
       BlindFrame s r ∧ AlertsKept [.sunLost] s r ∧ r.isRaised .sunLost = false ∧
       (∀ last, s.blind.lastSent = some last → g < last + 10 → last < g + 10 →
         exec (.ownSunReading glare klux) s = .next r) ∧
       (s.blind.lastSent = none ∨ (∃ last, s.blind.lastSent = some last ∧ (last + 10 ≤ g ∨ g + 10 ≤ last)) →
         exec (.ownSunReading glare klux) s = .next (offer (Frame.plain .sunReading broadcast
             [byte s.loader.settings.facade, byte g, byte (min klux 150)])
           (r.setBlind { r.blind with lastSent := some g, sendTimer := some (s.now + 60000) }))))) ∧
  (∀ (s : State) (due n : Nat), s.started = true → n = max s.now due →
     (s.blind.ageTimer = some due →
       (∀ (r : State) (med : Nat) (glaring : Bool), s.peers.freshSuns ≠ [] → med = median s.peers.freshSuns →
         glaring = (decide (60 ≤ med) || (decide (40 < med) && s.blind.glaring)) →
         r = clearAlert .sunLost ((s.setNow n).setBlind { s.blind with
           ageTimer := none, holdTimer := none, glare := med, glaring := glaring }) →
         exec .ownReadingAgeExpiry s = .next (if glaring = s.blind.glaring then r else policyEvent true r)) ∧
       (s.peers.freshSuns = [] →
         exec .ownReadingAgeExpiry s = .next ((s.setNow n).setBlind { s.blind with
           ageTimer := none
           holdTimer := if s.blind.holdTimer = none ∧ s.isRaised .sunLost = false ∧ s.loader.settings.facade ≠ 0 then
             some (n + 900000) else s.blind.holdTimer }))) ∧
     (s.blind.sendTimer = some due →
       (∀ r age, s.blind.own = some r → s.blind.ageTimer = some age →
         exec .sunSendTimerExpiry s = .next (offer (Frame.plain .sunReading broadcast
             [byte s.loader.settings.facade, byte r.glare, byte r.klux])
           ((s.setNow n).setBlind { s.blind with lastSent := some r.glare, sendTimer := some (n + 60000) }))) ∧
       (s.blind.own = none ∨ s.blind.ageTimer = none →
         exec .sunSendTimerExpiry s = .next ((s.setNow n).setBlind { s.blind with sendTimer := some (n + 60000) }))) ∧
     (s.blind.holdTimer = some due →
       ∀ r, r = raiseAlert .sunLost ((s.setNow n).setBlind { s.blind with holdTimer := none, glare := 0, glaring := false }) →
         exec .glareHoldTimerExpiry s = .next (if s.blind.glaring then policyEvent true r else r))) ∧
  (∀ ns : List Nat, ns ≠ [] → ∃ sorted : List Nat, sorted.Perm ns ∧ sorted.Pairwise (· ≤ ·) ∧
     (ns.length % 2 = 1 → sorted[ns.length / 2]? = some (median ns)) ∧
     (ns.length % 2 = 0 → ∃ a b, sorted[ns.length / 2 - 1]? = some a ∧ sorted[ns.length / 2]? = some b ∧
       median ns = (a + b) / 2)) ∧
  (∀ t : PeerTable, t.freshSuns = t.slots.filterMap (fun slot => match slot with
     | some p => if p.age = 0 ∨ p.age = 1 then p.sun else none
     | none => none))

/-- The wanted target is the first row of R148 that applies; the glare state follows G with its dead band (R147). The run a
drive needs toward a target: its kind, direction, end position and length, with the watchdog's length in tenths of a second
(R151, R152); the position estimated of a run stopped early, from the whole tenths run (R151, log entry 33). The drives take the
applied target in drive order, each by its state: a waiting one by its need, a SETTLING group as a whole, a RUNNING one by its
end position (R154). -/
def Obligations.TargetsAndRunsArePlanned : Prop :=
  (∀ (b : Blind) (park glare : Nat) (held : Bool),
     (∀ t, b.override = some t → b.wantedNow park = t) ∧
     (b.override = none →
       (b.regime = .inSession → b.mode = some .screen → b.wantedNow park = 100) ∧
       (¬(b.regime = .inSession ∧ b.mode = some .screen) →
         (b.glaring = true → b.regime ≠ .standby ∨ b.vacant = false → b.wantedNow park = 80) ∧
         (b.regime = .standby → b.vacant = true → b.wantedNow park = park) ∧
         (b.glaring = false → ¬(b.regime = .standby ∧ b.vacant = true) → b.wantedNow park = 0))) ∧
     (60 ≤ glare → glaringAt glare held = true) ∧ (glare ≤ 40 → glaringAt glare held = false) ∧
     (40 < glare → glare < 60 → glaringAt glare held = held)) ∧
  (∀ (d : Drive) (target : Nat), target ≤ 100 →
     (d.position = none →
       d.plan target = some { kind := .reference, up := true, goal := 0, origin := none, length := (d.travel * 125 + 9) / 10 }) ∧
     (∀ p, d.position = some p →
       (p ≤ target + 3 → target ≤ p + 3 → d.plan target = none) ∧
       (target + 3 < p ∨ p + 3 < target → target = 0 ∨ target = 100 →
         d.plan target = some { kind := .endRun, up := decide (target < p), goal := target, origin := some p
                                length := (d.travel * 125 + 9) / 10 }) ∧
       (target + 3 < p ∨ p + 3 < target → target ≠ 0 → target ≠ 100 →
         d.plan target = some { kind := .intermediate, up := decide (target < p), goal := target, origin := some p
                                length := (((p - target) + (target - p)) * d.travel * 10 + 99) / 100 })) ∧
     d.needsRun target = (d.plan target).isSome) ∧
  (∀ (d : Drive) (r : Run) (now p tenths change : Nat), d.run = some r →
     (r.kind = .reference → d.estimate now = none) ∧
     (r.kind ≠ .reference → r.origin = some p → tenths = (now - d.since) / 100 →
       2 * change * (d.travel * 10) ≤ 2 * (tenths * 100) + d.travel * 10 →
       2 * (tenths * 100) + d.travel * 10 < 2 * (change + 1) * (d.travel * 10) →
       d.estimate now = some (if r.up then p - change else min 100 (p + change)))) ∧
  (∀ s : State, takeTargets s = settleStage stageRounds true
     (withBlind Blind.pruneBackoffs (forEach (List.range' 1 s.blind.drives.length) takeTarget s))) ∧
  (∀ (s t : State) (number : Nat) (d : Drive), pick? s.blind.drives number = some d → t = takeTarget number s →
     (d.inService = false → t = s) ∧
     (d.inService = true →
       (d.state = .stopped ∨ d.state = .waitStage → t = s.setBlind { s.blind with
         drives := put s.blind.drives number
           { d with state := if d.needsRun s.blind.applied then .waitStage else .stopped } }) ∧
       (d.state = .waitFeeder →
         (d.needsRun s.blind.applied = true → t = s) ∧
         (d.needsRun s.blind.applied = false → t = s.setBlind { s.blind with
           drives := put s.blind.drives number { d with state := .stopped, run := none, due := none, group := none } })) ∧
       (∀ r, d.state = .running → d.run = some r →
         (r.kind = .reference ∨ r.goal = s.blind.applied → t = s) ∧
         (r.kind ≠ .reference → r.goal ≠ s.blind.applied → ∀ e, e = { d with
             position := d.estimate s.now, run := none, due := none, group := none } →
           BlindFrame s t ∧ AlertsKept [] s t ∧ t.blind = { s.blind with
             drives := put s.blind.drives number
               { e with state := if e.needsRun s.blind.applied then .waitStage else .stopped } } ∧
           t.bus = (if s.loader.settings.facade = 0 then s.bus
             else (offer (Frame.plain .feederEnd broadcast [byte s.loader.settings.facade, 1]) s).bus) ∧
           t.light.hold = (if s.blind.runningCount = 1 ∧ s.light.hold = .held then .releasing (s.now + 10000)
             else s.light.hold))) ∧
       (∀ (group : Nat) (b : Blind) (changed : Drive → Prop), d.state = .settling → d.group = some group →
         (changed = fun e => e.group = some group ∧ e.state = .settling ∧ ¬∃ r r', e.run = some r ∧
           e.plan s.blind.applied = some r' ∧ r.kind = r'.kind ∧ r.up = r'.up ∧ r.goal = r'.goal) →
         (b = { s.blind with
           hand := .nothing
           drives := s.blind.drives.map (fun e => if e.group = some group ∧ e.state = .settling then { e with
               state := if e.inService && e.needsRun s.blind.applied then .waitStage else .stopped
               run := none, due := none, group := none } else e) }) →
         ((∀ e ∈ s.blind.drives, ¬changed e) → t = s) ∧
         ((∃ e ∈ s.blind.drives, changed e) →
           (∀ drives tag, s.blind.hand = .awaiting group drives tag →
             t = s.setBlind { b with orphans := s.blind.orphans ++ [{ tag := tag, drives := drives }] }) ∧
           (∀ drives held lower opened due, s.blind.hand = .window group drives held lower opened due →
             t = (offer (Frame.plain .feederEnd broadcast [byte s.loader.settings.facade, byte drives]) s).setBlind b)))))

/-- A policy event works out the wanted target and compares it (R148, R149): nothing is applied while the line is asserted; an
equal target drops the latch; a glare event in IN_SESSION under a running dwell is latched; any other difference is applied, the
dwell restarting and the drives taking the target. The dwell ends: a latched change whose wanted target still differs is
applied, restarting the dwell, while the line is released; otherwise the latch is dropped (R149). The expiry carries the time
base to its due time (log entry 4). -/
def Obligations.DwellEnds : Prop :=
  (∀ (s t : State) (glare : Bool) (w : Nat), w = s.blind.wantedNow s.loader.settings.park → t = policyEvent glare s →
    (s.blind.emergency = true → t = s.setBlind { s.blind with wanted := w }) ∧
    (s.blind.emergency = false →
      (w = s.blind.applied → t = s.setBlind { s.blind with wanted := w, latched := false }) ∧
      (w ≠ s.blind.applied → glare = true → s.blind.regime = .inSession → s.blind.dwellTimer ≠ none →
        t = s.setBlind { s.blind with wanted := w, latched := true }) ∧
      (w ≠ s.blind.applied → glare = false ∨ s.blind.regime ≠ .inSession ∨ s.blind.dwellTimer = none →
        t = takeTargets (s.setBlind { s.blind with
          wanted := w, applied := w, latched := false, dwellTimer := some (s.now + 600000) }) ∧
        BlindFrame s t ∧ AlertsKept [] s t ∧ t.blind.applied = w ∧ t.blind.wanted = w ∧ t.blind.latched = false ∧
        t.blind.dwellTimer = some (s.now + 600000)))) ∧
  ∀ (s : State) (due n : Nat), s.started = true → s.blind.dwellTimer = some due → n = max s.now due →
    (s.blind.latched = false ∨ s.blind.emergency = true ∨ s.blind.wanted = s.blind.applied →
      exec .dwellTimerExpiry s = .next ((s.setNow n).setBlind { s.blind with dwellTimer := none, latched := false })) ∧
    (s.blind.latched = true → s.blind.emergency = false → s.blind.wanted ≠ s.blind.applied →
      ∃ t, exec .dwellTimerExpiry s = .next t ∧ BlindFrame (s.setNow n) t ∧ AlertsKept [] s t ∧
        t.blind.applied = s.blind.wanted ∧ t.blind.wanted = s.blind.wanted ∧ t.blind.latched = false ∧
        t.blind.dwellTimer = some (n + 600000))

/-- The settle window closes on the whole of the station: with the total at most K every SETTLING drive of its group, whose
limit is not already ACTIVE, runs; with the total above K the group backs off and its FEEDER END is offered (R158, R160). No
other drive waits here. A START heard in the open window adds its drive count when it arrived at or after the opening from a
lower address, recorded or not (R95, R158); here it neither makes a sun part fresh nor takes the place of another entry, which
could change the target. H sums every feeder part held (R102). An expiry carries the time base to its due time (log entry 4). -/
def Obligations.SettleWindowsDecide : Prop :=
  (∀ (s : State) (group drives held lower opened due n total : Nat) (address : Byte), s.started = true →
     s.loader.address = some address →
     s.blind.hand = .window group drives held lower opened due → n = max s.now due →
     total = held + lower + s.blind.runningCount + drives →
     (∀ d ∈ s.blind.drives, d.state ≠ .waitStage ∧ d.state ≠ .waitFeeder ∧
       (d.state = .settling → d.group = some group ∧ d.run.isSome = true ∧ d.atLimit = false)) →
     (total ≤ s.loader.settings.feederLimit →
       ∃ t, exec .settleWindowExpiry s = .next t ∧ BlindFrame (s.setNow n) t ∧ t.bus = s.bus ∧ AlertsKept [] s t ∧
         t.blind = { s.blind with
           hand := .nothing
           drives := s.blind.drives.map (fun d => if d.state = .settling then { d with
             state := .running, since := n, due := d.run.map (fun r => n + r.length * 100) } else d) }) ∧
     (s.loader.settings.feederLimit < total →
       exec .settleWindowExpiry s = .next ((offer (Frame.plain .feederEnd broadcast
           [byte s.loader.settings.facade, byte drives]) (s.setNow n)).setBlind { s.blind with
         hand := .nothing
         drives := s.blind.drives.map (fun d => if d.state = .settling then { d with state := .waitFeeder } else d)
         backoffs := s.blind.backoffs ++ [{ group := group, due := n + (address.toNat % 8 + 1) * 2000 }] }))) ∧
  (∀ (s : State) (source dest facade count duration address : Byte) (arrival group own held lower opened due : Nat),
     s.accepts source dest true = true → s.loader.address = some address → s.loader.settings.facade ≠ 0 →
     facade.toNat = s.loader.settings.facade → 1 ≤ count.toNat → count.toNat ≤ 4 → 1 ≤ duration.toNat →
     duration.toNat ≤ 150 → s.blind.hand = .window group own held lower opened due →
     (∀ p, s.peers.find source = some p → p.age ≤ 1) →
     (s.peers.find source ≠ none ∨ s.peers.freeSlot ≠ none ∨ ∀ p, some p ∈ s.peers.slots → p.age = 0) →
     ∃ t, exec (.feederStart source dest facade count duration arrival) s = .next t ∧ RoomFrame (s.setPeers t.peers) t ∧
       t.blind.hand = .window group own held
         (if opened ≤ arrival ∧ source.toNat < address.toNat then lower + count.toNat else lower) opened due) ∧
  (∀ t : PeerTable, t.feederSum = (t.slots.map (fun slot => match slot with
     | some p => (match p.feeder with | some f => f.drives | none => 0)
     | none => 0)).sum)

/-- A start group's backoff ends and it re-checks, its runs planned anew: with a start in hand, or with more than K motors on
the feeder, it waits; with room, its FEEDER START, of the longest planned duration, is offered and it settles; discarded at
once, it backs off again (R156, R157, R159). The stage's two slots are granted to the waiting drives of lowest number, the run
planned at the grant: without a façade they run at once; with one, drives granted together form one group where K is 2 or more,
one each where K is 1, and go to the feeder check; none is granted while the line is asserted (R155, R156, R161). The expiry
carries the time base to its due time (log entry 4). -/
def Obligations.BackoffsRecheckTheFeeder : Prop :=
  (∀ (s : State) (drive group due n : Nat) (d : Drive) (members : List Nat) (p : Blind), s.started = true →
     pick? s.blind.drives drive = some d → d.group = some group →
     s.blind.backoffs.find? (fun k => k.group == group) = some { group := group, due := due } → n = max s.now due →
     members = s.blind.groupIn group .waitFeeder → members ≠ [] →
     p = { s.blind with
       backoffs := s.blind.backoffs.filter (fun k => k.group != group)
       drives := s.blind.drives.map (fun e => if e.group = some group ∧ e.state = .waitFeeder then
         { e with run := e.plan s.blind.applied } else e) } →
     (s.blind.hand ≠ .nothing ∨
         s.loader.settings.feederLimit < s.peers.feederSum + s.blind.runningCount + members.length →
       exec (.feederBackoffExpiry drive) s = .next ((s.setNow n).setBlind p)) ∧
     (s.blind.hand = .nothing → s.isNormal = true → s.loader.address.isSome = true → s.bus.queue.length < 10 →
       s.peers.feederSum + s.blind.runningCount + members.length ≤ s.loader.settings.feederLimit →
       exec (.feederBackoffExpiry drive) s = .next ((offer
           { kind := .feederStart, dest := 255, tag := s.blind.nextTag
             body := [byte s.loader.settings.facade, byte members.length, byte (p.longest members)] }
           (s.setNow n)).setBlind { p with
         nextTag := s.blind.nextTag + 1
         hand := .awaiting group members.length s.blind.nextTag
         drives := p.drives.map (fun e => if e.group = some group ∧ e.state = .waitFeeder then
           { e with state := .settling } else e) })) ∧
     (∀ address, s.blind.hand = .nothing → s.isNormal = true → s.loader.address = some address → 10 ≤ s.bus.queue.length →
       (∀ g ∈ s.bus.queue, g.kind = .feederStart ∨ g.kind = .feederEnd) →
       (∀ e ∈ s.blind.drives, e.state ≠ .waitStage ∧ (e.state = .waitFeeder → e.group = some group)) →
       s.peers.feederSum + s.blind.runningCount + members.length ≤ s.loader.settings.feederLimit →
       exec (.feederBackoffExpiry drive) s = .next ((offer
           { kind := .feederStart, dest := 255, tag := s.blind.nextTag
             body := [byte s.loader.settings.facade, byte members.length, byte (p.longest members)] }
           (s.setNow n)).setBlind { p with
         nextTag := s.blind.nextTag + 1
         drives := p.drives.map (fun e => if e.group = some group ∧ e.state = .settling then
           { e with state := .waitFeeder } else e)
         backoffs := p.backoffs ++ [{ group := group, due := n + (address.toNat % 8 + 1) * 2000 }] }))) ∧
  (∀ (b : Blind) (numbers : List Nat),
     (∀ k ∈ numbers, ∀ d r, pick? b.drives k = some d → d.run = some r → (r.length + 9) / 10 ≤ b.longest numbers) ∧
     (b.longest numbers = 0 ∨ ∃ k ∈ numbers, ∃ d r, pick? b.drives k = some d ∧ d.run = some r ∧
       (r.length + 9) / 10 = b.longest numbers)) ∧
  (∀ (s t : State) (recheck : Bool) (granted : List Nat) (planned : Drive → Drive), t = settleStage stageRounds recheck s →
     granted = ((List.range' 1 s.blind.drives.length).filter
       (fun k => (pick? s.blind.drives k).any (fun d => d.state == .waitStage))).take (2 - s.blind.drives.countP Drive.holdsSlot) →
     (planned = fun d => { d with
       state := .waitFeeder, run := d.plan s.blind.applied, group := some s.blind.nextGroup }) →
     (s.blind.emergency = true → t = s) ∧
     (s.blind.emergency = false → granted ≠ [] → (∀ d ∈ s.blind.drives, d.state ≠ .waitFeeder ∧
         (d.state = .waitStage → (planned d).run.isSome = true ∧ (planned d).atLimit = false)) →
       (s.loader.settings.facade = 0 → BlindFrame s t ∧ t.bus = s.bus ∧ AlertsKept [] s t ∧
         t.light.hold = (if s.blind.runningCount = 0 then .held else s.light.hold) ∧
         t.blind = { s.blind with
           nextGroup := s.blind.nextGroup + 1
           drives := s.blind.drives.mapIdx (fun k d => if k + 1 ∈ granted then { planned d with
             state := .running, since := s.now, due := (planned d).run.map (fun r => s.now + r.length * 100) } else d) }) ∧
       (s.loader.settings.facade ≠ 0 →
         (2 ≤ s.loader.settings.feederLimit → ∀ p : Blind, p = { s.blind with
             nextGroup := s.blind.nextGroup + 1
             drives := s.blind.drives.mapIdx (fun k d => if k + 1 ∈ granted then planned d else d) } →
           (s.blind.hand ≠ .nothing ∨
               s.loader.settings.feederLimit < s.peers.feederSum + s.blind.runningCount + granted.length →
             t = s.setBlind p) ∧
           (s.blind.hand = .nothing → s.isNormal = true → s.loader.address.isSome = true → s.bus.queue.length < 10 →
             s.peers.feederSum + s.blind.runningCount + granted.length ≤ s.loader.settings.feederLimit →
             t = (offer { kind := .feederStart, dest := 255, tag := s.blind.nextTag
                          body := [byte s.loader.settings.facade, byte granted.length, byte (p.longest granted)] }
               s).setBlind { p with
                 nextTag := s.blind.nextTag + 1
                 hand := .awaiting s.blind.nextGroup granted.length s.blind.nextTag
                 drives := s.blind.drives.mapIdx (fun k d =>
                   if k + 1 ∈ granted then { planned d with state := .settling } else d) })) ∧
         (s.loader.settings.feederLimit = 1 → s.blind.hand ≠ .nothing →
           t = s.setBlind { s.blind with
             nextGroup := s.blind.nextGroup + granted.length
             drives := s.blind.drives.mapIdx (fun k d => if k + 1 ∈ granted then { planned d with
               group := some (s.blind.nextGroup + granted.idxOf (k + 1)) } else d) }))))

/-- A limit input's level shows on its field line and in the drive's record, in every state; where no RUNNING drive meets the
limit of its direction, nothing else changes (R150, R152). -/
def Obligations.LimitsAreRecorded : Prop :=
  ∀ (s : State) (number : Nat) (limit : Limit) (active : Bool) (levels : LimitLevels) (d : Drive), s.started = true →
    pick? s.lines.limits number = some levels → pick? s.blind.drives number = some d →
    (active = false ∨ d.limits.get limit = true ∨ d.state ≠ .running ∨
      ∀ r, d.run = some r → limit ≠ (if r.up then .openEnd else .closedEnd)) →
    exec (.limitInput number limit active) s = .next ((s.setLines { s.lines with
        limits := put s.lines.limits number (levels.set limit active) }).setBlind { s.blind with
      drives := put s.blind.drives number { d with limits := d.limits.set limit active } })

/-- A RUNNING drive stops: exactly at the limit of its direction, with stall streak 0; at the end position of an INTERMEDIATE
run; or by its watchdog, UNKNOWN, as a stall, the third of which takes it out of service and raises DRIVE_OUT. Its run, group
and slot are released, a FEEDER END is offered on a façade, and the harvest hold is released when the last drive stops (R133,
R151 to R153, R160); here no other drive waits, and the drive needs no further run. After a first or second stall the drive
stays in service and waits or runs again, unless its open limit is ACTIVE. An expiry carries the time base to its due time (log
entry 4). -/
def Obligations.RunsEnd : Prop :=
  (∀ (s : State) (number : Nat) (d stopped : Drive) (r : Run) (after : State → Drive → State → Prop), s.started = true →
     pick? s.blind.drives number = some d → d.state = .running → d.run = some r →
     (∀ e ∈ s.blind.drives, e.state ≠ .waitStage ∧ e.state ≠ .waitFeeder) →
     stopped = { d with state := .stopped, run := none, due := none, group := none } →
     (after = fun u e t => BlindFrame u t ∧ t.blind = { s.blind with drives := put s.blind.drives number e } ∧
       t.bus = (if s.loader.settings.facade = 0 then s.bus
         else (offer (Frame.plain .feederEnd broadcast [byte s.loader.settings.facade, 1]) s).bus) ∧
       t.light.hold = (if s.blind.runningCount = 1 ∧ s.light.hold = .held then .releasing (u.now + 10000)
         else s.light.hold)) →
     (∀ (limit : Limit) (levels : LimitLevels) (position : Nat), pick? s.lines.limits number = some levels →
       (limit = if r.up then .openEnd else .closedEnd) → d.limits.get limit = false →
       (position = if r.up then 0 else 100) → position ≤ s.blind.applied + 3 → s.blind.applied ≤ position + 3 →
       ∃ t, exec (.limitInput number limit true) s = .next t ∧ AlertsKept [] s t ∧
         after (s.setLines { s.lines with limits := put s.lines.limits number (levels.set limit true) })
           { stopped with limits := d.limits.set limit true, position := some position, streak := 0 } t) ∧
     (∀ due, r.kind = .intermediate → d.due = some due → r.goal = s.blind.applied →
       ∃ t, exec (.runTimerExpiry number) s = .next t ∧ AlertsKept [] s t ∧
         after (s.setNow (max s.now due)) { stopped with position := some r.goal } t) ∧
     (∀ due, r.kind ≠ .intermediate → d.due = some due → 2 ≤ d.streak →
       ∃ t, exec (.runWatchdogExpiry number) s = .next t ∧ AlertsKept [.driveOut] s t ∧ t.isRaised .driveOut = true ∧
         after (s.setNow (max s.now due)) { stopped with position := none, streak := 3, inService := false } t)) ∧
  (∀ (s : State) (number due : Nat) (d : Drive) (r : Run), s.started = true → pick? s.blind.drives number = some d →
     d.state = .running → d.run = some r → r.kind ≠ .intermediate → d.due = some due → d.streak < 2 →
     d.inService = true → d.limits.openEnd = false →
     ∃ t e, exec (.runWatchdogExpiry number) s = .next t ∧ BlindFrame (s.setNow (max s.now due)) t ∧ AlertsKept [] s t ∧
       pick? t.blind.drives number = some e ∧ e.streak = d.streak + 1 ∧ e.inService = true ∧ e.position = none ∧
       e.state ≠ .stopped)

/-- At most two drives hold a slot of the stage, an out-of-service drive is STOPPED, a RUNNING drive has a run and a due time,
after every step (R155: an out-of-service drive is never RUNNING). -/
def Obligations.EveryStepKeepsTheDriveLaw : Prop :=
  ∀ s t : State, DriveLaw s.blind → step s = .next t → DriveLaw t.blind

/-! ### The Override Unit -/

/-- A key that acts, while override is ON or entering it under the conditions of R168: LIGHT± within the band, BLIND UP and
DOWN with the ends absorbed, AIR+ outside shortfall (R168 to R171). -/
def Obligations.KeysMoveTheOverride : Prop :=
  ∀ (s : State) (p : Panel), s.started = true →
    ((s.panel.on = true ∧ p = s.panel) ∨
      (s.panel.on = false ∧ (s.panel.regime = .inSession ∨ s.panel.vacant = false) ∧ s.panel.emergency = false ∧
        s.isNormal = true ∧ p = { s.panel with on := true, blinkTimer := none })) →
    (∀ (i : Instr) (offset : Int), (i = .lightPlus ∧ offset = s.panel.offset + 100) ∨
        (i = .lightMinus ∧ offset = s.panel.offset - 100) → -300 ≤ offset → offset ≤ 300 →
      exec i s = .next ((s.setPanel { p with offset := offset }).setLight { s.light with offset := offset })) ∧
    (∀ (i : Instr) (start target : Nat), start = s.panel.target.getD s.blind.applied → start ≤ 100 →
      (i = .blindUp ∧ target = start - 25) ∨ (i = .blindDown ∧ target = min 100 (start + 25)) →
      (s.panel.target = some target → exec i s = .next (s.setPanel p)) ∧
      (s.panel.target ≠ some target →
        ∃ t, exec i s = .next t ∧ BlindFrame (s.setPanel { p with target := some target }) t ∧ AlertsKept [] s t ∧
          t.blind.override = some target ∧ t.blind.wanted = target ∧ (s.blind.emergency = false → t.blind.applied = target))) ∧
    (s.panel.boost = false → s.air.shortfall = false →
      ∃ t, exec .airPlus s = .next t ∧ AirFrame (s.setPanel { p with boost := true }) t ∧ t.air.boost = true ∧
        (s.isNormal = true → t.figuresCurrent))

/-- A trap and RESUME end override: OFF, the adjustments returned, the cause record written with its value and the minute of the
Week Clock, and the blocks told of what changed; a key that enters override may trap at once, as AIR+ does in shortfall (R168,
R169, R171 to R173). An end other than a trap acts while override is ON; while OFF it leaves record and values as they are, but
for a trap of the same moment, whose record it replaces. What counts as the same moment is the model's choice (log entry 37). A
boundary event is such an end, and so is a regime notice that leaves IN_SESSION while the room is vacant. -/
def Obligations.TrapsAndResumeEndTheOverride : Prop :=
  (∀ (s : State) (i : Instr) (p : Panel) (cause : OverrideCause) (value : Int), s.started = true →
    ((s.panel.on = true ∧ p = s.panel) ∨
      (s.panel.on = false ∧ i ≠ .resumeKey ∧ (s.panel.regime = .inSession ∨ s.panel.vacant = false) ∧
        s.panel.emergency = false ∧ s.isNormal = true ∧ p = { s.panel with on := true, blinkTimer := none })) →
    ((i = .lightPlus ∧ cause = .bandLight ∧ value = s.panel.offset + 100 ∧ 300 < value) ∨
      (i = .lightMinus ∧ cause = .bandLight ∧ value = s.panel.offset - 100 ∧ value < -300) ∨
      (i = .airPlus ∧ s.panel.boost = true ∧ cause = .bandAir ∧ value = s.boostedDemand) ∨
      (i = .airPlus ∧ s.panel.boost = false ∧ s.air.shortfall = true ∧ cause = .sharedAir ∧ value = s.boostedDemand) ∨
      (i = .resumeKey ∧ cause = .panelResume ∧ value = 0)) →
    (-300 ≤ s.panel.offset ∧ s.panel.offset ≤ 300) →
    ∃ t, exec i s = .next t ∧ RoomFrame (s.setPanel t.panel) t ∧ t.panel = { p with
        on := false, offset := 0, boost := false, target := none
        record := some { cause := cause, value := value, minute := s.clock.minute }
        trapAt := if i = .resumeKey then none else some s.now } ∧
      (RoomLaw s → t.light = { s.light with offset := 0, hold := t.light.hold } ∧ t.air.boost = false ∧
        t.blind.override = none) ∧
      (s.panel.boost = false → t.air = s.air) ∧ (s.panel.target = none → t.blind = s.blind)) ∧
  (∀ (s : State) (cause : OverrideCause) (record : CauseRecord), cause ∉ [.bandLight, .bandAir, .sharedAir] →
     record = { cause := cause, value := 0, minute := s.clock.minute } →
     (s.panel.on = true → RoomFrame (s.setPanel (endIfOn cause s).panel) (endIfOn cause s) ∧
       (endIfOn cause s).panel = { s.panel with
         on := false, offset := 0, boost := false, target := none, record := some record, trapAt := none }) ∧
     (s.panel.on = false → s.panel.trapAt ≠ some s.now → endIfOn cause s = s) ∧
     (s.panel.on = false → s.panel.trapAt = some s.now →
       endIfOn cause s = s.setPanel { s.panel with record := some record, trapAt := none })) ∧
  (∀ s : State, panelBoundary s = endIfOn .boundary s ∧ ∀ n : RegimeNotice,
     (s.panel.regime = .inSession ∧ n.regime ≠ .inSession ∧ s.panel.vacant = true →
       panelRegime n s = endIfOn .boundary (s.setPanel { s.panel with regime := n.regime, mode := n.mode })) ∧
     (s.panel.regime ≠ .inSession ∨ n.regime = .inSession ∨ s.panel.vacant = false →
       panelRegime n s = s.setPanel { s.panel with regime := n.regime, mode := n.mode }))

/-- A key while override is OFF: RESUME is ignored without a blink; any other key, where a condition of entry fails, is ignored
and starts the blink timer from 2 s, whose expiry stops it (R166, R168) and carries the time base to its due time (log entry
4). -/
def Obligations.KeysAreIgnoredOutsideTheConditions : Prop :=
  ∀ s : State, s.started = true →
    (s.panel.on = false → exec .resumeKey s = .next s) ∧
    (∀ (i : Instr) (key : Key), keyOf i = some key → key ≠ .resume → s.panel.on = false →
      (s.panel.regime ≠ .inSession ∧ s.panel.vacant = true) ∨ s.panel.emergency = true ∨ s.isNormal = false →
      exec i s = .next (s.setPanel { s.panel with blinkTimer := some (s.now + 2000) })) ∧
    (∀ due, s.panel.blinkTimer = some due →
      exec .blinkTimerExpiry s = .next ((s.setNow (max s.now due)).setPanel { s.panel with blinkTimer := none }))

/-! ### The emergency line -/

/-- The raw level of the emergency line: each change restarts the 50 ms debounce from power-on; at its expiry an equal level
sends nothing, and before the blocks start the Alert Unit alone takes the event (R2, R175). In a station that is READING the
six luminaire outputs stand at 1000 while the emergency state is asserted and at 0 while it is released, the damper at 0 and
the motors off (R2, R175). The expiry carries the time base to its due time (log entry 4). -/
def Obligations.EmergencyLineIsDebounced : Prop :=
  ∀ (s : State) (asserted : Bool) (due n : Nat), n = max s.now due →
    (asserted ≠ s.lines.emergency → s.powered = true →
      exec (.emergencyLineChange asserted) s = .next ((s.setLines { s.lines with emergency := asserted }).setAlert
        { s.alert with debounce := some (s.now + 50) })) ∧
    (asserted = s.lines.emergency ∨ s.powered = false →
      exec (.emergencyLineChange asserted) s = .next (s.setLines { s.lines with emergency := asserted })) ∧
    (s.powered = true → s.alert.debounce = some due →
      (s.lines.emergency = s.alert.emergency →
        exec .debounceTimerExpiry s = .next ((s.setNow n).setAlert { s.alert with debounce := none })) ∧
      (s.lines.emergency ≠ s.alert.emergency → s.started = false →
        ∃ t, exec .debounceTimerExpiry s = .next t ∧ t = (s.setNow n).setAlert t.alert ∧ t.alert.debounce = none ∧
          t.alert.emergency = s.lines.emergency ∧ t.alert.mask = s.alert.mask ∧
          t.isRaised .emergency = s.lines.emergency ∧ AlertsKept [.emergency] s t)) ∧
    (s.loader.phase = .reading →
      (∀ position, 1 ≤ position → position ≤ 6 → s.groupOutput position = if s.alert.emergency then 1000 else 0) ∧
      s.damperOutput = 0 ∧ ∀ number, s.motorOutput number = .off)

/-- An assertion reaches every block, in whatever order: g and the damper command 0, every output 1000, fades and warning
stopped, every drive STOPPED with no start in hand, override OFF, EMERGENCY raised (R123, R138, R161, R173, R175, R176). A
station on a trunk and in NORMAL withdraws its CLAIM: at once where the rate window is closed and no boost is ended, pending
while it is open; the withdrawal takes the place of a CLAIM that waits, and the claim record stays (R123). The expiry carries
the time base to its due time (log entry 4). -/
def Obligations.AssertionsBindTheRoom : Prop :=
  ∀ (s : State) (due n : Nat), s.started = true → s.alert.debounce = some due → n = max s.now due →
    s.lines.emergency = true → s.alert.emergency = false →
    ∃ t, exec .debounceTimerExpiry s = .next t ∧
      EmergencyFrame ((s.setNow n).setAlert { s.alert with debounce := none, emergency := true }) t ∧
      t.isRaised .emergency = true ∧ AlertsKept [.emergency, .damperFault, .shortfall] s t ∧
      t.air.emergency = true ∧ t.air.grant = 0 ∧ t.air.command = 0 ∧ t.air.refreshTimer = none ∧
      t.light.emergency = true ∧ t.light.warning = none ∧ (∀ g ∈ t.light.groups, g.fade = none) ∧
      (t.light.groups.map (·.level) = s.light.groups.map (·.level)) ∧
      (∀ position g, pick? t.light.groups position = some g → t.groupOutput position = 1000) ∧ t.damperOutput = 0 ∧
      t.blind.emergency = true ∧ t.blind.hand = .nothing ∧ t.blind.backoffs = [] ∧
      (∀ d ∈ t.blind.drives, d.state = .stopped ∧ d.run = none) ∧ (∀ number, t.motorOutput number = .off) ∧
      t.panel.emergency = true ∧ t.panel.on = false ∧
      (s.loader.settings.trunk ≠ 0 → s.isNormal = true →
        (∀ window, s.air.rateWindow = some window → t.air.pendingTrigger = true ∧ t.air.rateWindow = some window) ∧
        (s.air.rateWindow = none → s.panel.boost = false →
          t.air.rateWindow = some (n + 2000) ∧ t.air.record = s.air.record ∧
          (BusLaw s.bus → s.bus.line = .busy → s.loader.address ≠ none →
            s.bus.queue.length + 2 * s.blind.drives.length + 1 ≤ 9 →
            (∃ f ∈ t.bus.queue, f.kind = .claim) ∧ ∀ f ∈ t.bus.queue, f.kind = .claim → s.withdraws f)))

/-- A release reaches every block, in whatever order: the grant is recomputed from the view, or the damper stands at 500 in
FALLBACK; each group that is not hand-select takes 1000 and fades to the scene's level; the wanted target is applied with a
new dwell; override stays as it is (R124, R125, R138, R162, R173, R175). A station on a trunk and in NORMAL offers its CLAIM
with the current figures: at once where the rate window is closed, in the place of a withdrawal that waits, and pending while it
is open (R112, R114, R124). The expiry carries the time base to its due time (log entry 4). -/
def Obligations.ReleasesFreeTheRoom : Prop :=
  ∀ (s : State) (due n : Nat) (scene : Scene), s.started = true → s.alert.debounce = some due → n = max s.now due →
    s.lines.emergency = false → s.alert.emergency = true → scene = sceneOf s.light.regime s.light.mode s.light.vacant →
    ∃ t, exec .debounceTimerExpiry s = .next t ∧
      EmergencyFrame ((s.setNow n).setAlert { s.alert with debounce := none, emergency := false }) t ∧
      t.isRaised .emergency = false ∧ AlertsKept [.emergency, .damperFault, .shortfall] s t ∧
      t.air.emergency = false ∧
      (s.isNormal = true → t.air.grant = t.grantNow ∧ t.air.command = commandFor t.loader.settings t.air.grant) ∧
      (s.isNormal = false → t.air.command = 500) ∧
      t.light.emergency = false ∧ t.light.scene = scene ∧ t.light.warning = s.light.warning ∧
      t.light.groups = s.light.groups.map (fun g => if g.handSelect then g else { g with
        level := 1000, target := scene.innerLevel, fade := some (n + 5) }) ∧
      t.blind.emergency = false ∧ t.blind.wanted = s.blind.wantedNow s.loader.settings.park ∧
      t.blind.applied = t.blind.wanted ∧ t.blind.latched = false ∧ t.blind.dwellTimer = some (n + 600000) ∧
      t.panel = { s.panel with emergency := false } ∧
      (s.isNormal = true → t.air.shortfall = t.air.shortNow) ∧ t.air.figures = s.air.figures ∧
      (s.loader.settings.trunk ≠ 0 → s.isNormal = true →
        (∀ window, s.air.rateWindow = some window → t.air.pendingTrigger = true ∧ t.air.rateWindow = some window ∧
          t.air.record = s.air.record ∧ t.air.refreshTimer = s.air.refreshTimer) ∧
        (s.air.rateWindow = none → t.air.pendingTrigger = s.air.pendingTrigger ∧ t.air.rateWindow = some (n + 2000) ∧
          t.air.record = some s.air.figures ∧ t.air.refreshTimer = some (n + 30000) ∧
          (BusLaw s.bus → s.bus.line = .busy → s.loader.address ≠ none →
            s.bus.queue.length + 2 * s.blind.drives.length + 1 ≤ 9 →
            (∃ f ∈ t.bus.queue, f.kind = .claim) ∧
              ∀ f ∈ t.bus.queue, f.kind = .claim → f.body = (s.claimFrame s.air.figures false).body)))

/-- While the emergency line is asserted, the room is bound by the law of R176, after every step and in every order of the
blocks, and no step offers a CLAIM but a withdrawal (R123, R176). The only fade that runs then is one the photosensor pin has
started, which no output shows (R131, R138). That it runs on to its end, and that g is 0 from a start with the line asserted,
are read by inference (log entries 17 and 35). -/
def Obligations.EveryStepKeepsTheEmergencyLaw : Prop :=
  ∀ s t : State, EmergencyLaw s → step s = .next t →
    EmergencyLaw t ∧
      (s.alert.emergency = true → t.alert.emergency = true →
        ∀ f, f.kind = .claim → t.bus.carries f → s.bus.carries f ∨ t.withdraws f)

/-! ### Service -/

/-- A STATUS REQUEST is answered with one STATUS REPLY to its source (R179), of 22 bytes and those of the groups and drives
fitted, 40 at most, laid out as R185 says, with the values the owners hold: flags, regime and mode, active session, queue depth
and N, counts, D, M, g and the damper command, G, the override byte, the cause record, the alerts with the top one (R178), the
group outputs, and the drives' positions and states. -/
def Obligations.StatusRequestsAreAnswered : Prop :=
  (∀ (s : State) (source dest : Byte), s.accepts source dest true = true →
     exec (.statusRequest source dest) s = .next (offer (Frame.plain .statusReply source s.statusBody) s)) ∧
  (∀ (s : State) (b : List Byte) (groups drives : Nat), b = s.statusBody → groups = s.light.groups.length →
     drives = s.blind.drives.length →
     b.length = 22 + 2 * groups + drives + (drives + 1) / 2 ∧ (groups ≤ 6 → drives ≤ 4 → b.length ≤ 40) ∧
     byteOf b 0 = 128 * flag (s.loader.phase == .fallback) + 64 * flag s.clock.running + 16 * regimeCode s.session.regime +
       4 * (s.session.mode.map modeCode).getD 0 + 2 * flag s.counter.vacant + flag s.blind.glaring ∧
     (∀ e ∈ s.session.entries, e.state = .active → e.id < 65536 → (∀ x ∈ s.session.entries, x.state = .active → x = e) →
       wordAtOf b 1 = e.id) ∧
     ((∀ e ∈ s.session.entries, e.state ≠ .active) → wordAtOf b 1 = 0) ∧
     (s.intake.queue.length ≤ 8 → s.counter.count ≤ 400 → wordAtOf b 3 = 4096 * s.intake.queue.length + s.counter.count) ∧
     (groups ≤ 6 → s.session.entries.length ≤ 24 → byteOf b 5 = 32 * groups + s.session.entries.length) ∧
     (s.air.demand ≤ 4000 → wordAtOf b 6 = s.air.demand) ∧ (s.air.minimum ≤ 4000 → wordAtOf b 8 = s.air.minimum) ∧
     (s.air.grant ≤ 4000 → wordAtOf b 10 = s.air.grant) ∧ (s.air.command ≤ 1000 → wordAtOf b 12 = s.air.command) ∧
     (s.blind.glare ≤ 100 → byteOf b 14 = s.blind.glare) ∧
     (∀ k : Int, s.panel.offset = 100 * k → -3 ≤ k → k ≤ 3 → drives ≤ 4 →
       byteOf b 15 = 128 * flag s.panel.on + 64 * flag s.panel.boost + 8 * drives + (if k < 0 then k + 8 else k).toNat) ∧
     (s.panel.record = none → wordAtOf b 16 = 0 ∧ wordAtOf b 18 = 0) ∧
     (∀ r, s.panel.record = some r → r.minute < 10080 → -4096 ≤ r.value → r.value ≤ 4095 →
       65536 * wordAtOf b 16 + wordAtOf b 18 = 268435456 * overrideCauseCode r.cause + 16384 * r.minute +
         (if r.value < 0 then r.value + 8192 else r.value).toNat) ∧
     (∀ a : Alert, (wordAtOf b 20).testBit (15 - a.index) = s.isRaised a) ∧
     (∀ a : Alert, s.isRaised a = true → s.alert.mask.getLsbD a.index = false →
       (∀ c : Alert, c.index < a.index → s.isRaised c = false ∨ s.alert.mask.getLsbD c.index = true) →
       wordAtOf b 20 % 16 = a.index + 1) ∧
     ((∀ a : Alert, s.isRaised a = false ∨ s.alert.mask.getLsbD a.index = true) → wordAtOf b 20 % 16 = 0) ∧
     (∀ position g, pick? s.light.groups position = some g → s.light.output g ≤ 1000 →
       wordAtOf b (20 + 2 * position) = s.light.output g) ∧
     (∀ number d, pick? s.blind.drives number = some d →
       (∀ p, d.position = some p → p ≤ 100 → byteOf b (21 + 2 * groups + number) = p) ∧
       (d.position = none → byteOf b (21 + 2 * groups + number) = 255) ∧
       byteOf b (22 + 2 * groups + drives + (number - 1) / 2) / (if number % 2 = 1 then 16 else 1) % 16 =
         8 * flag (!d.inService) + driveStateCode d.state)) ∧
  [OverrideCause.bandLight, .bandAir, .sharedAir, .panelResume, .boundary, .vacancy, .emergency, .restart].map
    overrideCauseCode = [1, 2, 3, 4, 5, 6, 7, 8] ∧
  [DriveState.stopped, .waitStage, .waitFeeder, .settling, .running].map driveStateCode = [0, 1, 2, 3, 4] ∧
  [Regime.standby, .prepare, .inSession].map regimeCode = [0, 1, 2] ∧
  [Mode.lecture, .seminar, .exam, .screen].map modeCode = [0, 1, 2, 3]

/-- A SERVICE RESTART, with the line BUSY as it stands when its frame is taken (R9, R10, R27, R42, R71, R86, R90, R126, R140,
R163, R173, R178, R180): what it empties and what it keeps, in whatever order the blocks take it. The frame in transmission is
cut off, which starts the quiet timer (log entry 39), the queue is emptied, and what is offered after waits behind the IDENTITY
and its hold. D, M and g are computed anew, and a CLAIM is offered as a trigger under the rate window: with the figures, or a
withdrawal while the line is asserted (R126). The catch-up is made where it is due and the held clock events then reach the
engine in order; the item of the merge is lost, and the list keeps every entry (R42, R71). The groups keep their levels, but for
a warning that ends (R140); the drives stop, each where the whole tenths it has run leave it (log entry 33), and take the target
anew with a new dwell, and keep still while the line is asserted (R163). An override that is OFF keeps its record, but for a
trap of the same moment (the model's choice, log entry 37). -/
def Obligations.RestartsEmptyAndKeep : Prop :=
  ∀ (s cut : State) (source dest : Byte), s.accepts source dest false = true → s.bus.line = .busy →
    cut = s.setBus { s.bus with
      quietTimer := if s.bus.transmitter.isSending then some (s.now + 2) else s.bus.quietTimer } →
    ∃ t, exec (.serviceRestart source dest) s = .next t ∧ CoreFrame cut t ∧ t.clock = s.clock ∧ t.counter = s.counter ∧
      t.bus.transmitter = .idle ∧ t.bus.attempts = 0 ∧ t.intake = Intake.empty ∧
      t.peers = { slots := List.replicate 32 none, pointer := 0, sweepTimer := some (s.now + 2000) } ∧
      t.isRaised .peerTableFull = false ∧ t.panel.on = false ∧ t.panel.blinkTimer = none ∧
      AlertsKept [.peerTableFull, .damperFault, .shortfall, .sunLost] s t ∧
      (∃ r, RoomFrame ((cut.setIntake { s.intake with merge := none, heldEvents := [] }).setPeers r.peers) r ∧
        t.session = (forEach s.intake.heldEvents takeClockEvent (catchUp r)).session) ∧
      t.session.catchUp = false ∧
      (∀ earlier minute, s.intake.heldEvents = earlier ++ [.minute minute] → t.session.lastMinute = some minute) ∧
      (∀ earlier m sec minute second forward, s.intake.heldEvents = earlier ++ [.jump m sec minute second forward] →
        t.session.lastMinute = some minute) ∧
      (s.intake.heldEvents = [] → s.session.catchUp = true → t.session.lastMinute = s.session.lastMinute ∧
        t.session.entries = (s.session.entries.map (fun e => if e.state = .active ∧ 0 < s.counter.count then
            { e with seen := true, peak := max e.peak s.counter.count } else e)).filterMap
          (fun e => if e.state = .active ∧ e.seen = true ∧ s.counter.vacant = true then (e.finish .earlyRelease).kept
            else some e)) ∧
      (s.intake.heldEvents = [] → s.session.catchUp = false →
        t.session = s.session ∧ t.light = { s.light with
          warning := none, hold := t.light.hold, offset := t.light.offset
          groups := if s.light.warning = none then s.light.groups else s.light.groups.map (fun g => if g.handSelect then g
            else { g with level := 0, target := 0, fade := none }) } ∧
        (RoomLaw s → t.light.offset = 0 ∧ t.air.boost = false ∧ t.blind.override = none) ∧
        (s.blind.emergency = false → BlindRestarted s t) ∧
        (s.panel.on = true → t.panel.record = some { cause := .restart, value := 0, minute := s.clock.minute }) ∧
        (s.panel.on = false → s.panel.trapAt ≠ some s.now → t.panel.record = s.panel.record) ∧
        (s.blind.drives.length ≤ 4 → IdentityWaits t ∧
          ∀ f ∈ t.bus.queue, f.kind ∈ [Kind.identity, .claim, .feederStart, .feederEnd]) ∧
        (s.isNormal = false → t.air = { s.air with boost := t.air.boost }) ∧
        (s.isNormal = true →
          t.air.demand = t.air.demandNow s.loader.settings ∧ t.air.minimum = t.air.minimumNow s.loader.settings ∧
          (s.air.emergency = false → t.air.grant = t.grantNow ∧ t.air.command = commandFor s.loader.settings t.air.grant) ∧
          (s.air.emergency = true → t.air.grant = s.air.grant ∧ t.air.command = s.air.command) ∧
          t.air.shortfall = t.air.shortNow ∧
          (s.loader.settings.trunk ≠ 0 →
            (∀ window, s.air.rateWindow = some window → t.air.pendingTrigger = true ∧ t.air.rateWindow = some window) ∧
            (s.air.rateWindow = none → s.panel.boost = false →
              t.air.rateWindow = some (s.now + 2000) ∧
              (s.air.emergency = false → t.air.record = some t.air.figures) ∧
              (s.loader.address ≠ none → s.blind.drives.length ≤ 4 → ∃ f ∈ t.bus.queue,
                (s.air.emergency = false → f = t.claimFrame t.air.figures false) ∧
                (s.air.emergency = true → f.kind = .claim ∧ t.withdraws f)))))) ∧
      (s.blind.emergency = true → (∀ d ∈ t.blind.drives, d.state = .stopped) ∧ t.light.hold = .off ∧
        t.blind.hand = .nothing ∧ t.blind.backoffs = [] ∧ t.blind.applied = s.blind.applied ∧
        t.blind.dwellTimer = s.blind.dwellTimer ∧ t.blind.latched = s.blind.latched ∧
        t.blind.drives.map (·.position) = s.blind.drives.map (·.leftAt s.now))

/-- A SERVICE CLEAR returns every out-of-service drive to service, with stall streak 0 and position UNKNOWN, clears DRIVE_OUT
and empties the cause record; a returned drive waits or runs, unless the line is asserted or its open limit is ACTIVE (R164,
R174, R181). Without such a drive the record alone is emptied. -/
def Obligations.ClearsReturnDrives : Prop :=
  ∀ (s : State) (source dest : Byte), s.accepts source dest false = true → DriveLaw s.blind →
    ((∀ d ∈ s.blind.drives, d.inService = true) →
      exec (.serviceClear source dest) s = .next (s.setPanel { s.panel with record := none, trapAt := none })) ∧
    ((∃ d ∈ s.blind.drives, d.inService = false) →
      ∃ t, exec (.serviceClear source dest) s = .next t ∧ RoomFrame s t ∧
        t.panel = { s.panel with record := none, trapAt := none } ∧
        t.air = s.air ∧ t.isRaised .driveOut = false ∧ AlertsKept [.driveOut] s t ∧
        t.blind.drives.length = s.blind.drives.length ∧
        (∀ d ∈ t.blind.drives, d.inService = true) ∧
        (s.blind.emergency = true → t.blind.drives = s.blind.drives.map (fun d => if d.inService then d else
          { d with inService := true, streak := 0, position := none })) ∧
        (s.blind.emergency = false → ∀ number d e, pick? s.blind.drives number = some d → d.inService = false →
          d.limits.openEnd = false → pick? t.blind.drives number = some e →
          e.streak = 0 ∧ e.position = none ∧ e.state ≠ .stopped))

/-! ### The laws at the start -/

/-- Every law holds of the station without power, and so from there on by the statements above. The registers of a station
without power hold the model's values (log entry 2). -/
def Obligations.ResetMeetsEveryLaw : Prop :=
  LoaderLaw State.reset.loader ∧ BusLaw State.reset.bus ∧
    ListLaw State.reset.loader.settings.capacity State.reset.session.entries ∧ RegimeLaw State.reset.session ∧
    RoomLaw State.reset ∧ CounterLaw State.reset ∧ PeerLaw State.reset ∧ AirLaw State.reset ∧
    DriveLaw State.reset.blind ∧ EmergencyLaw State.reset
end

