-- ==== Sys2Proof/Laws/State.lean ====
section
/-!
SUPPORT. What each named update of the state leaves in each field: true by `rfl`, so that no proof unfolds an update.
-/

namespace Sys2Proof.Machine

/-! `setPending` -/

@[simp] theorem State.setPending_pending (s : State) (v : List Instr) : (s.setPending v).pending = v := rfl
@[simp] theorem State.setPending_inbox (s : State) (v : List Instr) : (s.setPending v).inbox = s.inbox := rfl
@[simp] theorem State.setPending_now (s : State) (v : List Instr) : (s.setPending v).now = s.now := rfl
@[simp] theorem State.setPending_draws (s : State) (v : List Instr) : (s.setPending v).draws = s.draws := rfl
@[simp] theorem State.setPending_order (s : State) (v : List Instr) : (s.setPending v).order = s.order := rfl
@[simp] theorem State.setPending_lines (s : State) (v : List Instr) : (s.setPending v).lines = s.lines := rfl
@[simp] theorem State.setPending_loader (s : State) (v : List Instr) : (s.setPending v).loader = s.loader := rfl
@[simp] theorem State.setPending_bus (s : State) (v : List Instr) : (s.setPending v).bus = s.bus := rfl
@[simp] theorem State.setPending_clock (s : State) (v : List Instr) : (s.setPending v).clock = s.clock := rfl
@[simp] theorem State.setPending_intake (s : State) (v : List Instr) : (s.setPending v).intake = s.intake := rfl
@[simp] theorem State.setPending_session (s : State) (v : List Instr) : (s.setPending v).session = s.session := rfl
@[simp] theorem State.setPending_counter (s : State) (v : List Instr) : (s.setPending v).counter = s.counter := rfl
@[simp] theorem State.setPending_peers (s : State) (v : List Instr) : (s.setPending v).peers = s.peers := rfl
@[simp] theorem State.setPending_air (s : State) (v : List Instr) : (s.setPending v).air = s.air := rfl
@[simp] theorem State.setPending_light (s : State) (v : List Instr) : (s.setPending v).light = s.light := rfl
@[simp] theorem State.setPending_blind (s : State) (v : List Instr) : (s.setPending v).blind = s.blind := rfl
@[simp] theorem State.setPending_panel (s : State) (v : List Instr) : (s.setPending v).panel = s.panel := rfl
@[simp] theorem State.setPending_alert (s : State) (v : List Instr) : (s.setPending v).alert = s.alert := rfl
@[simp] theorem State.setPending_setPending (s : State) (v w : List Instr) : (s.setPending v).setPending w = s.setPending w := rfl
@[simp] theorem State.setPending_self (s : State) : s.setPending s.pending = s := rfl

/-! `setInbox` -/

@[simp] theorem State.setInbox_pending (s : State) (v : List Instr) : (s.setInbox v).pending = s.pending := rfl
@[simp] theorem State.setInbox_inbox (s : State) (v : List Instr) : (s.setInbox v).inbox = v := rfl
@[simp] theorem State.setInbox_now (s : State) (v : List Instr) : (s.setInbox v).now = s.now := rfl
@[simp] theorem State.setInbox_draws (s : State) (v : List Instr) : (s.setInbox v).draws = s.draws := rfl
@[simp] theorem State.setInbox_order (s : State) (v : List Instr) : (s.setInbox v).order = s.order := rfl
@[simp] theorem State.setInbox_lines (s : State) (v : List Instr) : (s.setInbox v).lines = s.lines := rfl
@[simp] theorem State.setInbox_loader (s : State) (v : List Instr) : (s.setInbox v).loader = s.loader := rfl
@[simp] theorem State.setInbox_bus (s : State) (v : List Instr) : (s.setInbox v).bus = s.bus := rfl
@[simp] theorem State.setInbox_clock (s : State) (v : List Instr) : (s.setInbox v).clock = s.clock := rfl
@[simp] theorem State.setInbox_intake (s : State) (v : List Instr) : (s.setInbox v).intake = s.intake := rfl
@[simp] theorem State.setInbox_session (s : State) (v : List Instr) : (s.setInbox v).session = s.session := rfl
@[simp] theorem State.setInbox_counter (s : State) (v : List Instr) : (s.setInbox v).counter = s.counter := rfl
@[simp] theorem State.setInbox_peers (s : State) (v : List Instr) : (s.setInbox v).peers = s.peers := rfl
@[simp] theorem State.setInbox_air (s : State) (v : List Instr) : (s.setInbox v).air = s.air := rfl
@[simp] theorem State.setInbox_light (s : State) (v : List Instr) : (s.setInbox v).light = s.light := rfl
@[simp] theorem State.setInbox_blind (s : State) (v : List Instr) : (s.setInbox v).blind = s.blind := rfl
@[simp] theorem State.setInbox_panel (s : State) (v : List Instr) : (s.setInbox v).panel = s.panel := rfl
@[simp] theorem State.setInbox_alert (s : State) (v : List Instr) : (s.setInbox v).alert = s.alert := rfl
@[simp] theorem State.setInbox_setInbox (s : State) (v w : List Instr) : (s.setInbox v).setInbox w = s.setInbox w := rfl
@[simp] theorem State.setInbox_self (s : State) : s.setInbox s.inbox = s := rfl

/-! `setNow` -/

@[simp] theorem State.setNow_pending (s : State) (v : Nat) : (s.setNow v).pending = s.pending := rfl
@[simp] theorem State.setNow_inbox (s : State) (v : Nat) : (s.setNow v).inbox = s.inbox := rfl
@[simp] theorem State.setNow_now (s : State) (v : Nat) : (s.setNow v).now = v := rfl
@[simp] theorem State.setNow_draws (s : State) (v : Nat) : (s.setNow v).draws = s.draws := rfl
@[simp] theorem State.setNow_order (s : State) (v : Nat) : (s.setNow v).order = s.order := rfl
@[simp] theorem State.setNow_lines (s : State) (v : Nat) : (s.setNow v).lines = s.lines := rfl
@[simp] theorem State.setNow_loader (s : State) (v : Nat) : (s.setNow v).loader = s.loader := rfl
@[simp] theorem State.setNow_bus (s : State) (v : Nat) : (s.setNow v).bus = s.bus := rfl
@[simp] theorem State.setNow_clock (s : State) (v : Nat) : (s.setNow v).clock = s.clock := rfl
@[simp] theorem State.setNow_intake (s : State) (v : Nat) : (s.setNow v).intake = s.intake := rfl
@[simp] theorem State.setNow_session (s : State) (v : Nat) : (s.setNow v).session = s.session := rfl
@[simp] theorem State.setNow_counter (s : State) (v : Nat) : (s.setNow v).counter = s.counter := rfl
@[simp] theorem State.setNow_peers (s : State) (v : Nat) : (s.setNow v).peers = s.peers := rfl
@[simp] theorem State.setNow_air (s : State) (v : Nat) : (s.setNow v).air = s.air := rfl
@[simp] theorem State.setNow_light (s : State) (v : Nat) : (s.setNow v).light = s.light := rfl
@[simp] theorem State.setNow_blind (s : State) (v : Nat) : (s.setNow v).blind = s.blind := rfl
@[simp] theorem State.setNow_panel (s : State) (v : Nat) : (s.setNow v).panel = s.panel := rfl
@[simp] theorem State.setNow_alert (s : State) (v : Nat) : (s.setNow v).alert = s.alert := rfl
@[simp] theorem State.setNow_setNow (s : State) (v w : Nat) : (s.setNow v).setNow w = s.setNow w := rfl
@[simp] theorem State.setNow_self (s : State) : s.setNow s.now = s := rfl

/-! `setDraws` -/

@[simp] theorem State.setDraws_pending (s : State) (v : Nat) : (s.setDraws v).pending = s.pending := rfl
@[simp] theorem State.setDraws_inbox (s : State) (v : Nat) : (s.setDraws v).inbox = s.inbox := rfl
@[simp] theorem State.setDraws_now (s : State) (v : Nat) : (s.setDraws v).now = s.now := rfl
@[simp] theorem State.setDraws_draws (s : State) (v : Nat) : (s.setDraws v).draws = v := rfl
@[simp] theorem State.setDraws_order (s : State) (v : Nat) : (s.setDraws v).order = s.order := rfl
@[simp] theorem State.setDraws_lines (s : State) (v : Nat) : (s.setDraws v).lines = s.lines := rfl
@[simp] theorem State.setDraws_loader (s : State) (v : Nat) : (s.setDraws v).loader = s.loader := rfl
@[simp] theorem State.setDraws_bus (s : State) (v : Nat) : (s.setDraws v).bus = s.bus := rfl
@[simp] theorem State.setDraws_clock (s : State) (v : Nat) : (s.setDraws v).clock = s.clock := rfl
@[simp] theorem State.setDraws_intake (s : State) (v : Nat) : (s.setDraws v).intake = s.intake := rfl
@[simp] theorem State.setDraws_session (s : State) (v : Nat) : (s.setDraws v).session = s.session := rfl
@[simp] theorem State.setDraws_counter (s : State) (v : Nat) : (s.setDraws v).counter = s.counter := rfl
@[simp] theorem State.setDraws_peers (s : State) (v : Nat) : (s.setDraws v).peers = s.peers := rfl
@[simp] theorem State.setDraws_air (s : State) (v : Nat) : (s.setDraws v).air = s.air := rfl
@[simp] theorem State.setDraws_light (s : State) (v : Nat) : (s.setDraws v).light = s.light := rfl
@[simp] theorem State.setDraws_blind (s : State) (v : Nat) : (s.setDraws v).blind = s.blind := rfl
@[simp] theorem State.setDraws_panel (s : State) (v : Nat) : (s.setDraws v).panel = s.panel := rfl
@[simp] theorem State.setDraws_alert (s : State) (v : Nat) : (s.setDraws v).alert = s.alert := rfl
@[simp] theorem State.setDraws_setDraws (s : State) (v w : Nat) : (s.setDraws v).setDraws w = s.setDraws w := rfl
@[simp] theorem State.setDraws_self (s : State) : s.setDraws s.draws = s := rfl

/-! `setLines` -/

@[simp] theorem State.setLines_pending (s : State) (v : Lines) : (s.setLines v).pending = s.pending := rfl
@[simp] theorem State.setLines_inbox (s : State) (v : Lines) : (s.setLines v).inbox = s.inbox := rfl
@[simp] theorem State.setLines_now (s : State) (v : Lines) : (s.setLines v).now = s.now := rfl
@[simp] theorem State.setLines_draws (s : State) (v : Lines) : (s.setLines v).draws = s.draws := rfl
@[simp] theorem State.setLines_order (s : State) (v : Lines) : (s.setLines v).order = s.order := rfl
@[simp] theorem State.setLines_lines (s : State) (v : Lines) : (s.setLines v).lines = v := rfl
@[simp] theorem State.setLines_loader (s : State) (v : Lines) : (s.setLines v).loader = s.loader := rfl
@[simp] theorem State.setLines_bus (s : State) (v : Lines) : (s.setLines v).bus = s.bus := rfl
@[simp] theorem State.setLines_clock (s : State) (v : Lines) : (s.setLines v).clock = s.clock := rfl
@[simp] theorem State.setLines_intake (s : State) (v : Lines) : (s.setLines v).intake = s.intake := rfl
@[simp] theorem State.setLines_session (s : State) (v : Lines) : (s.setLines v).session = s.session := rfl
@[simp] theorem State.setLines_counter (s : State) (v : Lines) : (s.setLines v).counter = s.counter := rfl
@[simp] theorem State.setLines_peers (s : State) (v : Lines) : (s.setLines v).peers = s.peers := rfl
@[simp] theorem State.setLines_air (s : State) (v : Lines) : (s.setLines v).air = s.air := rfl
@[simp] theorem State.setLines_light (s : State) (v : Lines) : (s.setLines v).light = s.light := rfl
@[simp] theorem State.setLines_blind (s : State) (v : Lines) : (s.setLines v).blind = s.blind := rfl
@[simp] theorem State.setLines_panel (s : State) (v : Lines) : (s.setLines v).panel = s.panel := rfl
@[simp] theorem State.setLines_alert (s : State) (v : Lines) : (s.setLines v).alert = s.alert := rfl
@[simp] theorem State.setLines_setLines (s : State) (v w : Lines) : (s.setLines v).setLines w = s.setLines w := rfl
@[simp] theorem State.setLines_self (s : State) : s.setLines s.lines = s := rfl

/-! `setLoader` -/

@[simp] theorem State.setLoader_pending (s : State) (v : Loader) : (s.setLoader v).pending = s.pending := rfl
@[simp] theorem State.setLoader_inbox (s : State) (v : Loader) : (s.setLoader v).inbox = s.inbox := rfl
@[simp] theorem State.setLoader_now (s : State) (v : Loader) : (s.setLoader v).now = s.now := rfl
@[simp] theorem State.setLoader_draws (s : State) (v : Loader) : (s.setLoader v).draws = s.draws := rfl
@[simp] theorem State.setLoader_order (s : State) (v : Loader) : (s.setLoader v).order = s.order := rfl
@[simp] theorem State.setLoader_lines (s : State) (v : Loader) : (s.setLoader v).lines = s.lines := rfl
@[simp] theorem State.setLoader_loader (s : State) (v : Loader) : (s.setLoader v).loader = v := rfl
@[simp] theorem State.setLoader_bus (s : State) (v : Loader) : (s.setLoader v).bus = s.bus := rfl
@[simp] theorem State.setLoader_clock (s : State) (v : Loader) : (s.setLoader v).clock = s.clock := rfl
@[simp] theorem State.setLoader_intake (s : State) (v : Loader) : (s.setLoader v).intake = s.intake := rfl
@[simp] theorem State.setLoader_session (s : State) (v : Loader) : (s.setLoader v).session = s.session := rfl
@[simp] theorem State.setLoader_counter (s : State) (v : Loader) : (s.setLoader v).counter = s.counter := rfl
@[simp] theorem State.setLoader_peers (s : State) (v : Loader) : (s.setLoader v).peers = s.peers := rfl
@[simp] theorem State.setLoader_air (s : State) (v : Loader) : (s.setLoader v).air = s.air := rfl
@[simp] theorem State.setLoader_light (s : State) (v : Loader) : (s.setLoader v).light = s.light := rfl
@[simp] theorem State.setLoader_blind (s : State) (v : Loader) : (s.setLoader v).blind = s.blind := rfl
@[simp] theorem State.setLoader_panel (s : State) (v : Loader) : (s.setLoader v).panel = s.panel := rfl
@[simp] theorem State.setLoader_alert (s : State) (v : Loader) : (s.setLoader v).alert = s.alert := rfl
@[simp] theorem State.setLoader_setLoader (s : State) (v w : Loader) : (s.setLoader v).setLoader w = s.setLoader w := rfl
@[simp] theorem State.setLoader_self (s : State) : s.setLoader s.loader = s := rfl

/-! `setBus` -/

@[simp] theorem State.setBus_pending (s : State) (v : BusPort) : (s.setBus v).pending = s.pending := rfl
@[simp] theorem State.setBus_inbox (s : State) (v : BusPort) : (s.setBus v).inbox = s.inbox := rfl
@[simp] theorem State.setBus_now (s : State) (v : BusPort) : (s.setBus v).now = s.now := rfl
@[simp] theorem State.setBus_draws (s : State) (v : BusPort) : (s.setBus v).draws = s.draws := rfl
@[simp] theorem State.setBus_order (s : State) (v : BusPort) : (s.setBus v).order = s.order := rfl
@[simp] theorem State.setBus_lines (s : State) (v : BusPort) : (s.setBus v).lines = s.lines := rfl
@[simp] theorem State.setBus_loader (s : State) (v : BusPort) : (s.setBus v).loader = s.loader := rfl
@[simp] theorem State.setBus_bus (s : State) (v : BusPort) : (s.setBus v).bus = v := rfl
@[simp] theorem State.setBus_clock (s : State) (v : BusPort) : (s.setBus v).clock = s.clock := rfl
@[simp] theorem State.setBus_intake (s : State) (v : BusPort) : (s.setBus v).intake = s.intake := rfl
@[simp] theorem State.setBus_session (s : State) (v : BusPort) : (s.setBus v).session = s.session := rfl
@[simp] theorem State.setBus_counter (s : State) (v : BusPort) : (s.setBus v).counter = s.counter := rfl
@[simp] theorem State.setBus_peers (s : State) (v : BusPort) : (s.setBus v).peers = s.peers := rfl
@[simp] theorem State.setBus_air (s : State) (v : BusPort) : (s.setBus v).air = s.air := rfl
@[simp] theorem State.setBus_light (s : State) (v : BusPort) : (s.setBus v).light = s.light := rfl
@[simp] theorem State.setBus_blind (s : State) (v : BusPort) : (s.setBus v).blind = s.blind := rfl
@[simp] theorem State.setBus_panel (s : State) (v : BusPort) : (s.setBus v).panel = s.panel := rfl
@[simp] theorem State.setBus_alert (s : State) (v : BusPort) : (s.setBus v).alert = s.alert := rfl
@[simp] theorem State.setBus_setBus (s : State) (v w : BusPort) : (s.setBus v).setBus w = s.setBus w := rfl
@[simp] theorem State.setBus_self (s : State) : s.setBus s.bus = s := rfl

/-! `setClock` -/

@[simp] theorem State.setClock_pending (s : State) (v : WeekClock) : (s.setClock v).pending = s.pending := rfl
@[simp] theorem State.setClock_inbox (s : State) (v : WeekClock) : (s.setClock v).inbox = s.inbox := rfl
@[simp] theorem State.setClock_now (s : State) (v : WeekClock) : (s.setClock v).now = s.now := rfl
@[simp] theorem State.setClock_draws (s : State) (v : WeekClock) : (s.setClock v).draws = s.draws := rfl
@[simp] theorem State.setClock_order (s : State) (v : WeekClock) : (s.setClock v).order = s.order := rfl
@[simp] theorem State.setClock_lines (s : State) (v : WeekClock) : (s.setClock v).lines = s.lines := rfl
@[simp] theorem State.setClock_loader (s : State) (v : WeekClock) : (s.setClock v).loader = s.loader := rfl
@[simp] theorem State.setClock_bus (s : State) (v : WeekClock) : (s.setClock v).bus = s.bus := rfl
@[simp] theorem State.setClock_clock (s : State) (v : WeekClock) : (s.setClock v).clock = v := rfl
@[simp] theorem State.setClock_intake (s : State) (v : WeekClock) : (s.setClock v).intake = s.intake := rfl
@[simp] theorem State.setClock_session (s : State) (v : WeekClock) : (s.setClock v).session = s.session := rfl
@[simp] theorem State.setClock_counter (s : State) (v : WeekClock) : (s.setClock v).counter = s.counter := rfl
@[simp] theorem State.setClock_peers (s : State) (v : WeekClock) : (s.setClock v).peers = s.peers := rfl
@[simp] theorem State.setClock_air (s : State) (v : WeekClock) : (s.setClock v).air = s.air := rfl
@[simp] theorem State.setClock_light (s : State) (v : WeekClock) : (s.setClock v).light = s.light := rfl
@[simp] theorem State.setClock_blind (s : State) (v : WeekClock) : (s.setClock v).blind = s.blind := rfl
@[simp] theorem State.setClock_panel (s : State) (v : WeekClock) : (s.setClock v).panel = s.panel := rfl
@[simp] theorem State.setClock_alert (s : State) (v : WeekClock) : (s.setClock v).alert = s.alert := rfl
@[simp] theorem State.setClock_setClock (s : State) (v w : WeekClock) : (s.setClock v).setClock w = s.setClock w := rfl
@[simp] theorem State.setClock_self (s : State) : s.setClock s.clock = s := rfl

/-! `setIntake` -/

@[simp] theorem State.setIntake_pending (s : State) (v : Intake) : (s.setIntake v).pending = s.pending := rfl
@[simp] theorem State.setIntake_inbox (s : State) (v : Intake) : (s.setIntake v).inbox = s.inbox := rfl
@[simp] theorem State.setIntake_now (s : State) (v : Intake) : (s.setIntake v).now = s.now := rfl
@[simp] theorem State.setIntake_draws (s : State) (v : Intake) : (s.setIntake v).draws = s.draws := rfl
@[simp] theorem State.setIntake_order (s : State) (v : Intake) : (s.setIntake v).order = s.order := rfl
@[simp] theorem State.setIntake_lines (s : State) (v : Intake) : (s.setIntake v).lines = s.lines := rfl
@[simp] theorem State.setIntake_loader (s : State) (v : Intake) : (s.setIntake v).loader = s.loader := rfl
@[simp] theorem State.setIntake_bus (s : State) (v : Intake) : (s.setIntake v).bus = s.bus := rfl
@[simp] theorem State.setIntake_clock (s : State) (v : Intake) : (s.setIntake v).clock = s.clock := rfl
@[simp] theorem State.setIntake_intake (s : State) (v : Intake) : (s.setIntake v).intake = v := rfl
@[simp] theorem State.setIntake_session (s : State) (v : Intake) : (s.setIntake v).session = s.session := rfl
@[simp] theorem State.setIntake_counter (s : State) (v : Intake) : (s.setIntake v).counter = s.counter := rfl
@[simp] theorem State.setIntake_peers (s : State) (v : Intake) : (s.setIntake v).peers = s.peers := rfl
@[simp] theorem State.setIntake_air (s : State) (v : Intake) : (s.setIntake v).air = s.air := rfl
@[simp] theorem State.setIntake_light (s : State) (v : Intake) : (s.setIntake v).light = s.light := rfl
@[simp] theorem State.setIntake_blind (s : State) (v : Intake) : (s.setIntake v).blind = s.blind := rfl
@[simp] theorem State.setIntake_panel (s : State) (v : Intake) : (s.setIntake v).panel = s.panel := rfl
@[simp] theorem State.setIntake_alert (s : State) (v : Intake) : (s.setIntake v).alert = s.alert := rfl
@[simp] theorem State.setIntake_setIntake (s : State) (v w : Intake) : (s.setIntake v).setIntake w = s.setIntake w := rfl
@[simp] theorem State.setIntake_self (s : State) : s.setIntake s.intake = s := rfl

/-! `setSession` -/

@[simp] theorem State.setSession_pending (s : State) (v : SessionEngine) : (s.setSession v).pending = s.pending := rfl
@[simp] theorem State.setSession_inbox (s : State) (v : SessionEngine) : (s.setSession v).inbox = s.inbox := rfl
@[simp] theorem State.setSession_now (s : State) (v : SessionEngine) : (s.setSession v).now = s.now := rfl
@[simp] theorem State.setSession_draws (s : State) (v : SessionEngine) : (s.setSession v).draws = s.draws := rfl
@[simp] theorem State.setSession_order (s : State) (v : SessionEngine) : (s.setSession v).order = s.order := rfl
@[simp] theorem State.setSession_lines (s : State) (v : SessionEngine) : (s.setSession v).lines = s.lines := rfl
@[simp] theorem State.setSession_loader (s : State) (v : SessionEngine) : (s.setSession v).loader = s.loader := rfl
@[simp] theorem State.setSession_bus (s : State) (v : SessionEngine) : (s.setSession v).bus = s.bus := rfl
@[simp] theorem State.setSession_clock (s : State) (v : SessionEngine) : (s.setSession v).clock = s.clock := rfl
@[simp] theorem State.setSession_intake (s : State) (v : SessionEngine) : (s.setSession v).intake = s.intake := rfl
@[simp] theorem State.setSession_session (s : State) (v : SessionEngine) : (s.setSession v).session = v := rfl
@[simp] theorem State.setSession_counter (s : State) (v : SessionEngine) : (s.setSession v).counter = s.counter := rfl
@[simp] theorem State.setSession_peers (s : State) (v : SessionEngine) : (s.setSession v).peers = s.peers := rfl
@[simp] theorem State.setSession_air (s : State) (v : SessionEngine) : (s.setSession v).air = s.air := rfl
@[simp] theorem State.setSession_light (s : State) (v : SessionEngine) : (s.setSession v).light = s.light := rfl
@[simp] theorem State.setSession_blind (s : State) (v : SessionEngine) : (s.setSession v).blind = s.blind := rfl
@[simp] theorem State.setSession_panel (s : State) (v : SessionEngine) : (s.setSession v).panel = s.panel := rfl
@[simp] theorem State.setSession_alert (s : State) (v : SessionEngine) : (s.setSession v).alert = s.alert := rfl
@[simp] theorem State.setSession_setSession (s : State) (v w : SessionEngine) : (s.setSession v).setSession w = s.setSession w := rfl
@[simp] theorem State.setSession_self (s : State) : s.setSession s.session = s := rfl

/-! `setCounter` -/

@[simp] theorem State.setCounter_pending (s : State) (v : Counter) : (s.setCounter v).pending = s.pending := rfl
@[simp] theorem State.setCounter_inbox (s : State) (v : Counter) : (s.setCounter v).inbox = s.inbox := rfl
@[simp] theorem State.setCounter_now (s : State) (v : Counter) : (s.setCounter v).now = s.now := rfl
@[simp] theorem State.setCounter_draws (s : State) (v : Counter) : (s.setCounter v).draws = s.draws := rfl
@[simp] theorem State.setCounter_order (s : State) (v : Counter) : (s.setCounter v).order = s.order := rfl
@[simp] theorem State.setCounter_lines (s : State) (v : Counter) : (s.setCounter v).lines = s.lines := rfl
@[simp] theorem State.setCounter_loader (s : State) (v : Counter) : (s.setCounter v).loader = s.loader := rfl
@[simp] theorem State.setCounter_bus (s : State) (v : Counter) : (s.setCounter v).bus = s.bus := rfl
@[simp] theorem State.setCounter_clock (s : State) (v : Counter) : (s.setCounter v).clock = s.clock := rfl
@[simp] theorem State.setCounter_intake (s : State) (v : Counter) : (s.setCounter v).intake = s.intake := rfl
@[simp] theorem State.setCounter_session (s : State) (v : Counter) : (s.setCounter v).session = s.session := rfl
@[simp] theorem State.setCounter_counter (s : State) (v : Counter) : (s.setCounter v).counter = v := rfl
@[simp] theorem State.setCounter_peers (s : State) (v : Counter) : (s.setCounter v).peers = s.peers := rfl
@[simp] theorem State.setCounter_air (s : State) (v : Counter) : (s.setCounter v).air = s.air := rfl
@[simp] theorem State.setCounter_light (s : State) (v : Counter) : (s.setCounter v).light = s.light := rfl
@[simp] theorem State.setCounter_blind (s : State) (v : Counter) : (s.setCounter v).blind = s.blind := rfl
@[simp] theorem State.setCounter_panel (s : State) (v : Counter) : (s.setCounter v).panel = s.panel := rfl
@[simp] theorem State.setCounter_alert (s : State) (v : Counter) : (s.setCounter v).alert = s.alert := rfl
@[simp] theorem State.setCounter_setCounter (s : State) (v w : Counter) : (s.setCounter v).setCounter w = s.setCounter w := rfl
@[simp] theorem State.setCounter_self (s : State) : s.setCounter s.counter = s := rfl

/-! `setPeers` -/

@[simp] theorem State.setPeers_pending (s : State) (v : PeerTable) : (s.setPeers v).pending = s.pending := rfl
@[simp] theorem State.setPeers_inbox (s : State) (v : PeerTable) : (s.setPeers v).inbox = s.inbox := rfl
@[simp] theorem State.setPeers_now (s : State) (v : PeerTable) : (s.setPeers v).now = s.now := rfl
@[simp] theorem State.setPeers_draws (s : State) (v : PeerTable) : (s.setPeers v).draws = s.draws := rfl
@[simp] theorem State.setPeers_order (s : State) (v : PeerTable) : (s.setPeers v).order = s.order := rfl
@[simp] theorem State.setPeers_lines (s : State) (v : PeerTable) : (s.setPeers v).lines = s.lines := rfl
@[simp] theorem State.setPeers_loader (s : State) (v : PeerTable) : (s.setPeers v).loader = s.loader := rfl
@[simp] theorem State.setPeers_bus (s : State) (v : PeerTable) : (s.setPeers v).bus = s.bus := rfl
@[simp] theorem State.setPeers_clock (s : State) (v : PeerTable) : (s.setPeers v).clock = s.clock := rfl
@[simp] theorem State.setPeers_intake (s : State) (v : PeerTable) : (s.setPeers v).intake = s.intake := rfl
@[simp] theorem State.setPeers_session (s : State) (v : PeerTable) : (s.setPeers v).session = s.session := rfl
@[simp] theorem State.setPeers_counter (s : State) (v : PeerTable) : (s.setPeers v).counter = s.counter := rfl
@[simp] theorem State.setPeers_peers (s : State) (v : PeerTable) : (s.setPeers v).peers = v := rfl
@[simp] theorem State.setPeers_air (s : State) (v : PeerTable) : (s.setPeers v).air = s.air := rfl
@[simp] theorem State.setPeers_light (s : State) (v : PeerTable) : (s.setPeers v).light = s.light := rfl
@[simp] theorem State.setPeers_blind (s : State) (v : PeerTable) : (s.setPeers v).blind = s.blind := rfl
@[simp] theorem State.setPeers_panel (s : State) (v : PeerTable) : (s.setPeers v).panel = s.panel := rfl
@[simp] theorem State.setPeers_alert (s : State) (v : PeerTable) : (s.setPeers v).alert = s.alert := rfl
@[simp] theorem State.setPeers_setPeers (s : State) (v w : PeerTable) : (s.setPeers v).setPeers w = s.setPeers w := rfl
@[simp] theorem State.setPeers_self (s : State) : s.setPeers s.peers = s := rfl

/-! `setAir` -/

@[simp] theorem State.setAir_pending (s : State) (v : Air) : (s.setAir v).pending = s.pending := rfl
@[simp] theorem State.setAir_inbox (s : State) (v : Air) : (s.setAir v).inbox = s.inbox := rfl
@[simp] theorem State.setAir_now (s : State) (v : Air) : (s.setAir v).now = s.now := rfl
@[simp] theorem State.setAir_draws (s : State) (v : Air) : (s.setAir v).draws = s.draws := rfl
@[simp] theorem State.setAir_order (s : State) (v : Air) : (s.setAir v).order = s.order := rfl
@[simp] theorem State.setAir_lines (s : State) (v : Air) : (s.setAir v).lines = s.lines := rfl
@[simp] theorem State.setAir_loader (s : State) (v : Air) : (s.setAir v).loader = s.loader := rfl
@[simp] theorem State.setAir_bus (s : State) (v : Air) : (s.setAir v).bus = s.bus := rfl
@[simp] theorem State.setAir_clock (s : State) (v : Air) : (s.setAir v).clock = s.clock := rfl
@[simp] theorem State.setAir_intake (s : State) (v : Air) : (s.setAir v).intake = s.intake := rfl
@[simp] theorem State.setAir_session (s : State) (v : Air) : (s.setAir v).session = s.session := rfl
@[simp] theorem State.setAir_counter (s : State) (v : Air) : (s.setAir v).counter = s.counter := rfl
@[simp] theorem State.setAir_peers (s : State) (v : Air) : (s.setAir v).peers = s.peers := rfl
@[simp] theorem State.setAir_air (s : State) (v : Air) : (s.setAir v).air = v := rfl
@[simp] theorem State.setAir_light (s : State) (v : Air) : (s.setAir v).light = s.light := rfl
@[simp] theorem State.setAir_blind (s : State) (v : Air) : (s.setAir v).blind = s.blind := rfl
@[simp] theorem State.setAir_panel (s : State) (v : Air) : (s.setAir v).panel = s.panel := rfl
@[simp] theorem State.setAir_alert (s : State) (v : Air) : (s.setAir v).alert = s.alert := rfl
@[simp] theorem State.setAir_setAir (s : State) (v w : Air) : (s.setAir v).setAir w = s.setAir w := rfl
@[simp] theorem State.setAir_self (s : State) : s.setAir s.air = s := rfl

/-! `setLight` -/

@[simp] theorem State.setLight_pending (s : State) (v : Light) : (s.setLight v).pending = s.pending := rfl
@[simp] theorem State.setLight_inbox (s : State) (v : Light) : (s.setLight v).inbox = s.inbox := rfl
@[simp] theorem State.setLight_now (s : State) (v : Light) : (s.setLight v).now = s.now := rfl
@[simp] theorem State.setLight_draws (s : State) (v : Light) : (s.setLight v).draws = s.draws := rfl
@[simp] theorem State.setLight_order (s : State) (v : Light) : (s.setLight v).order = s.order := rfl
@[simp] theorem State.setLight_lines (s : State) (v : Light) : (s.setLight v).lines = s.lines := rfl
@[simp] theorem State.setLight_loader (s : State) (v : Light) : (s.setLight v).loader = s.loader := rfl
@[simp] theorem State.setLight_bus (s : State) (v : Light) : (s.setLight v).bus = s.bus := rfl
@[simp] theorem State.setLight_clock (s : State) (v : Light) : (s.setLight v).clock = s.clock := rfl
@[simp] theorem State.setLight_intake (s : State) (v : Light) : (s.setLight v).intake = s.intake := rfl
@[simp] theorem State.setLight_session (s : State) (v : Light) : (s.setLight v).session = s.session := rfl
@[simp] theorem State.setLight_counter (s : State) (v : Light) : (s.setLight v).counter = s.counter := rfl
@[simp] theorem State.setLight_peers (s : State) (v : Light) : (s.setLight v).peers = s.peers := rfl
@[simp] theorem State.setLight_air (s : State) (v : Light) : (s.setLight v).air = s.air := rfl
@[simp] theorem State.setLight_light (s : State) (v : Light) : (s.setLight v).light = v := rfl
@[simp] theorem State.setLight_blind (s : State) (v : Light) : (s.setLight v).blind = s.blind := rfl
@[simp] theorem State.setLight_panel (s : State) (v : Light) : (s.setLight v).panel = s.panel := rfl
@[simp] theorem State.setLight_alert (s : State) (v : Light) : (s.setLight v).alert = s.alert := rfl
@[simp] theorem State.setLight_setLight (s : State) (v w : Light) : (s.setLight v).setLight w = s.setLight w := rfl
@[simp] theorem State.setLight_self (s : State) : s.setLight s.light = s := rfl

/-! `setBlind` -/

@[simp] theorem State.setBlind_pending (s : State) (v : Blind) : (s.setBlind v).pending = s.pending := rfl
@[simp] theorem State.setBlind_inbox (s : State) (v : Blind) : (s.setBlind v).inbox = s.inbox := rfl
@[simp] theorem State.setBlind_now (s : State) (v : Blind) : (s.setBlind v).now = s.now := rfl
@[simp] theorem State.setBlind_draws (s : State) (v : Blind) : (s.setBlind v).draws = s.draws := rfl
@[simp] theorem State.setBlind_order (s : State) (v : Blind) : (s.setBlind v).order = s.order := rfl
@[simp] theorem State.setBlind_lines (s : State) (v : Blind) : (s.setBlind v).lines = s.lines := rfl
@[simp] theorem State.setBlind_loader (s : State) (v : Blind) : (s.setBlind v).loader = s.loader := rfl
@[simp] theorem State.setBlind_bus (s : State) (v : Blind) : (s.setBlind v).bus = s.bus := rfl
@[simp] theorem State.setBlind_clock (s : State) (v : Blind) : (s.setBlind v).clock = s.clock := rfl
@[simp] theorem State.setBlind_intake (s : State) (v : Blind) : (s.setBlind v).intake = s.intake := rfl
@[simp] theorem State.setBlind_session (s : State) (v : Blind) : (s.setBlind v).session = s.session := rfl
@[simp] theorem State.setBlind_counter (s : State) (v : Blind) : (s.setBlind v).counter = s.counter := rfl
@[simp] theorem State.setBlind_peers (s : State) (v : Blind) : (s.setBlind v).peers = s.peers := rfl
@[simp] theorem State.setBlind_air (s : State) (v : Blind) : (s.setBlind v).air = s.air := rfl
@[simp] theorem State.setBlind_light (s : State) (v : Blind) : (s.setBlind v).light = s.light := rfl
@[simp] theorem State.setBlind_blind (s : State) (v : Blind) : (s.setBlind v).blind = v := rfl
@[simp] theorem State.setBlind_panel (s : State) (v : Blind) : (s.setBlind v).panel = s.panel := rfl
@[simp] theorem State.setBlind_alert (s : State) (v : Blind) : (s.setBlind v).alert = s.alert := rfl
@[simp] theorem State.setBlind_setBlind (s : State) (v w : Blind) : (s.setBlind v).setBlind w = s.setBlind w := rfl
@[simp] theorem State.setBlind_self (s : State) : s.setBlind s.blind = s := rfl

/-! `setPanel` -/

@[simp] theorem State.setPanel_pending (s : State) (v : Panel) : (s.setPanel v).pending = s.pending := rfl
@[simp] theorem State.setPanel_inbox (s : State) (v : Panel) : (s.setPanel v).inbox = s.inbox := rfl
@[simp] theorem State.setPanel_now (s : State) (v : Panel) : (s.setPanel v).now = s.now := rfl
@[simp] theorem State.setPanel_draws (s : State) (v : Panel) : (s.setPanel v).draws = s.draws := rfl
@[simp] theorem State.setPanel_order (s : State) (v : Panel) : (s.setPanel v).order = s.order := rfl
@[simp] theorem State.setPanel_lines (s : State) (v : Panel) : (s.setPanel v).lines = s.lines := rfl
@[simp] theorem State.setPanel_loader (s : State) (v : Panel) : (s.setPanel v).loader = s.loader := rfl
@[simp] theorem State.setPanel_bus (s : State) (v : Panel) : (s.setPanel v).bus = s.bus := rfl
@[simp] theorem State.setPanel_clock (s : State) (v : Panel) : (s.setPanel v).clock = s.clock := rfl
@[simp] theorem State.setPanel_intake (s : State) (v : Panel) : (s.setPanel v).intake = s.intake := rfl
@[simp] theorem State.setPanel_session (s : State) (v : Panel) : (s.setPanel v).session = s.session := rfl
@[simp] theorem State.setPanel_counter (s : State) (v : Panel) : (s.setPanel v).counter = s.counter := rfl
@[simp] theorem State.setPanel_peers (s : State) (v : Panel) : (s.setPanel v).peers = s.peers := rfl
@[simp] theorem State.setPanel_air (s : State) (v : Panel) : (s.setPanel v).air = s.air := rfl
@[simp] theorem State.setPanel_light (s : State) (v : Panel) : (s.setPanel v).light = s.light := rfl
@[simp] theorem State.setPanel_blind (s : State) (v : Panel) : (s.setPanel v).blind = s.blind := rfl
@[simp] theorem State.setPanel_panel (s : State) (v : Panel) : (s.setPanel v).panel = v := rfl
@[simp] theorem State.setPanel_alert (s : State) (v : Panel) : (s.setPanel v).alert = s.alert := rfl
@[simp] theorem State.setPanel_setPanel (s : State) (v w : Panel) : (s.setPanel v).setPanel w = s.setPanel w := rfl
@[simp] theorem State.setPanel_self (s : State) : s.setPanel s.panel = s := rfl

/-! `setAlert` -/

@[simp] theorem State.setAlert_pending (s : State) (v : AlertUnit) : (s.setAlert v).pending = s.pending := rfl
@[simp] theorem State.setAlert_inbox (s : State) (v : AlertUnit) : (s.setAlert v).inbox = s.inbox := rfl
@[simp] theorem State.setAlert_now (s : State) (v : AlertUnit) : (s.setAlert v).now = s.now := rfl
@[simp] theorem State.setAlert_draws (s : State) (v : AlertUnit) : (s.setAlert v).draws = s.draws := rfl
@[simp] theorem State.setAlert_order (s : State) (v : AlertUnit) : (s.setAlert v).order = s.order := rfl
@[simp] theorem State.setAlert_lines (s : State) (v : AlertUnit) : (s.setAlert v).lines = s.lines := rfl
@[simp] theorem State.setAlert_loader (s : State) (v : AlertUnit) : (s.setAlert v).loader = s.loader := rfl
@[simp] theorem State.setAlert_bus (s : State) (v : AlertUnit) : (s.setAlert v).bus = s.bus := rfl
@[simp] theorem State.setAlert_clock (s : State) (v : AlertUnit) : (s.setAlert v).clock = s.clock := rfl
@[simp] theorem State.setAlert_intake (s : State) (v : AlertUnit) : (s.setAlert v).intake = s.intake := rfl
@[simp] theorem State.setAlert_session (s : State) (v : AlertUnit) : (s.setAlert v).session = s.session := rfl
@[simp] theorem State.setAlert_counter (s : State) (v : AlertUnit) : (s.setAlert v).counter = s.counter := rfl
@[simp] theorem State.setAlert_peers (s : State) (v : AlertUnit) : (s.setAlert v).peers = s.peers := rfl
@[simp] theorem State.setAlert_air (s : State) (v : AlertUnit) : (s.setAlert v).air = s.air := rfl
@[simp] theorem State.setAlert_light (s : State) (v : AlertUnit) : (s.setAlert v).light = s.light := rfl
@[simp] theorem State.setAlert_blind (s : State) (v : AlertUnit) : (s.setAlert v).blind = s.blind := rfl
@[simp] theorem State.setAlert_panel (s : State) (v : AlertUnit) : (s.setAlert v).panel = s.panel := rfl
@[simp] theorem State.setAlert_alert (s : State) (v : AlertUnit) : (s.setAlert v).alert = v := rfl
@[simp] theorem State.setAlert_setAlert (s : State) (v w : AlertUnit) : (s.setAlert v).setAlert w = s.setAlert w := rfl
@[simp] theorem State.setAlert_self (s : State) : s.setAlert s.alert = s := rfl

end Sys2Proof.Machine
end

