-- ==== Sys2Proof/Laws/Frames.lean ====
section
/-!
SUPPORT. Frames compose, and the one-field updates keep them.
-/

namespace Sys2Proof.Machine

variable {s t u : State}

theorem BusPort.LineKept.refl (b : BusPort) : b.LineKept b := .inl ⟨rfl, rfl⟩

theorem BusPort.LineKept.trans {b c d : BusPort} (h : b.LineKept c) (k : c.LineKept d) : b.LineKept d := by
  unfold BusPort.LineKept at *
  rcases h with ⟨h, h'⟩ | ⟨h, h', h''⟩ <;> rcases k with ⟨k, k'⟩ | ⟨k, k', k''⟩ <;> simp_all

theorem CoreFrame.refl (s : State) : CoreFrame s s := by
  constructor
  case line => exact .refl _
  all_goals rfl

theorem CoreFrame.trans (h : CoreFrame s t) (k : CoreFrame t u) : CoreFrame s u :=
  { pending := k.pending.trans h.pending, inbox := k.inbox.trans h.inbox, now := k.now.trans h.now
    draws := k.draws.trans h.draws, order := k.order.trans h.order, lines := k.lines.trans h.lines
    loader := k.loader.trans h.loader, mask := k.mask.trans h.mask, emergency := k.emergency.trans h.emergency
    debounce := k.debounce.trans h.debounce, receiver := k.receiver.trans h.receiver
    collected := k.collected.trans h.collected, line := h.line.trans k.line }

theorem SessionFrame.refl (s : State) : SessionFrame s s := by
  constructor
  · exact .refl s
  all_goals rfl

theorem SessionFrame.trans (h : SessionFrame s t) (k : SessionFrame t u) : SessionFrame s u :=
  { toCoreFrame := h.toCoreFrame.trans k.toCoreFrame, clock := k.clock.trans h.clock, intake := k.intake.trans h.intake
    counter := k.counter.trans h.counter, peers := k.peers.trans h.peers
    airEmergency := k.airEmergency.trans h.airEmergency, lightEmergency := k.lightEmergency.trans h.lightEmergency
    blindEmergency := k.blindEmergency.trans h.blindEmergency, panelEmergency := k.panelEmergency.trans h.panelEmergency }

theorem RoomFrame.refl (s : State) : RoomFrame s s := ⟨SessionFrame.refl s, rfl⟩

theorem RoomFrame.trans (h : RoomFrame s t) (k : RoomFrame t u) : RoomFrame s u := ⟨h.1.trans k.1, k.2.trans h.2⟩

theorem AirFrame.refl (s : State) : AirFrame s s := ⟨RoomFrame.refl s, rfl, rfl, rfl⟩

theorem AirFrame.trans (h : AirFrame s t) (k : AirFrame t u) : AirFrame s u :=
  ⟨h.1.trans k.1, k.2.trans h.2, k.3.trans h.3, k.4.trans h.4⟩

theorem BlindFrame.refl (s : State) : BlindFrame s s := ⟨RoomFrame.refl s, rfl, rfl, rfl⟩

theorem BlindFrame.trans (h : BlindFrame s t) (k : BlindFrame t u) : BlindFrame s u :=
  ⟨h.1.trans k.1, k.2.trans h.2, by rw [k.3, h.3], k.4.trans h.4⟩

theorem QuietFrame.refl (s : State) : QuietFrame s s := ⟨RoomFrame.refl s, rfl, rfl, rfl, rfl⟩

theorem QuietFrame.trans (h : QuietFrame s t) (k : QuietFrame t u) : QuietFrame s u :=
  ⟨h.1.trans k.1, k.2.trans h.2, k.3.trans h.3, k.4.trans h.4, k.5.trans h.5⟩

theorem QuietFrame.toAir (h : QuietFrame s t) : AirFrame s t := ⟨h.1, h.light, h.blind, h.panel⟩

theorem QuietFrame.toBlind (h : QuietFrame s t) : BlindFrame s t := ⟨h.1, h.air, by rw [h.light], h.panel⟩

/-! ### Relations carried along events -/

/-- A relation that holds of nothing done and composes holds of a run of events each of which keeps it. -/
theorem forEach_rel {α : Type} (R : State → State → Prop) (refl : ∀ s, R s s) (trans : ∀ {s t u}, R s t → R t u → R s u)
    (act : α → State → State) (keep : ∀ a s, R s (act a s)) : ∀ (events : List α) (s : State), R s (forEach events act s)
  | [], s => refl s
  | a :: rest, s => trans (keep a s) (forEach_rel R refl trans act keep rest (act a s))

/-- A property each event keeps holds after a run of them. -/
theorem forEach_keeps {α : Type} (P : State → Prop) (act : α → State → State) (keep : ∀ a s, P s → P (act a s)) :
    ∀ (events : List α) (s : State), P s → P (forEach events act s)
  | [], _, h => h
  | a :: rest, s, h => forEach_keeps P act keep rest (act a s) (keep a s h)

/-- An event that all blocks take keeps a relation each of them keeps. -/
theorem fanOut_rel (R : State → State → Prop) (refl : ∀ s, R s s) (trans : ∀ {s t u}, R s t → R t u → R s u)
    (act : Block → State → State) (keep : ∀ b s, R s (act b s)) (blocks : List Block) (s : State) :
    R s (fanOut blocks act s) :=
  forEach_rel R refl trans act keep _ s

theorem fanOut_keeps (P : State → Prop) (act : Block → State → State) (keep : ∀ b s, P s → P (act b s))
    (blocks : List Block) (s : State) (h : P s) : P (fanOut blocks act s) :=
  forEach_keeps P act keep _ s h

/-! ### Permutations -/

theorem insertNth_perm {α : Type} (x : α) : ∀ (n : Nat) (xs : List α), (insertNth n x xs).Perm (x :: xs)
  | 0, [] => by simp [insertNth]
  | _ + 1, [] => by simp [insertNth]
  | 0, _ :: _ => by simp [insertNth]
  | n + 1, y :: ys => ((insertNth_perm x n ys).cons y).trans (List.Perm.swap x y ys)

/-- `permute` answers a permutation. -/
theorem permute_perm {α : Type} : ∀ (n : Nat) (xs : List α), (permute n xs).Perm xs
  | _, [] => by simp [permute]
  | n, x :: xs => (insertNth_perm x _ _).trans ((permute_perm _ xs).cons x)

@[simp] theorem mem_permute {α : Type} {n : Nat} {x : α} {xs : List α} : x ∈ permute n xs ↔ x ∈ xs :=
  (permute_perm n xs).mem_iff

/-- A property that one block's part of an event brings about, and that every part keeps, holds after the event, whatever
the order. -/
theorem forEach_brings {α : Type} (P : State → Prop) (act : α → State → State) (a : α) (bring : ∀ s, P (act a s))
    (keep : ∀ b s, P s → P (act b s)) : ∀ (events : List α) (s : State), a ∈ events → P (forEach events act s)
  | [], _, h => by simp at h
  | b :: rest, s, h => by
    rcases List.mem_cons.1 h with rfl | h
    · exact forEach_keeps P act keep rest _ (bring s)
    · exact forEach_brings P act a bring keep rest _ h

theorem fanOut_brings (P : State → Prop) (act : Block → State → State) (b : Block) (bring : ∀ s, P (act b s))
    (keep : ∀ b s, P s → P (act b s)) (blocks : List Block) (s : State) (h : b ∈ blocks) : P (fanOut blocks act s) :=
  forEach_brings P act b bring keep _ s (mem_permute.2 h)

/-! ### Timers and gates -/

@[simp] theorem onExpiry_none (s : State) (effect : State → State) : s.onExpiry none effect = s := rfl

@[simp] theorem onExpiry_some (s : State) (due : Nat) (effect : State → State) :
    s.onExpiry (some due) effect = effect (s.setNow (max s.now due)) := rfl

theorem whileStarted_of (h : s.started = true) (effect : State → State) : s.whileStarted effect = effect s := by
  simp [State.whileStarted, h]

theorem whileStarted_not (h : s.started = false) (effect : State → State) : s.whileStarted effect = s := by
  simp [State.whileStarted, h]

theorem onMessage_of {source dest : Byte} {kind : Bool} (h : s.accepts source dest kind = true) (effect : State → State) :
    s.onMessage source dest kind effect = effect s := by simp [State.onMessage, h]

/-- A gated effect keeps what the effect keeps. -/
theorem whileStarted_rel (R : State → State → Prop) (refl : ∀ s, R s s) (effect : State → State)
    (keep : ∀ s, R s (effect s)) (s : State) : R s (s.whileStarted effect) := by
  unfold State.whileStarted; split
  · exact keep s
  · exact refl s

/-! ### Updates of one field -/

theorem CoreFrame.setAir (s : State) (a : Air) : CoreFrame s (s.setAir a) := { CoreFrame.refl s with }

theorem CoreFrame.setLight (s : State) (l : Light) : CoreFrame s (s.setLight l) := { CoreFrame.refl s with }

theorem CoreFrame.setBlind (s : State) (b : Blind) : CoreFrame s (s.setBlind b) := { CoreFrame.refl s with }

theorem CoreFrame.setPanel (s : State) (p : Panel) : CoreFrame s (s.setPanel p) := { CoreFrame.refl s with }

theorem CoreFrame.setSession (s : State) (e : SessionEngine) : CoreFrame s (s.setSession e) := { CoreFrame.refl s with }

theorem CoreFrame.setRaised (s : State) (v : BitVec 12) : CoreFrame s (s.setAlert { s.alert with raised := v }) :=
  { CoreFrame.refl s with }

theorem RoomFrame.setAir (s : State) (a : Air) (h : a.emergency = s.air.emergency) : RoomFrame s (s.setAir a) :=
  { toCoreFrame := .setAir s a, airEmergency := h, clock := rfl, intake := rfl, counter := rfl, peers := rfl
    lightEmergency := rfl, blindEmergency := rfl, panelEmergency := rfl, session := rfl }

theorem RoomFrame.setLight (s : State) (l : Light) (h : l.emergency = s.light.emergency) : RoomFrame s (s.setLight l) :=
  { toCoreFrame := .setLight s l, lightEmergency := h, clock := rfl, intake := rfl, counter := rfl, peers := rfl
    airEmergency := rfl, blindEmergency := rfl, panelEmergency := rfl, session := rfl }

theorem RoomFrame.setBlind (s : State) (b : Blind) (h : b.emergency = s.blind.emergency) : RoomFrame s (s.setBlind b) :=
  { toCoreFrame := .setBlind s b, blindEmergency := h, clock := rfl, intake := rfl, counter := rfl, peers := rfl
    airEmergency := rfl, lightEmergency := rfl, panelEmergency := rfl, session := rfl }

theorem RoomFrame.setPanel (s : State) (p : Panel) (h : p.emergency = s.panel.emergency) : RoomFrame s (s.setPanel p) :=
  { toCoreFrame := .setPanel s p, panelEmergency := h, clock := rfl, intake := rfl, counter := rfl, peers := rfl
    airEmergency := rfl, lightEmergency := rfl, blindEmergency := rfl, session := rfl }

theorem SessionFrame.setSession (s : State) (e : SessionEngine) : SessionFrame s (s.setSession e) := by
  constructor
  · exact .setSession s e
  all_goals rfl

theorem AirFrame.setAir (s : State) (a : Air) (h : a.emergency = s.air.emergency) : AirFrame s (s.setAir a) where
  toRoomFrame := .setAir s a h
  light := rfl
  blind := rfl
  panel := rfl

theorem BlindFrame.setBlind (s : State) (b : Blind) (h : b.emergency = s.blind.emergency) :
    BlindFrame s (s.setBlind b) where
  toRoomFrame := .setBlind s b h
  air := rfl
  light := rfl
  panel := rfl

theorem QuietFrame.setRaised (s : State) (v : BitVec 12) : QuietFrame s (s.setAlert { s.alert with raised := v }) := by
  have core := CoreFrame.setRaised s v
  constructor
  · constructor
    · constructor <;> first | exact core | rfl
    · rfl
  all_goals rfl

/-- An update of the transmit side of the Bus Port. -/
theorem QuietFrame.setBus (s : State) (b : BusPort) (h1 : b.receiver = s.bus.receiver) (h2 : b.collected = s.bus.collected)
    (h3 : s.bus.LineKept b) : QuietFrame s (s.setBus b) := by
  have core : CoreFrame s (s.setBus b) := { CoreFrame.refl s with receiver := h1, collected := h2, line := h3 }
  constructor
  · constructor
    · constructor <;> first | exact core | rfl
    · rfl
  all_goals rfl

end Sys2Proof.Machine
end

