-- ==== Sys2Proof/Laws/Queue.lean ====
section
/-!
SUPPORT. What an offer and the taking of the head can do: the receiving side of the Bus Port is left alone, and the queue
changes only as R19 to R22 say.
-/

namespace Sys2Proof.Machine

/-- The receiving side of the Bus Port is the same, but for a frame that begins on a QUIET line. -/
def BusPort.sameReceiver (b c : BusPort) : Prop :=
  c.receiver = b.receiver ∧ c.collected = b.collected ∧ b.LineKept c

theorem BusPort.sameReceiver_refl (b : BusPort) : b.sameReceiver b := ⟨rfl, rfl, .refl b⟩

theorem BusPort.sameReceiver_trans {b c d : BusPort} (h : b.sameReceiver c) (k : c.sameReceiver d) : b.sameReceiver d :=
  ⟨k.1.trans h.1, k.2.1.trans h.2.1, h.2.2.trans k.2.2⟩

/-- All an admission can do: the waiting frame takes the body, the frame joins, or it joins in place of an evicted frame of
a worse class, or the queue stays as it was and the frame is lost (R20, R21). -/
theorem BusPort.enqueue_cases (b : BusPort) (f : Frame) :
    (∃ i, b.queue.findIdx? (replaces f) = some i ∧
        b.enqueue f = ({ b with queue := b.queue.modify i (fun w => { w with body := f.body }) }, true)) ∨
      (b.queue.findIdx? (replaces f) = none ∧ b.queue.length < queueLimit ∧
        b.enqueue f = ({ b with queue := b.queue ++ [f] }, true)) ∨
      (b.queue.findIdx? (replaces f) = none ∧ queueLimit ≤ b.queue.length ∧ b.enqueue f = (b, false)) ∨
      (∃ i, b.queue.findIdx? (replaces f) = none ∧ queueLimit ≤ b.queue.length ∧ f.kind.rank < worstRank b.queue ∧
        newestOf (worstRank b.queue) b.queue = some i ∧
        b.enqueue f =
          ({ b with
              queue := b.queue.eraseIdx i ++ [f]
              hold := b.hold && (b.queue[i]?.map (·.kind)) != some .identity }, true)) := by
  unfold BusPort.enqueue
  split
  · rename_i i h
    exact .inl ⟨i, h, rfl⟩
  · rename_i h
    split
    · rename_i hl
      exact .inr (.inl ⟨h, hl, rfl⟩)
    · rename_i hl
      split
      · exact .inr (.inr (.inl ⟨h, Nat.le_of_not_lt hl, rfl⟩))
      · rename_i hr
        split
        · exact .inr (.inr (.inl ⟨h, Nat.le_of_not_lt hl, rfl⟩))
        · rename_i i hi
          exact .inr (.inr (.inr ⟨i, h, Nat.le_of_not_lt hl, Nat.lt_of_not_le hr, hi, rfl⟩))

/-- An admission changes the queue and may end the hold; nothing else. -/
theorem BusPort.enqueue_eq (b : BusPort) (f : Frame) :
    ∃ q h, (b.enqueue f).1 = { b with queue := q, hold := h } := by
  unfold BusPort.enqueue
  repeat' split
  all_goals exact ⟨_, _, rfl⟩

/-- All the taking of the head can do (R22). -/
theorem BusPort.takeHead_cases (b : BusPort) :
    b.takeHead = b ∨
      ∃ i f, b.transmitter = .idle ∧ b.line = .quiet ∧ b.headPlace = some i ∧ b.queue[i]? = some f ∧
        b.takeHead = { b with
          queue := b.queue.eraseIdx i, transmitter := .sending f 0, attempts := 0, line := .busy, quietTimer := none } := by
  unfold BusPort.takeHead
  split
  · rename_i i ht hl hp
    split
    · rename_i f hf
      exact .inr ⟨i, f, ht, hl, hp, hf, rfl⟩
    · exact .inl rfl
  · exact .inl rfl

theorem BusPort.takeHead_sameReceiver (b : BusPort) : b.sameReceiver b.takeHead := by
  rcases b.takeHead_cases with e | ⟨i, f, -, quiet, -, -, e⟩ <;> rw [e]
  · exact b.sameReceiver_refl
  · exact ⟨rfl, rfl, .inr ⟨quiet, rfl, rfl⟩⟩

theorem BusPort.enqueue_sameReceiver (b : BusPort) (f : Frame) : b.sameReceiver (b.enqueue f).1 := by
  obtain ⟨q, h, e⟩ := b.enqueue_eq f
  rw [e]; exact ⟨rfl, rfl, .refl b⟩

/-- All an offer can do (R18): it is taken, and the head may go; or it is not taken, and nothing changes. -/
theorem offerAnswered_cases (f : Frame) (s : State) :
    (s.takesOffer f.kind = true ∧ offerAnswered f s = (s.setBus (s.bus.enqueue f).1.takeHead, (s.bus.enqueue f).2)) ∨
      (s.takesOffer f.kind = false ∧ offerAnswered f s = (s, false)) := by
  unfold offerAnswered
  cases h : s.takesOffer f.kind <;> simp

theorem offer_cases (f : Frame) (s : State) :
    (s.takesOffer f.kind = true ∧ offer f s = s.setBus (s.bus.enqueue f).1.takeHead) ∨
      (s.takesOffer f.kind = false ∧ offer f s = s) := by
  rcases offerAnswered_cases f s with ⟨h, e⟩ | ⟨h, e⟩
  · exact .inl ⟨h, by simp [offer, e]⟩
  · exact .inr ⟨h, by simp [offer, e]⟩

theorem enqueue_takeHead_sameReceiver (b : BusPort) (f : Frame) : b.sameReceiver (b.enqueue f).1.takeHead :=
  BusPort.sameReceiver_trans (b.enqueue_sameReceiver f) (BusPort.takeHead_sameReceiver _)

theorem offerAnswered_frame (f : Frame) (s : State) : QuietFrame s (offerAnswered f s).1 := by
  rcases offerAnswered_cases f s with ⟨-, e⟩ | ⟨-, e⟩ <;> rw [e]
  · obtain ⟨h1, h2, h3⟩ := enqueue_takeHead_sameReceiver s.bus f
    exact QuietFrame.setBus s _ h1 h2 h3
  · exact QuietFrame.refl s

theorem offer_frame (f : Frame) (s : State) : QuietFrame s (offer f s) := offerAnswered_frame f s

theorem BusPort.admitHeld_sameReceiver (b : BusPort) (f : Frame) : b.sameReceiver (b.admitHeld f) :=
  b.enqueue_sameReceiver f

theorem offerIdentity_frame (s : State) : QuietFrame s (offerIdentity s) := by
  unfold offerIdentity
  split
  · exact QuietFrame.refl s
  · rename_i a _
    split
    · obtain ⟨h1, h2, h3⟩ := BusPort.sameReceiver_trans (s.bus.admitHeld_sameReceiver (s.identity a))
        (BusPort.takeHead_sameReceiver _)
      exact QuietFrame.setBus s _ h1 h2 h3
    · exact QuietFrame.refl s

/-! ### Alerts -/

theorem raiseAlert_frame (a : Alert) (s : State) : QuietFrame s (raiseAlert a s) := QuietFrame.setRaised s _

theorem clearAlert_frame (a : Alert) (s : State) : QuietFrame s (clearAlert a s) := QuietFrame.setRaised s _

theorem alertIs_frame (a : Alert) (c : Bool) (s : State) : QuietFrame s (alertIs a c s) := by
  unfold alertIs; split
  · exact raiseAlert_frame a s
  · exact clearAlert_frame a s

/-- An offer leaves the alert set alone. -/
theorem offerAnswered_alert (f : Frame) (s : State) : (offerAnswered f s).1.alert = s.alert := by
  rcases offerAnswered_cases f s with ⟨-, e⟩ | ⟨-, e⟩
  · rw [e]; rfl
  · rw [e]

theorem offer_alert (f : Frame) (s : State) : (offer f s).alert = s.alert := offerAnswered_alert f s

theorem offerIdentity_alert (s : State) : (offerIdentity s).alert = s.alert := by
  unfold offerIdentity
  split
  · rfl
  · split <;> rfl

end Sys2Proof.Machine
end

