-- ==== Sys2Proof/Laws/Air.lean ====
section
/-!
SUPPORT. The Air Controller's operations change the Air Controller, the transmit side of the Bus Port and the alert set, and
nothing else; and the laws of demand, grant and damper (R108, R117, R119).
-/

namespace Sys2Proof.Machine

/-! ### Frames -/

theorem compareDamper_frame (s : State) : AirFrame s (compareDamper s) := by
  unfold compareDamper
  split
  · split
    · exact AirFrame.setAir s _ rfl
    · exact AirFrame.refl s
  · exact (AirFrame.setAir s { s.air with faultTimer := none } rfl).trans (clearAlert_frame _ _).toAir

theorem setCommand_frame (command : Nat) (s : State) : AirFrame s (setCommand command s) := by
  unfold setCommand
  split
  · exact AirFrame.refl s
  · exact (AirFrame.setAir s { s.air with command := command } rfl).trans (compareDamper_frame _)

theorem setGrant_frame (grant : Nat) (s : State) : AirFrame s (setGrant grant s) :=
  (AirFrame.setAir s { s.air with grant := grant } rfl).trans (setCommand_frame _ _)

theorem regrant_frame (s : State) : AirFrame s (regrant s) := by
  unfold regrant
  split
  · exact AirFrame.refl s
  · exact setGrant_frame _ s

theorem judgeShortfall_frame (s : State) : AirFrame s (judgeShortfall s) := by
  unfold judgeShortfall
  split
  · split
    · exact AirFrame.refl s
    · exact AirFrame.setAir s _ rfl
  · split
    · exact (AirFrame.setAir s { s.air with shortfall := false, shortfallTimer := none } rfl).trans (clearAlert_frame _ _).toAir
    · exact AirFrame.refl s

theorem readShortfall_frame (s : State) : AirFrame s (readShortfall s).2 := AirFrame.setAir s _ rfl

theorem offerFigures_frame (s : State) : AirFrame s (offerFigures s) :=
  (AirFrame.setAir s
    { s.air with record := some s.air.figures, rateWindow := s.timer (seconds 2), refreshTimer := s.timer (seconds 30) }
    rfl).trans (offer_frame _ _).toAir

theorem offerWithdrawal_frame (s : State) : AirFrame s (offerWithdrawal s) :=
  (AirFrame.setAir s { s.air with rateWindow := s.timer (seconds 2) } rfl).trans (offer_frame _ _).toAir

theorem offerClaim_frame (s : State) : AirFrame s (offerClaim s) := by
  unfold offerClaim
  split
  · exact offerWithdrawal_frame s
  · exact offerFigures_frame s

theorem triggerClaim_frame (s : State) : AirFrame s (triggerClaim s) := by
  unfold triggerClaim
  split
  · split
    · exact offerClaim_frame s
    · exact AirFrame.setAir s _ rfl
  · exact AirFrame.refl s

theorem testTrigger_frame (s : State) : AirFrame s (testTrigger s) := by
  unfold testTrigger
  split
  · exact triggerClaim_frame s
  · exact AirFrame.refl s

theorem recomputeDemand_frame (s : State) : AirFrame s (recomputeDemand s) := by
  unfold recomputeDemand
  split
  · exact AirFrame.refl s
  · refine AirFrame.trans ?_ ((judgeShortfall_frame _).trans (testTrigger_frame _))
    refine AirFrame.trans (AirFrame.setAir s
      { s.air with
        demand := s.air.demandNow s.loader.settings
        minimum := s.air.minimumNow s.loader.settings
        claimClass := claimClassOf s.air.regime s.air.mode } rfl) ?_
    dsimp only
    split
    · exact AirFrame.refl _
    · exact regrant_frame _

theorem setCo2_frame (ppm : Nat) (s : State) : AirFrame s (setCo2 ppm s) :=
  (AirFrame.setAir s { s.air with co2 := ppm } rfl).trans (alertIs_frame _ _ _).toAir

theorem airOccupancy_frame (e : OccupancyEvent) (s : State) : AirFrame s (airOccupancy e s) := by
  unfold airOccupancy
  split
  · exact AirFrame.refl s
  · exact (AirFrame.setAir s { s.air with count := e.count, vacant := e.vacant } rfl).trans (recomputeDemand_frame _)

theorem airRegime_frame (n : RegimeNotice) (s : State) : AirFrame s (airRegime n s) :=
  (AirFrame.setAir s { s.air with regime := n.regime, mode := n.mode, preparingHead := n.head } rfl).trans
    (recomputeDemand_frame _)

theorem airBoost_frame (on : Bool) (s : State) : AirFrame s (airBoost on s) :=
  (AirFrame.setAir s { s.air with boost := on } rfl).trans (recomputeDemand_frame _)

theorem airClaimNotice_frame (s : State) : AirFrame s (airClaimNotice s) := by
  unfold airClaimNotice
  split
  · exact (regrant_frame s).trans (judgeShortfall_frame _)
  · exact AirFrame.refl s

/-- An assertion: from the state in which the Air Controller has taken it. -/
theorem airAssertion_frame (s : State) :
    AirFrame (s.setAir { s.air with emergency := true, grant := 0, refreshTimer := none }) (airAssertion s) :=
  (setCommand_frame 0 _).trans ((judgeShortfall_frame _).trans (triggerClaim_frame _))

/-- A release: from the state in which the Air Controller has taken it. -/
theorem airRelease_frame (s : State) : AirFrame (s.setAir { s.air with emergency := false }) (airRelease s) := by
  unfold airRelease
  dsimp only
  split
  · exact (regrant_frame _).trans ((judgeShortfall_frame _).trans (triggerClaim_frame _))
  · exact setCommand_frame _ _

theorem computeDemand_frame (s : State) : AirFrame s (computeDemand s) := AirFrame.setAir s _ rfl

theorem startCommand_frame (s : State) : AirFrame s (startCommand s) := by
  unfold startCommand
  split
  · exact AirFrame.refl s
  · split
    · exact setGrant_frame _ s
    · exact setCommand_frame _ s

/-- The start: from the values of R103 before demand and grant are computed. -/
theorem airStart_frame (s : State) : AirFrame (s.setAir s.airAtStart) (airStart s) := by
  unfold airStart
  dsimp only
  split
  · exact (computeDemand_frame _).trans ((startCommand_frame _).trans ((compareDamper_frame _).trans
      ((judgeShortfall_frame _).trans (triggerClaim_frame _))))
  · exact (startCommand_frame _).trans (compareDamper_frame _)

theorem airRestart_frame (s : State) : AirFrame s (airRestart s) := by
  unfold airRestart
  split
  · exact (computeDemand_frame _).trans ((regrant_frame _).trans ((judgeShortfall_frame _).trans (triggerClaim_frame _)))
  · exact AirFrame.refl s

theorem takeCo2_frame (ppm : Nat) (s : State) : AirFrame s (takeCo2 ppm s) := by
  unfold takeCo2
  refine AirFrame.trans (AirFrame.setAir s { s.air with co2State := .live, co2Timer := s.timer (minutes 15) } rfl) ?_
  refine AirFrame.trans (setCo2_frame (clamp 300 5000 ppm) _) ?_
  dsimp only
  refine AirFrame.trans ?_ (recomputeDemand_frame _)
  split
  · exact (clearAlert_frame _ _).toAir
  · exact AirFrame.refl _

theorem loseCo2_frame (s : State) : AirFrame s (loseCo2 s) :=
  (AirFrame.setAir s { s.air with co2State := .lost, co2Timer := none } rfl).trans
    ((setCo2_frame _ _).trans ((raiseAlert_frame _ _).toAir.trans (recomputeDemand_frame _)))

theorem closeRateWindow_frame (s : State) : AirFrame s (closeRateWindow s) := by
  unfold closeRateWindow
  refine AirFrame.trans (AirFrame.setAir s { s.air with rateWindow := none, pendingTrigger := false } rfl) ?_
  dsimp only
  split
  · exact offerClaim_frame _
  · exact AirFrame.refl _

end Sys2Proof.Machine
end

