-- ==== Sys2Proof/Laws/Light.lean ====
section
/-!
SUPPORT. The Light Controller's operations change the Light Controller alone.
-/

namespace Sys2Proof.Machine

theorem LightOnly.refl (s : State) : LightOnly s s := ⟨s.light, rfl, rfl⟩

theorem LightOnly.trans {s t u : State} (h : LightOnly s t) (k : LightOnly t u) : LightOnly s u := by
  obtain ⟨l, hl, rfl⟩ := h
  obtain ⟨m, hm, rfl⟩ := k
  exact ⟨m, hm.trans hl, rfl⟩

theorem LightOnly.toRoom {s t : State} (h : LightOnly s t) : RoomFrame s t := by
  obtain ⟨l, hl, rfl⟩ := h
  exact RoomFrame.setLight s l hl

theorem LightOnly.air {s t : State} (h : LightOnly s t) : t.air = s.air := by obtain ⟨_, _, rfl⟩ := h; rfl
theorem LightOnly.blind {s t : State} (h : LightOnly s t) : t.blind = s.blind := by obtain ⟨_, _, rfl⟩ := h; rfl
theorem LightOnly.panel {s t : State} (h : LightOnly s t) : t.panel = s.panel := by obtain ⟨_, _, rfl⟩ := h; rfl
theorem LightOnly.bus {s t : State} (h : LightOnly s t) : t.bus = s.bus := by obtain ⟨_, _, rfl⟩ := h; rfl
theorem LightOnly.alert {s t : State} (h : LightOnly s t) : t.alert = s.alert := by obtain ⟨_, _, rfl⟩ := h; rfl

theorem withLight_only (change : Light → Light) (keep : ∀ l, (change l).emergency = l.emergency) (s : State) :
    LightOnly s (withLight change s) := ⟨change s.light, keep _, rfl⟩

@[simp] theorem mapFollowing_emergency (l : Light) (f : Group → Group) : (l.mapFollowing f).emergency = l.emergency := rfl

@[simp] theorem fadeAll_emergency (l : Light) (target now : Nat) : (l.fadeAll target now).emergency = l.emergency := rfl

@[simp] theorem rescene_emergency (l : Light) (now : Nat) : (l.rescene now).emergency = l.emergency := by
  unfold Light.rescene
  dsimp only
  split
  · rfl
  · split
    · rfl
    · split <;> rfl

@[simp] theorem pin_emergency (l : Light) (now : Nat) : (l.pin now).emergency = l.emergency := by
  unfold Light.pin
  split <;> rfl

@[simp] theorem pin_warning (l : Light) (now : Nat) : (l.pin now).warning = l.warning := by
  unfold Light.pin
  split <;> rfl

@[simp] theorem pin_scene (l : Light) (now : Nat) : (l.pin now).scene = l.scene := by
  unfold Light.pin
  split <;> rfl

/-- All the pin does to a group: it leaves it, or gives a WINDOW group that is not hand-select a fade to the lit scene's INNER
level (R131). -/
theorem mem_pin (l : Light) (now : Nat) (g : Group) (h : g ∈ (l.pin now).groups) :
    g ∈ l.groups ∨ (l.scene ≠ .off ∧ g.window = true ∧ g.handSelect = false ∧ g.target = l.scene.innerLevel) := by
  unfold Light.pin at h
  split at h
  · rename_i lit
    obtain ⟨g', mem, rfl⟩ := List.mem_map.mp h
    by_cases hand : g'.handSelect = true
    · exact .inl (by simpa [hand] using mem)
    · by_cases win : g'.window = true
      · exact .inr (by simpa [hand, win, Group.fadeTo, Scene.lit] using lit)
      · exact .inl (by simpa [hand, win] using mem)
  · exact .inl h

theorem lightRegime_only (n : RegimeNotice) (s : State) : LightOnly s (lightRegime n s) :=
  by refine ⟨_, ?_, rfl⟩; simp

theorem lightOccupancy_only (e : OccupancyEvent) (s : State) : LightOnly s (lightOccupancy e s) := by
  unfold lightOccupancy
  split
  · exact LightOnly.refl s
  · refine ⟨_, ?_, rfl⟩; simp

theorem lightOffset_only (offset : Int) (s : State) : LightOnly s (lightOffset offset s) :=
  by refine ⟨_, ?_, rfl⟩; rfl

theorem motionStarted_only (s : State) : LightOnly s (motionStarted s) := by refine ⟨_, ?_, rfl⟩; rfl

theorem motionStopped_only (s : State) : LightOnly s (motionStopped s) :=
  by refine ⟨_, ?_, rfl⟩; dsimp only; split <;> rfl

theorem lightRestart_only (s : State) : LightOnly s (lightRestart s) :=
  by refine ⟨_, ?_, rfl⟩; dsimp only; split <;> rfl

theorem takePhoto_only (lux : Nat) (s : State) : LightOnly s (takePhoto lux s) := by refine ⟨_, ?_, rfl⟩; rfl

theorem losePhoto_only (s : State) : LightOnly s (losePhoto s) := by refine ⟨_, ?_, rfl⟩; simp

theorem harvestTick_only (due : Nat) (s : State) : LightOnly s (harvestTick due s) := by
  unfold harvestTick
  dsimp only
  have h := withLight_only ({ · with harvestTimer := some (due + seconds 10) }) (fun _ => rfl) s
  split
  · exact h
  · split
    · exact h.trans (by refine ⟨_, ?_, rfl⟩; rfl)
    · exact h

/-- The harvest hold is the one thing the blinds move in the Light Controller (R133). -/
theorem motionStarted_hold (s : State) : motionStarted s = s.setLight { s.light with hold := .held } := rfl

theorem motionStopped_light (s : State) :
    (motionStopped s).light = { s.light with hold := (motionStopped s).light.hold } := by
  unfold motionStopped withLight
  simp only [State.setLight_light]
  split <;> rfl

theorem motionStarted_frame (s : State) : BlindFrame s (motionStarted s) :=
  ⟨(motionStarted_only s).toRoom, rfl, rfl, rfl⟩

theorem motionStopped_frame (s : State) : BlindFrame s (motionStopped s) :=
  ⟨(motionStopped_only s).toRoom, rfl, motionStopped_light s, rfl⟩

end Sys2Proof.Machine
end

