-- ==== Sys2Proof/Laws/Drives.lean ====
section
/-!
SUPPORT. The operations on drives change the Blind Controller, the harvest hold, the transmit side of the Bus Port and the
alert set, and nothing else.
-/

namespace Sys2Proof.Machine

/-! ### Changes of the Blind Controller's own state -/

@[simp] theorem mapDrive_emergency (b : Blind) (n : Nat) (f : Drive → Drive) : (b.mapDrive n f).emergency = b.emergency := by
  unfold Blind.mapDrive
  split <;> rfl

/-- A run of changes each of which keeps a value keeps it. -/
theorem foldl_keeps {α β γ : Type} (g : β → γ) (act : β → α → β) (keep : ∀ b a, g (act b a) = g b) :
    ∀ (xs : List α) (b : β), g (xs.foldl act b) = g b
  | [], _ => rfl
  | a :: rest, b => (foldl_keeps g act keep rest (act b a)).trans (keep b a)

theorem withBlind_frame (change : Blind → Blind) (s : State) (keep : (change s.blind).emergency = s.blind.emergency) :
    BlindFrame s (withBlind change s) := BlindFrame.setBlind s _ keep

/-- A run of acts keeps a relation each act keeps. -/
theorem eachAnswered_rel {α : Type} (R : State → State → Prop) (refl : ∀ s, R s s)
    (trans : ∀ {s t u}, R s t → R t u → R s u) (act : α → State → State × Bool) (keep : ∀ a s, R s (act a s).1) :
    ∀ (xs : List α) (s : State), R s (eachAnswered act xs s).1
  | [], s => refl s
  | a :: rest, s => trans (keep a s) (eachAnswered_rel R refl trans act keep rest (act a s).1)

/-- A run of acts keeps a property each act keeps. -/
theorem eachAnswered_keeps {α : Type} (P : State → Prop) (act : α → State → State × Bool)
    (keep : ∀ a s, P s → P (act a s).1) : ∀ (xs : List α) (s : State), P s → P (eachAnswered act xs s).1
  | [], _, h => h
  | a :: rest, s, h => eachAnswered_keeps P act keep rest (act a s).1 (keep a s h)

/-! ### Stopping -/

theorem offerFeederEnd_frame (drives : Nat) (s : State) : QuietFrame s (offerFeederEnd drives s) := offer_frame _ s

theorem announceHalt_frame (s : State) : QuietFrame s (announceHalt s) := by
  unfold announceHalt
  split
  · exact QuietFrame.refl s
  · exact offerFeederEnd_frame 1 s

theorem hearHalt_frame (s : State) : BlindFrame s (hearHalt s) := by
  unfold hearHalt
  split
  · exact motionStopped_frame s
  · exact BlindFrame.refl s

theorem haltDrive_frame (number : Nat) (position : Option Nat) (s : State) : BlindFrame s (haltDrive number position s) :=
  (withBlind_frame (·.mapDrive number (·.halt position)) s (by simp)).trans
    ((announceHalt_frame _).toBlind.trans (hearHalt_frame _))

theorem retake_frame (number : Nat) (s : State) : BlindFrame s (retake number s) := withBlind_frame _ s (by simp)

theorem haltAtLimit_frame (number : Nat) (s : State) : BlindFrame s (haltAtLimit number s) := by
  unfold haltAtLimit
  split
  · exact BlindFrame.refl s
  · split
    · exact BlindFrame.refl s
    · exact (haltDrive_frame _ _ s).trans ((withBlind_frame _ _ (by simp)).trans (retake_frame _ _))

/-! ### Entering RUNNING -/

theorem startMotors_frame (numbers : List Nat) (s : State) : BlindFrame s (startMotors numbers s) := by
  have h := withBlind_frame (fun b => numbers.foldl (fun b n => b.mapDrive n (·.startMotor s.now)) b) s
    (foldl_keeps Blind.emergency _ (fun b n => by simp) numbers s.blind)
  unfold startMotors
  dsimp only
  split
  · exact h.trans (motionStarted_frame _)
  · exact h

theorem checkLimit_frame (number : Nat) (s : State) : BlindFrame s (checkLimit number s) := by
  unfold checkLimit
  split
  · exact haltAtLimit_frame number s
  · exact BlindFrame.refl s

theorem enterRunning_frame (numbers : List Nat) (s : State) : BlindFrame s (enterRunning numbers s) :=
  (startMotors_frame numbers s).trans (forEach_rel BlindFrame BlindFrame.refl BlindFrame.trans _ checkLimit_frame numbers _)

/-! ### The façade feeder -/

theorem backOff_frame (group : Nat) (s : State) : BlindFrame s (backOff group s) := withBlind_frame _ s rfl

theorem planGroup_frame (group : Nat) (s : State) : BlindFrame s (planGroup group s) :=
  withBlind_frame _ s (foldl_keeps Blind.emergency _ (fun b n => by simp) _ s.blind)

theorem awaitReport_frame (group drives : Nat) (s : State) : BlindFrame s (awaitReport group drives s) :=
  withBlind_frame _ s rfl

theorem askFeeder_frame (group : Nat) (numbers : List Nat) (s : State) : BlindFrame s (askFeeder group numbers s).1 := by
  have h : BlindFrame s (awaitReport group numbers.length (offerAnswered (s.feederStart numbers) s).1) :=
    (offerAnswered_frame _ s).toBlind.trans (awaitReport_frame _ _ _)
  unfold askFeeder
  dsimp only
  split
  · exact h
  · exact h.trans (backOff_frame _ _)

theorem feederCheck_frame (group : Nat) (s : State) : BlindFrame s (feederCheck group s).1 := by
  unfold feederCheck
  dsimp only
  split
  · exact planGroup_frame group s
  · split
    · exact planGroup_frame group s
    · exact (planGroup_frame group s).trans (askFeeder_frame _ _ _)

theorem recheckGroups_frame (s : State) : BlindFrame s (recheckGroups s).1 :=
  eachAnswered_rel BlindFrame BlindFrame.refl BlindFrame.trans feederCheck feederCheck_frame _ s

/-! ### The stage -/

theorem formGroup_frame (numbers : List Nat) (s : State) : BlindFrame s (formGroup numbers s) :=
  withBlind_frame _ s (foldl_keeps Blind.emergency _ (fun b n => by simp) _ s.blind)

theorem launchGroup_frame (numbers : List Nat) (s : State) : BlindFrame s (launchGroup numbers s).1 := by
  unfold launchGroup
  dsimp only
  split
  · exact (formGroup_frame numbers s).trans (enterRunning_frame numbers _)
  · exact (formGroup_frame numbers s).trans (feederCheck_frame _ _)

theorem grantSlots_frame (s : State) : BlindFrame s (grantSlots s).1 :=
  eachAnswered_rel BlindFrame BlindFrame.refl BlindFrame.trans launchGroup launchGroup_frame _ s

theorem settleStage_frame : ∀ (rounds : Nat) (recheck : Bool) (s : State), BlindFrame s (settleStage rounds recheck s)
  | 0, _, s => BlindFrame.refl s
  | n + 1, recheck, s => by
    unfold settleStage
    split
    · exact BlindFrame.refl s
    · dsimp only
      split
      · have h := (grantSlots_frame s).trans (recheckGroups_frame (grantSlots s).1)
        split
        · exact h.trans (settleStage_frame n true _)
        · exact h
      · split
        · exact (grantSlots_frame s).trans (settleStage_frame n true _)
        · exact grantSlots_frame s

/-! ### Taking a target -/

theorem dropHand_frame (s : State) : BlindFrame s (dropHand s) := by
  unfold dropHand
  split
  · exact BlindFrame.refl s
  · exact withBlind_frame _ s rfl
  · exact (withBlind_frame (fun b => { b with hand := .nothing }) s rfl).trans (offerFeederEnd_frame _ _).toBlind

theorem withdrawGroup_frame (group : Nat) (s : State) : BlindFrame s (withdrawGroup group s) :=
  (dropHand_frame s).trans (withBlind_frame _ _ rfl)

/-- All that the taking of a target can do to a drive (R154): nothing, the target taken again, its slot released, its SETTLING
group withdrawn, or its run stopped. What holds after each holds after it. -/
theorem takeTarget_elim {P : State → Prop} {number : Nat} {s : State} (same : P s) (again : P (retake number s))
    (released : P (withBlind (·.mapDrive number (·.release .stopped)) s)) (withdrawn : ∀ group, P (withdrawGroup group s))
    (stopped : ∀ position, P (retake number (haltDrive number position s))) : P (takeTarget number s) := by
  unfold takeTarget
  dsimp only
  repeat' split
  all_goals first | exact same | exact again | exact released | exact withdrawn _ | exact stopped _

theorem takeTarget_frame (number : Nat) (s : State) : BlindFrame s (takeTarget number s) :=
  takeTarget_elim (BlindFrame.refl s) (retake_frame _ s) (withBlind_frame _ s (by simp)) (withdrawGroup_frame · s)
    fun _ => (haltDrive_frame _ _ s).trans (retake_frame _ _)

theorem takeTargets_frame (s : State) : BlindFrame s (takeTargets s) := by
  unfold takeTargets
  refine BlindFrame.trans ?_ (settleStage_frame _ _ _)
  refine BlindFrame.trans ?_ (withBlind_frame Blind.pruneBackoffs _ rfl)
  exact forEach_rel BlindFrame BlindFrame.refl BlindFrame.trans _ takeTarget_frame _ s

/-! ### Reports and the settle window -/

theorem openWindow_frame (group drives : Nat) (s : State) : BlindFrame s (openWindow group drives s) :=
  BlindFrame.setBlind s _ rfl

theorem orphanReport_frame (sent : Bool) (tag : Nat) (s : State) : BlindFrame s (orphanReport sent tag s) := by
  unfold orphanReport
  split
  · exact BlindFrame.refl s
  · dsimp only
    split
    · exact (withBlind_frame (fun b => { b with orphans := b.orphans.filter (·.tag != tag) }) s rfl).trans
        (offerFeederEnd_frame _ _).toBlind
    · exact withBlind_frame _ s rfl

theorem feederReport_frame (sent : Bool) (tag : Nat) (s : State) : BlindFrame s (feederReport sent tag s) := by
  unfold feederReport
  split
  · split
    · split
      · exact openWindow_frame _ _ s
      · exact (backOff_frame _ s).trans (settleStage_frame _ _ _)
    · exact orphanReport_frame _ _ s
  · exact orphanReport_frame _ _ s
  · exact orphanReport_frame _ _ s

theorem startHeard_frame (peer : Byte) (drives arrival : Nat) (s : State) : BlindFrame s (startHeard peer drives arrival s) := by
  unfold startHeard
  split
  · split
    · exact BlindFrame.setBlind s _ rfl
    · exact BlindFrame.refl s
  · exact BlindFrame.refl s
  · exact BlindFrame.refl s

theorem closeWindow_frame (s : State) : BlindFrame s (closeWindow s) := by
  unfold closeWindow
  split
  · dsimp only
    refine BlindFrame.trans (withBlind_frame (fun b => { b with hand := .nothing }) s rfl) ?_
    refine BlindFrame.trans ?_ (settleStage_frame _ _ _)
    split
    · exact enterRunning_frame _ _
    · exact (offerFeederEnd_frame _ _).toBlind.trans (backOff_frame _ _)
  · exact BlindFrame.refl s
  · exact BlindFrame.refl s

end Sys2Proof.Machine
end

