-- ==== Sys2Proof/Laws/Blind.lean ====
section
/-!
SUPPORT. The Blind Controller's operations change the Blind Controller, the harvest hold, the transmit side of the Bus Port
and the alert set, and nothing else.
-/

namespace Sys2Proof.Machine

/-! ### Applying a target -/

theorem applyWanted_frame (s : State) : BlindFrame s (applyWanted s) :=
  (withBlind_frame (fun b => { b with applied := b.wanted, dwellTimer := s.timer (minutes 10), latched := false }) s rfl).trans
    (takeTargets_frame _)

theorem rework_frame (s : State) : BlindFrame s (rework s) := withBlind_frame _ s rfl

theorem reapply_frame (s : State) : BlindFrame s (reapply s) := (rework_frame s).trans (applyWanted_frame _)

theorem policyEvent_frame (glare : Bool) (s : State) : BlindFrame s (policyEvent glare s) := by
  unfold policyEvent
  dsimp only
  split
  · exact rework_frame s
  · split
    · exact (rework_frame s).trans (withBlind_frame _ _ rfl)
    · split
      · exact (rework_frame s).trans (withBlind_frame _ _ rfl)
      · exact (rework_frame s).trans (applyWanted_frame _)

/-! ### The glare value -/

theorem setGlare_frame (glare : Nat) (s : State) : BlindFrame s (setGlare glare s) := by
  have h := withBlind_frame (fun b => { b with glare := glare, glaring := glaringAt glare b.glaring }) s rfl
  unfold setGlare
  dsimp only
  split
  · exact h.trans (policyEvent_frame _ _)
  · exact h

theorem recomputeGlare_frame (s : State) : BlindFrame s (recomputeGlare s) := by
  unfold recomputeGlare
  split
  · split
    · exact BlindFrame.refl s
    · exact withBlind_frame _ s rfl
  · exact (withBlind_frame (fun b => { b with holdTimer := none }) s rfl).trans
      ((clearAlert_frame _ _).toBlind.trans (setGlare_frame _ _))

/-! ### Sun readings -/

theorem offerSun_frame (r : SunSample) (s : State) : BlindFrame s (offerSun r s) :=
  (withBlind_frame (fun b => { b with lastSent := some r.glare, sendTimer := s.timer (seconds 60) }) s rfl).trans
    (offer_frame _ _).toBlind

theorem takeSun_frame (glare klux : Nat) (s : State) : BlindFrame s (takeSun glare klux s) := by
  unfold takeSun
  split
  · dsimp only
    refine BlindFrame.trans (withBlind_frame (fun b =>
      { b with own := some { glare := min glare 100, klux := min klux 150 }, ageTimer := s.timer (seconds 120) }) s rfl) ?_
    refine BlindFrame.trans (recomputeGlare_frame _) ?_
    split
    · exact offerSun_frame _ _
    · split
      · exact offerSun_frame _ _
      · exact BlindFrame.refl _
  · exact BlindFrame.refl s

theorem sendSun_frame (s : State) : BlindFrame s (sendSun s) := by
  unfold sendSun
  split
  · exact offerSun_frame _ s
  · exact withBlind_frame _ s rfl

theorem loseSun_frame (s : State) : BlindFrame s (loseSun s) :=
  (withBlind_frame (fun b => { b with holdTimer := none }) s rfl).trans
    ((raiseAlert_frame _ _).toBlind.trans (setGlare_frame _ _))

/-! ### Events from other blocks -/

theorem blindRegime_frame (n : RegimeNotice) (s : State) : BlindFrame s (blindRegime n s) :=
  (withBlind_frame (fun b => { b with regime := n.regime, mode := n.mode }) s rfl).trans (policyEvent_frame _ _)

theorem blindOccupancy_frame (e : OccupancyEvent) (s : State) : BlindFrame s (blindOccupancy e s) := by
  unfold blindOccupancy
  split
  · exact BlindFrame.refl s
  · exact (withBlind_frame (fun b => { b with vacant := e.vacant }) s rfl).trans (policyEvent_frame _ _)

theorem blindTarget_frame (target : Option Nat) (s : State) : BlindFrame s (blindTarget target s) :=
  (withBlind_frame (fun b => { b with override := target }) s rfl).trans (policyEvent_frame _ _)

theorem cutShort_frame (number : Nat) (s : State) : BlindFrame s (cutShort number s) := by
  unfold cutShort
  split
  · exact BlindFrame.refl s
  · exact haltDrive_frame _ _ s

theorem cutShorts_frame (numbers : List Nat) (s : State) : BlindFrame s (forEach numbers cutShort s) :=
  forEach_rel BlindFrame BlindFrame.refl BlindFrame.trans _ cutShort_frame numbers s

theorem standDown_frame (s : State) : BlindFrame s (withBlind Blind.standDown s) := withBlind_frame _ s rfl

/-- An assertion: from the state in which the Blind Controller has taken it. -/
theorem blindAssertion_frame (s : State) :
    BlindFrame (s.setBlind { s.blind with emergency := true }) (blindAssertion s) :=
  (cutShorts_frame _ _).trans ((dropHand_frame _).trans (standDown_frame _))

/-- A release: from the state in which the Blind Controller has taken it. -/
theorem blindRelease_frame (s : State) :
    BlindFrame (s.setBlind { s.blind with emergency := false }) (blindRelease s) := reapply_frame _

theorem blindRestart_frame (s : State) : BlindFrame s (blindRestart s) := by
  have h : BlindFrame s (withBlind Blind.standDown
      (dropHand (withBlind (fun b => { b with orphans := [] }) (forEach (s.blind.inState .running) cutShort s)))) :=
    (cutShorts_frame _ s).trans ((withBlind_frame _ _ rfl).trans ((dropHand_frame _).trans (standDown_frame _)))
  unfold blindRestart
  dsimp only
  split
  · exact h
  · exact h.trans (reapply_frame _)

theorem restoreDrives_frame (s : State) : BlindFrame s (restoreDrives s) :=
  (withBlind_frame (fun b => { b with drives := b.drives.map (fun d => if d.inService then d else d.restore) }) s rfl).trans
    (clearAlert_frame _ _).toBlind

theorem takeTargetsOf_frame (numbers : List Nat) (s : State) : BlindFrame s (forEach numbers takeTarget s) :=
  forEach_rel BlindFrame BlindFrame.refl BlindFrame.trans _ takeTarget_frame numbers s

theorem blindClear_frame (s : State) : BlindFrame s (blindClear s) := by
  unfold blindClear
  split
  · exact BlindFrame.refl s
  · split
    · exact restoreDrives_frame s
    · exact (restoreDrives_frame s).trans ((takeTargetsOf_frame _ _).trans (settleStage_frame _ _ _))

/-! ### Commands -/

theorem endDwell_frame (s : State) : BlindFrame s (endDwell s) := by
  have h := withBlind_frame (fun b => { b with dwellTimer := none, latched := false }) s rfl
  unfold endDwell
  dsimp only
  split
  · exact h.trans (applyWanted_frame _)
  · exact h

theorem endBackoff_frame (group : Nat) (s : State) : BlindFrame s (endBackoff group s) := by
  have h := withBlind_frame (fun b => { b with backoffs := b.backoffs.filter (·.group != group) }) s rfl
  unfold endBackoff
  dsimp only
  split
  · exact (h.trans (feederCheck_frame group _)).trans (settleStage_frame _ _ _)
  · exact h.trans (feederCheck_frame group _)

theorem takeLimit_frame (number : Nat) (limit : Limit) (active : Bool) (s : State) :
    BlindFrame s (takeLimit number limit active s) := by
  unfold takeLimit
  split
  · exact BlindFrame.refl s
  · have h := withBlind_frame (·.mapDrive number fun d => { d with limits := d.limits.set limit active }) s (by simp)
    dsimp only
    split
    · exact h.trans ((haltAtLimit_frame _ _).trans (settleStage_frame _ _ _))
    · exact h

theorem endIntermediate_frame (number goal : Nat) (s : State) : BlindFrame s (endIntermediate number goal s) :=
  (haltDrive_frame _ _ s).trans ((retake_frame _ _).trans (settleStage_frame _ _ _))

theorem stallDrive_frame (number : Nat) (s : State) : BlindFrame s (stallDrive number s) := by
  have h := (haltDrive_frame number none s).trans
    (withBlind_frame (·.mapDrive number Drive.stall) (haltDrive number none s) (by simp))
  unfold stallDrive
  dsimp only
  refine BlindFrame.trans ?_ (settleStage_frame _ _ _)
  split
  · exact h.trans (raiseAlert_frame _ _).toBlind
  · exact h.trans (retake_frame _ _)

end Sys2Proof.Machine
end

