-- ==== Sys2Proof/Laws/Panel.lean ====
section
/-!
SUPPORT. The Override Unit's operations change the Override Unit and, by its notices, the Air, Light and Blind blocks, the
transmit side of the Bus Port and the alert set, and nothing else.
-/

namespace Sys2Proof.Machine

theorem withPanel_frame (change : Panel → Panel) (s : State) (keep : (change s.panel).emergency = s.panel.emergency) :
    RoomFrame s (withPanel change s) := RoomFrame.setPanel s _ keep

theorem writeRecord_frame (cause : OverrideCause) (value : Int) (s : State) : RoomFrame s (writeRecord cause value s) :=
  withPanel_frame _ s rfl

theorem resetOverride_frame (cause : OverrideCause) (value : Int) (s : State) : RoomFrame s (resetOverride cause value s) :=
  (withPanel_frame _ s rfl).trans (writeRecord_frame cause value _)

theorem returnOffset_frame (held : Panel) (s : State) : RoomFrame s (returnOffset held s) := by
  unfold returnOffset
  split
  · exact RoomFrame.refl s
  · exact (lightOffset_only _ s).toRoom

theorem returnBoost_frame (held : Panel) (s : State) : RoomFrame s (returnBoost held s) := by
  unfold returnBoost
  split
  · exact (airBoost_frame _ s).toRoomFrame
  · exact RoomFrame.refl s

theorem returnTarget_frame (held : Panel) (s : State) : RoomFrame s (returnTarget held s) := by
  unfold returnTarget
  split
  · exact (blindTarget_frame _ s).toRoomFrame
  · exact RoomFrame.refl s

theorem endOverride_frame (cause : OverrideCause) (value : Int) (s : State) : RoomFrame s (endOverride cause value s) :=
  (resetOverride_frame _ _ s).trans ((returnOffset_frame _ _).trans ((returnBoost_frame _ _).trans (returnTarget_frame _ _)))

theorem endIfOn_frame (cause : OverrideCause) (s : State) : RoomFrame s (endIfOn cause s) := by
  unfold endIfOn
  split
  · exact endOverride_frame _ _ s
  · split
    · exact writeRecord_frame _ _ s
    · exact RoomFrame.refl s

theorem moveOffset_frame (step : Int) (s : State) : RoomFrame s (moveOffset step s) := by
  unfold moveOffset
  dsimp only
  split
  · exact (withPanel_frame (fun p => { p with offset := s.panel.offset + step }) s rfl).trans (lightOffset_only _ _).toRoom
  · exact endOverride_frame _ _ s

theorem moveTarget_frame (step : Int) (s : State) : RoomFrame s (moveTarget step s) := by
  unfold moveTarget
  dsimp only
  split
  · exact RoomFrame.refl s
  · exact (withPanel_frame _ s rfl).trans (blindTarget_frame _ _).toRoomFrame

theorem pressAir_frame (s : State) : RoomFrame s (pressAir s) := by
  unfold pressAir
  split
  · exact endOverride_frame _ _ s
  · split
    · exact endOverride_frame _ _ s
    · exact (withPanel_frame (fun p => { p with boost := true }) s rfl).trans (airBoost_frame _ _).toRoomFrame

theorem keyWhileOn_frame (key : Key) (s : State) : RoomFrame s (keyWhileOn key s) := by
  unfold keyWhileOn
  split
  · exact moveOffset_frame _ s
  · exact moveOffset_frame _ s
  · exact moveTarget_frame _ s
  · exact moveTarget_frame _ s
  · exact pressAir_frame s
  · exact endOverride_frame _ _ s

theorem pressKey_frame (key : Key) (s : State) : RoomFrame s (pressKey key s) := by
  unfold pressKey
  split
  · exact keyWhileOn_frame key s
  · split
    · exact RoomFrame.refl s
    · split
      · exact (withPanel_frame (fun p => { p with on := true, blinkTimer := none }) s rfl).trans (keyWhileOn_frame key _)
      · exact withPanel_frame _ s rfl

theorem panelRegime_frame (n : RegimeNotice) (s : State) : RoomFrame s (panelRegime n s) := by
  have h := withPanel_frame (fun p => { p with regime := n.regime, mode := n.mode }) s rfl
  unfold panelRegime
  dsimp only
  split
  · exact h.trans (endIfOn_frame _ _)
  · exact h

theorem panelBoundary_frame (s : State) : RoomFrame s (panelBoundary s) := endIfOn_frame _ s

theorem panelOccupancy_frame (e : OccupancyEvent) (s : State) : RoomFrame s (panelOccupancy e s) := by
  have h := withPanel_frame (fun p => { p with vacant := e.vacant }) s rfl
  unfold panelOccupancy
  dsimp only
  split
  · exact h.trans (endIfOn_frame _ _)
  · exact h

/-- An assertion: from the state in which the Override Unit has taken it. -/
theorem panelAssertion_frame (s : State) :
    RoomFrame (s.setPanel { s.panel with emergency := true }) (panelAssertion s) := endIfOn_frame _ _

theorem panelRestart_frame (s : State) : RoomFrame s (panelRestart s) :=
  (endIfOn_frame .restart s).trans (withPanel_frame _ _ rfl)

theorem panelClear_frame (s : State) : RoomFrame s (panelClear s) := withPanel_frame _ s rfl

end Sys2Proof.Machine
end

