-- ==== Sys2Proof/Laws/Session.lean ====
section
/-!
SUPPORT. The Session Engine's operations change the Session Engine, the room's blocks, the transmit side of the Bus Port and
the alert set, and nothing else; a regime notice changes the room's blocks alone.
-/

namespace Sys2Proof.Machine

theorem takeRegime_frame (n : RegimeNotice) (b : Block) (s : State) : RoomFrame s (takeRegime n b s) := by
  cases b
  case air => exact (airRegime_frame n s).toRoomFrame
  case light => exact (lightRegime_only n s).toRoom
  case blind => exact (blindRegime_frame n s).toRoomFrame
  case panel => exact panelRegime_frame n s
  all_goals exact RoomFrame.refl s

theorem regimeNotice_frame (n : RegimeNotice) (blocks : List Block) (s : State) :
    RoomFrame s (fanOut blocks (takeRegime n) s) :=
  fanOut_rel RoomFrame RoomFrame.refl RoomFrame.trans _ (takeRegime_frame n) blocks s

theorem publishRegime_frame (minute : Nat) (s : State) : SessionFrame s (publishRegime minute s) := by
  unfold publishRegime
  dsimp only
  split
  · exact (SessionFrame.setSession s _).trans (regimeNotice_frame _ _ _).toSessionFrame
  · exact SessionFrame.setSession s _

/-- The regime of the entry states is what the engine holds after a derivation, and the list is as it was (R67). -/
theorem publishRegime_session (minute : Nat) (s : State) :
    (publishRegime minute s).session =
      { s.session with
          regime := (deriveRegime minute s.session.entries).regime
          mode := (deriveRegime minute s.session.entries).mode
          preparing := (deriveRegime minute s.session.entries).preparing
          preparingHead := (deriveRegime minute s.session.entries).head } := by
  unfold publishRegime
  dsimp only
  split
  · exact (regimeNotice_frame _ _ _).session
  · rfl

theorem offers_frame (frames : List Frame) (s : State) : QuietFrame s (forEach frames offer s) :=
  forEach_rel QuietFrame QuietFrame.refl QuietFrame.trans _ offer_frame frames s

theorem boundaries_frame (n : Nat) (s : State) :
    RoomFrame s (forEach (List.replicate n ()) (fun _ => panelBoundary) s) :=
  forEach_rel RoomFrame RoomFrame.refl RoomFrame.trans _ (fun _ => panelBoundary_frame) _ s

theorem finishWork_frame (minute : Nat) (w : EngineWork) (s : State) : SessionFrame s (finishWork minute w s) :=
  (SessionFrame.setSession s _).trans ((offers_frame w.reports _).toSessionFrame.trans
    ((publishRegime_frame _ _).trans (boundaries_frame w.boundaries _).toSessionFrame))

/-- The list after the engine's work is the list the work made, under the regime derived from it (R67). -/
theorem finishWork_session (minute : Nat) (w : EngineWork) (s : State) :
    (finishWork minute w s).session =
      { s.session with
          entries := w.entries
          regime := (deriveRegime minute w.entries).regime
          mode := (deriveRegime minute w.entries).mode
          preparing := (deriveRegime minute w.entries).preparing
          preparingHead := (deriveRegime minute w.entries).head } := by
  have h := offers_frame w.reports (s.setSession { s.session with entries := w.entries })
  unfold finishWork
  rw [(boundaries_frame _ _).session, publishRegime_session, h.session]
  rfl

theorem addTallies_frame (s : State) : SessionFrame s (addTallies s) :=
  (readShortfall_frame s).toSessionFrame.trans (SessionFrame.setSession _ _)

theorem takeMinute_frame (m : Nat) (s : State) : SessionFrame s (takeMinute m s) := by
  unfold takeMinute
  dsimp only
  refine SessionFrame.trans (SessionFrame.setSession s { s.session with lastMinute := some m }) ?_
  refine SessionFrame.trans ?_ (finishWork_frame _ _ _)
  split
  · exact addTallies_frame _
  · exact SessionFrame.refl _

theorem takeJump_frame (old new : Nat) (isForward : Bool) (s : State) : SessionFrame s (takeJump old new isForward s) :=
  (SessionFrame.setSession s { s.session with lastMinute := some new }).trans (finishWork_frame _ _ _)

theorem takeClockEvent_frame (e : ClockEvent) (s : State) : SessionFrame s (takeClockEvent e s) := by
  cases e
  · exact takeMinute_frame _ s
  · exact takeJump_frame _ _ _ s

theorem releaseEarly_frame (minute : Nat) (s : State) : SessionFrame s (releaseEarly minute s) := by
  unfold releaseEarly
  split
  · exact finishWork_frame _ _ s
  · exact SessionFrame.refl s

theorem markEntries_frame (count : Nat) (became : Bool) (s : State) : SessionFrame s (markEntries count became s) :=
  SessionFrame.setSession s _

theorem sessionOccupancy_frame (e : OccupancyEvent) (s : State) : SessionFrame s (sessionOccupancy e s) := by
  unfold sessionOccupancy
  split
  · exact SessionFrame.setSession s _
  · split
    · exact releaseEarly_frame _ s
    all_goals
      split
      · exact SessionFrame.refl s
      · exact markEntries_frame _ _ s

theorem catchUp_frame (s : State) : SessionFrame s (catchUp s) := by
  unfold catchUp
  dsimp only
  refine SessionFrame.trans (SessionFrame.setSession s { s.session with catchUp := false }) ?_
  split
  · split <;> split
    · exact (markEntries_frame _ _ _).trans (releaseEarly_frame _ _)
    · exact markEntries_frame _ _ _
    · exact releaseEarly_frame _ _
    · exact SessionFrame.refl _
  · exact SessionFrame.refl _

/-- The release of held events: from the state in which none is held any more. -/
theorem releaseHeld_frame (s : State) :
    SessionFrame (s.setIntake { s.intake with heldEvents := [] }) (releaseHeld s) :=
  (catchUp_frame _).trans (forEach_rel SessionFrame SessionFrame.refl SessionFrame.trans _ takeClockEvent_frame _ _)

end Sys2Proof.Machine
end

