-- ==== Sys2Proof/Laws/Intake.lean ====
section
/-!
SUPPORT. What the Timetable Intake and the Week Clock can change beside their own state: an arrival only offers frames; a
completed merge and a clock event reach the Session Engine and, by its notices, the room.
-/

namespace Sys2Proof.Machine

/-! ### Changes of the Intake -/

theorem QuietFrame.congrIntake {s t : State} (h : QuietFrame s t) (i : Intake) (d : Nat) :
    QuietFrame ((s.setDraws d).setIntake i) ((t.setDraws d).setIntake i) :=
  { h with draws := rfl, intake := rfl }

theorem SessionFrame.congrIntake {s t : State} (h : SessionFrame s t) (i : Intake) (d : Nat) :
    SessionFrame ((s.setDraws d).setIntake i) ((t.setDraws d).setIntake i) :=
  { h with draws := rfl, intake := rfl }

theorem IntakeOnly.refl (s : State) : IntakeOnly s s := ⟨s.intake, s.draws, QuietFrame.refl s⟩

theorem IntakeOnly.trans {s t u : State} (h : IntakeOnly s t) (k : IntakeOnly t u) : IntakeOnly s u := by
  obtain ⟨i, d, h⟩ := h
  obtain ⟨j, e, k⟩ := k
  exact ⟨j, e, (h.congrIntake j e).trans k⟩

theorem IntakeOnly.setIntake (s : State) (i : Intake) : IntakeOnly s (s.setIntake i) := ⟨i, s.draws, QuietFrame.refl _⟩

theorem QuietFrame.toIntake {s t : State} (h : QuietFrame s t) : IntakeOnly s t := ⟨s.intake, s.draws, h⟩

theorem MergeFrame.refl (s : State) : MergeFrame s s := ⟨s.intake, s.draws, SessionFrame.refl s⟩

theorem MergeFrame.trans {s t u : State} (h : MergeFrame s t) (k : MergeFrame t u) : MergeFrame s u := by
  obtain ⟨i, d, h⟩ := h
  obtain ⟨j, e, k⟩ := k
  exact ⟨j, e, (h.congrIntake j e).trans k⟩

theorem SessionFrame.toMerge {s t : State} (h : SessionFrame s t) : MergeFrame s t := ⟨s.intake, s.draws, h⟩

theorem IntakeOnly.toMerge {s t : State} (h : IntakeOnly s t) : MergeFrame s t := by
  obtain ⟨i, d, h⟩ := h
  exact ⟨i, d, h.toSessionFrame⟩

theorem IntakeOnly.session {s t : State} (h : IntakeOnly s t) : t.session = s.session := by
  obtain ⟨i, d, h⟩ := h
  exact h.session

/-! ### Arrival -/

theorem giveResult_frame (item : Item) (verdict : Verdict) (s : State) :
    QuietFrame (s.setIntake { s.intake with
      previous := s.intake.current
      current := some { id := item.id, kind := item.request.kind, verdict := verdict } }) (giveResult item verdict s) :=
  offer_frame _ _

theorem giveResult_only (item : Item) (verdict : Verdict) (s : State) : IntakeOnly s (giveResult item verdict s) :=
  ⟨_, s.draws, giveResult_frame item verdict s⟩

theorem paceSender_only (sender : Byte) (s : State) : IntakeOnly s (paceSender sender s) := by
  unfold paceSender
  split
  · exact IntakeOnly.refl s
  · dsimp only
    split
    · exact (offer_frame _ s).toIntake.trans (IntakeOnly.setIntake _ _)
    · exact (offer_frame _ s).toIntake

/-- The pacing of a sender moves the held-sender set and nothing else of the Intake. -/
theorem paceSender_intake (sender : Byte) (s : State) :
    (paceSender sender s).intake = { s.intake with heldSenders := (paceSender sender s).intake.heldSenders } := by
  unfold paceSender
  split
  · rfl
  · dsimp only
    split
    · rw [(offer_frame (Frame.plain .hold sender (depthBody s.intake.queue.length)) s).intake]; rfl
    · rw [(offer_frame (Frame.plain .hold sender (depthBody s.intake.queue.length)) s).intake]

theorem resumeSenders_frame (s : State) :
    resumeSenders s = s ∨
      QuietFrame ((s.setDraws (s.draws + 1)).setIntake { s.intake with heldSenders := [] }) (resumeSenders s) := by
  unfold resumeSenders
  split
  · exact .inl rfl
  · exact .inr (forEach_rel QuietFrame QuietFrame.refl QuietFrame.trans _ (fun _ _ => offer_frame _ _) _ _)

theorem resumeSenders_only (s : State) : IntakeOnly s (resumeSenders s) := by
  rcases resumeSenders_frame s with h | h
  · rw [h]; exact IntakeOnly.refl s
  · exact ⟨_, _, h⟩

theorem resumeSenders_intake (s : State) :
    (resumeSenders s).intake = { s.intake with heldSenders := (resumeSenders s).intake.heldSenders } := by
  rcases resumeSenders_frame s with h | h
  · rw [h]
  · rw [h.intake]; rfl

theorem beginMerge_only (s : State) : IntakeOnly s (beginMerge s) := by
  unfold beginMerge
  split
  · exact (IntakeOnly.setIntake s _).trans (resumeSenders_only _)
  · exact IntakeOnly.refl s

/-- A merge that begins takes the oldest item and is due after its length (R39); one that does not leaves the Intake. -/
theorem beginMerge_cases (s : State) :
    ((s.intake.merge ≠ none ∨ s.intake.queue = []) ∧ beginMerge s = s) ∨
      ∃ item rest, s.intake.merge = none ∧ s.intake.queue = item :: rest ∧
        (beginMerge s).intake =
          { s.intake with
              queue := rest
              merge := some { item := item, due := s.now + mergeLength s.session.entries.length }
              heldSenders := (beginMerge s).intake.heldSenders } := by
  unfold beginMerge
  split
  · rename_i item rest hm hq
    refine .inr ⟨item, rest, hm, hq, ?_⟩
    rw [resumeSenders_intake]; rfl
  · rename_i h
    refine .inl ⟨?_, rfl⟩
    cases hm : s.intake.merge with
    | some m => exact .inl (by simp)
    | none =>
      cases hq : s.intake.queue with
      | nil => exact .inr rfl
      | cons item rest => exact absurd hq (h item rest hm)

theorem arrive_only (item : Item) (s : State) : IntakeOnly s (arrive item s) := by
  unfold arrive
  split
  · split
    · exact (IntakeOnly.setIntake s _).trans ((paceSender_only _ _).trans (beginMerge_only _))
    · exact (giveResult_only _ _ s).trans (paceSender_only _ _)
  · exact giveResult_only _ _ s

/-! ### Completion and restart -/

theorem settleItem_frame (item : Item) (s : State) : MergeFrame s (settleItem item s) := by
  unfold settleItem
  dsimp only
  split
  · exact (finishWork_frame _ _ s).toMerge.trans (giveResult_only _ _ _).toMerge
  · exact (giveResult_only _ _ _).toMerge

theorem releaseHeld_merge (s : State) : MergeFrame s (releaseHeld s) := ⟨_, s.draws, releaseHeld_frame s⟩

theorem completeMerge_frame (item : Item) (s : State) : MergeFrame s (completeMerge item s) :=
  (settleItem_frame item s).trans ((releaseHeld_merge _).trans
    ((IntakeOnly.setIntake _ _).toMerge.trans (beginMerge_only _).toMerge))

theorem intakeRestart_frame (s : State) : MergeFrame s (intakeRestart s) :=
  (IntakeOnly.setIntake s _).toMerge.trans ((releaseHeld_merge _).trans (IntakeOnly.setIntake _ _).toMerge)

/-! ### The Week Clock -/

/-- Where a clock event goes: to the held events while a merge is in flight, to the Session Engine otherwise (R40). -/
theorem sendClockEvent_cases (e : ClockEvent) (s : State) :
    (s.intake.merge ≠ none ∧
        sendClockEvent e s = s.setIntake { s.intake with heldEvents := s.intake.heldEvents ++ [e] }) ∨
      (s.intake.merge = none ∧ sendClockEvent e s = takeClockEvent e s) := by
  unfold sendClockEvent
  cases h : s.intake.merge with
  | some m => exact .inl ⟨by simp, rfl⟩
  | none => exact .inr ⟨rfl, rfl⟩

theorem sendClockEvent_frame (e : ClockEvent) (s : State) : MergeFrame s (sendClockEvent e s) := by
  rcases sendClockEvent_cases e s with ⟨-, h⟩ | ⟨-, h⟩ <;> rw [h]
  · exact (IntakeOnly.setIntake s _).toMerge
  · exact (takeClockEvent_frame e s).toMerge

theorem sendClockEvent_clock (e : ClockEvent) (s : State) : (sendClockEvent e s).clock = s.clock := by
  obtain ⟨i, d, h⟩ := sendClockEvent_frame e s
  exact h.clock

end Sys2Proof.Machine
end

