-- ==== Sys2Proof/Laws/Room.lean ====
section
/-!
SUPPORT. What occupancy events, notices of the Peer Table, the emergency line and the service messages can change.
-/

namespace Sys2Proof.Machine

/-! ### Occupancy events -/

theorem takeOccupancy_frame (e : OccupancyEvent) (b : Block) (s : State) : SessionFrame s (takeOccupancy e b s) := by
  cases b
  case session => exact sessionOccupancy_frame e s
  case air => exact (airOccupancy_frame e s).toSessionFrame
  case light => exact (lightOccupancy_only e s).toRoom.toSessionFrame
  case blind => exact (blindOccupancy_frame e s).toSessionFrame
  case panel => exact (panelOccupancy_frame e s).toSessionFrame
  all_goals exact SessionFrame.refl s

theorem sendOccupancy_frame (kinds : List OccupancyKind) (before : Nat) (s : State) :
    SessionFrame s (sendOccupancy kinds before s) :=
  forEach_rel SessionFrame SessionFrame.refl SessionFrame.trans _
    (fun _ s => fanOut_rel SessionFrame SessionFrame.refl SessionFrame.trans _ (takeOccupancy_frame _) _ s) kinds s

/-! ### Notices of the Peer Table -/

theorem blindNotice_frame (n : PeerNotice) (s : State) : BlindFrame s (blindNotice n s) := by
  cases n
  case startHeard => exact startHeard_frame _ _ _ s
  case emptied => exact (recomputeGlare_frame s).trans (settleStage_frame _ _ _)
  all_goals first | exact BlindFrame.refl s | exact recomputeGlare_frame s | exact settleStage_frame _ _ s

theorem airNotice_frame (n : PeerNotice) (s : State) : AirFrame s (airNotice n s) := by
  cases n
  all_goals first | exact AirFrame.refl s | exact airClaimNotice_frame s

theorem takeNotice_frame (n : PeerNotice) (b : Block) (s : State) : RoomFrame s (takeNotice n b s) := by
  cases b
  case air => exact (airNotice_frame n s).toRoomFrame
  case blind => exact (blindNotice_frame n s).toRoomFrame
  all_goals exact RoomFrame.refl s

theorem deliverNotices_frame (notices : List PeerNotice) (s : State) :
    RoomFrame s (forEach notices (fun n => fanOut [.air, .blind] (takeNotice n)) s) :=
  forEach_rel RoomFrame RoomFrame.refl RoomFrame.trans _
    (fun n s => fanOut_rel RoomFrame RoomFrame.refl RoomFrame.trans _ (takeNotice_frame n) _ s) notices s

/-- The table is as the event left it, and the notices reach the room alone (R101). -/
theorem deliver_frame (w : TableWork) (s : State) : RoomFrame (s.setPeers w.table) (deliver w s) := by
  unfold deliver
  dsimp only
  split
  · exact deliverNotices_frame _ _
  · exact (alertIs_frame _ _ _).toRoomFrame.trans (deliverNotices_frame _ _)

theorem deliver_peers (w : TableWork) (s : State) : (deliver w s).peers = w.table := (deliver_frame w s).peers

/-! ### The Bus Port's reports -/

theorem endFrame_frame (sent : Bool) (f : Frame) (s : State) : BlindFrame s (endFrame sent f s) := by
  have h : BlindFrame s (withBus (·.endFrame f) s) := (QuietFrame.setBus s (s.bus.endFrame f) rfl rfl (.refl _)).toBlind
  unfold endFrame
  dsimp only
  split
  · exact h.trans (feederReport_frame _ _ _)
  · exact h

/-! ### The emergency line -/

theorem EmergencyFrame.ofCore {s t : State} (core : CoreFrame s t) (clock : t.clock = s.clock) (intake : t.intake = s.intake)
    (counter : t.counter = s.counter) (peers : t.peers = s.peers) (session : t.session = s.session) : EmergencyFrame s t :=
  ⟨core, clock, intake, counter, peers, session⟩

theorem EmergencyFrame.refl (s : State) : EmergencyFrame s s := .ofCore (.refl s) rfl rfl rfl rfl rfl

theorem EmergencyFrame.trans {s t u : State} (h : EmergencyFrame s t) (k : EmergencyFrame t u) : EmergencyFrame s u :=
  ⟨h.1.trans k.1, k.2.trans h.2, k.3.trans h.3, k.4.trans h.4, k.5.trans h.5, k.6.trans h.6⟩

theorem RoomFrame.toEmergency {s t : State} (h : RoomFrame s t) : EmergencyFrame s t :=
  ⟨h.toCoreFrame, h.clock, h.intake, h.counter, h.peers, h.session⟩

theorem EmergencyFrame.setAir (s : State) (a : Air) : EmergencyFrame s (s.setAir a) :=
  .ofCore (.setAir s a) rfl rfl rfl rfl rfl

theorem EmergencyFrame.setLight (s : State) (l : Light) : EmergencyFrame s (s.setLight l) :=
  .ofCore (.setLight s l) rfl rfl rfl rfl rfl

theorem EmergencyFrame.setBlind (s : State) (b : Blind) : EmergencyFrame s (s.setBlind b) :=
  .ofCore (.setBlind s b) rfl rfl rfl rfl rfl

theorem EmergencyFrame.setPanel (s : State) (p : Panel) : EmergencyFrame s (s.setPanel p) :=
  .ofCore (.setPanel s p) rfl rfl rfl rfl rfl

theorem takeAssertion_frame (b : Block) (s : State) : EmergencyFrame s (takeAssertion b s) := by
  cases b
  case air => exact (EmergencyFrame.setAir s _).trans (airAssertion_frame s).toRoomFrame.toEmergency
  case light => exact EmergencyFrame.setLight s _
  case blind => exact (EmergencyFrame.setBlind s _).trans (blindAssertion_frame s).toRoomFrame.toEmergency
  case panel => exact (EmergencyFrame.setPanel s _).trans (panelAssertion_frame s).toEmergency
  case alert => exact (raiseAlert_frame _ s).toRoomFrame.toEmergency
  all_goals exact EmergencyFrame.refl s

theorem takeRelease_frame (b : Block) (s : State) : EmergencyFrame s (takeRelease b s) := by
  cases b
  case air => exact (EmergencyFrame.setAir s _).trans (airRelease_frame s).toRoomFrame.toEmergency
  case light => exact EmergencyFrame.setLight s _
  case blind => exact (EmergencyFrame.setBlind s _).trans (blindRelease_frame s).toRoomFrame.toEmergency
  case panel => exact EmergencyFrame.setPanel s _
  case alert => exact (clearAlert_frame _ s).toRoomFrame.toEmergency
  all_goals exact EmergencyFrame.refl s

/-- The emergency state is taken, and the event touches the room alone (R175, R176). -/
theorem settleEmergency_frame (s : State) :
    EmergencyFrame (s.setAlert { s.alert with debounce := none, emergency := s.lines.emergency }) (settleEmergency s) := by
  unfold settleEmergency
  dsimp only
  split
  · rename_i h
    simp only [State.setAlert_lines, State.setAlert_alert] at h
    rw [h]
    exact EmergencyFrame.refl _
  · split
    · exact fanOut_rel EmergencyFrame EmergencyFrame.refl EmergencyFrame.trans _ takeAssertion_frame _ _
    · exact fanOut_rel EmergencyFrame EmergencyFrame.refl EmergencyFrame.trans _ takeRelease_frame _ _

/-! ### Service messages -/

theorem takeClear_frame (b : Block) (s : State) : RoomFrame s (takeClear b s) := by
  cases b
  case blind => exact (blindClear_frame s).toRoomFrame
  case panel => exact panelClear_frame s
  all_goals exact RoomFrame.refl s

end Sys2Proof.Machine
end

