-- ==== Sys2Proof/Laws/Closed.lean ====
section
/-!
SUPPORT. A property that offers, updates of the room's blocks, of the Session Engine and of the Intake, and notices of the
alerts named cannot break is kept by every event inside the station. The list of alerts says which an event may raise or clear.
-/

namespace Sys2Proof.Machine

/-- The property survives every change an event inside the station is made of, with notices of the alerts named. -/
structure Closed (touched : List Alert) (P : State → Prop) : Prop where
  offer : ∀ {s : State} (f : Frame), P s → P (offerAnswered f s).1
  air : ∀ {s : State} (v : Air), P s → P (s.setAir v)
  light : ∀ {s : State} (v : Light), P s → P (s.setLight v)
  blind : ∀ {s : State} (v : Blind), P s → P (s.setBlind v)
  panel : ∀ {s : State} (v : Panel), P s → P (s.setPanel v)
  session : ∀ {s : State} (v : SessionEngine), P s → P (s.setSession v)
  intake : ∀ {s : State} (v : Intake), P s → P (s.setIntake v)
  draws : ∀ {s : State} (v : Nat), P s → P (s.setDraws v)
  raise : ∀ {s : State} (a : Alert), a ∈ touched → P s → P (raiseAlert a s)
  clear : ∀ {s : State} (a : Alert), a ∈ touched → P s → P (clearAlert a s)

variable {touched : List Alert} {P : State → Prop} {s : State}

/-- What both branches of a choice have, the choice has. -/
theorem ite_keeps {c : Prop} [Decidable c] {a b : State} (ha : P a) (hb : P b) : P (if c then a else b) := by
  split <;> assumption

namespace Closed

/-! ### The Air Controller -/

theorem compareDamper (h : Closed touched P) (hd : .damperFault ∈ touched) (p : P s) : P (compareDamper s) := by
  unfold Machine.compareDamper
  split
  · split
    · exact h.air _ p
    · exact p
  · exact h.clear _ hd (h.air _ p)

theorem setCommand (h : Closed touched P) (hd : .damperFault ∈ touched) (command : Nat) (p : P s) :
    P (setCommand command s) := by
  unfold Machine.setCommand
  split
  · exact p
  · exact h.compareDamper hd (h.air _ p)

theorem setGrant (h : Closed touched P) (hd : .damperFault ∈ touched) (grant : Nat) (p : P s) : P (setGrant grant s) :=
  h.setCommand hd _ (h.air _ p)

theorem regrant (h : Closed touched P) (hd : .damperFault ∈ touched) (p : P s) : P (regrant s) := by
  unfold Machine.regrant
  split
  · exact p
  · exact h.setGrant hd _ p

theorem judgeShortfall (h : Closed touched P) (hs : .shortfall ∈ touched) (p : P s) : P (judgeShortfall s) := by
  unfold Machine.judgeShortfall
  split
  · split
    · exact p
    · exact h.air _ p
  · split
    · exact h.clear _ hs (h.air _ p)
    · exact p

theorem offerClaim (h : Closed touched P) (p : P s) : P (offerClaim s) := by
  unfold Machine.offerClaim
  split
  · exact h.offer _ (h.air _ p)
  · exact h.offer _ (h.air _ p)

theorem triggerClaim (h : Closed touched P) (p : P s) : P (triggerClaim s) := by
  unfold Machine.triggerClaim
  split
  · split
    · exact h.offerClaim p
    · exact h.air _ p
  · exact p

theorem testTrigger (h : Closed touched P) (p : P s) : P (testTrigger s) := by
  unfold Machine.testTrigger
  split
  · exact h.triggerClaim p
  · exact p

theorem recomputeDemand (h : Closed touched P) (hd : .damperFault ∈ touched) (hs : .shortfall ∈ touched) (p : P s) :
    P (recomputeDemand s) := by
  unfold Machine.recomputeDemand
  split
  · exact p
  · refine h.testTrigger (h.judgeShortfall hs ?_)
    dsimp only
    split
    · exact h.air _ p
    · exact h.regrant hd (h.air _ p)

theorem airOccupancy (h : Closed touched P) (hd : .damperFault ∈ touched) (hs : .shortfall ∈ touched)
    (e : OccupancyEvent) (p : P s) : P (airOccupancy e s) := by
  unfold Machine.airOccupancy
  split
  · exact p
  · exact h.recomputeDemand hd hs (h.air _ p)

theorem airRegime (h : Closed touched P) (hd : .damperFault ∈ touched) (hs : .shortfall ∈ touched) (n : RegimeNotice)
    (p : P s) : P (airRegime n s) := h.recomputeDemand hd hs (h.air _ p)

theorem airBoost (h : Closed touched P) (hd : .damperFault ∈ touched) (hs : .shortfall ∈ touched) (on : Bool)
    (p : P s) : P (airBoost on s) := h.recomputeDemand hd hs (h.air _ p)

theorem airClaimNotice (h : Closed touched P) (hd : .damperFault ∈ touched) (hs : .shortfall ∈ touched) (p : P s) :
    P (airClaimNotice s) := by
  unfold Machine.airClaimNotice
  split
  · exact h.judgeShortfall hs (h.regrant hd p)
  · exact p

theorem airAssertion (h : Closed touched P) (hd : .damperFault ∈ touched) (hs : .shortfall ∈ touched) (p : P s) :
    P (airAssertion s) := h.triggerClaim (h.judgeShortfall hs (h.setCommand hd 0 (h.air _ p)))

theorem airRelease (h : Closed touched P) (hd : .damperFault ∈ touched) (hs : .shortfall ∈ touched) (p : P s) :
    P (airRelease s) := by
  unfold Machine.airRelease
  dsimp only
  split
  · exact h.triggerClaim (h.judgeShortfall hs (h.regrant hd (h.air _ p)))
  · exact h.setCommand hd 500 (h.air _ p)

theorem startCommand (h : Closed touched P) (hd : .damperFault ∈ touched) (p : P s) : P (startCommand s) := by
  unfold Machine.startCommand
  split
  · exact p
  · split
    · exact h.setGrant hd _ p
    · exact h.setCommand hd 500 p

theorem airStart (h : Closed touched P) (hd : .damperFault ∈ touched) (hs : .shortfall ∈ touched) (p : P s) :
    P (airStart s) := by
  unfold Machine.airStart
  dsimp only
  split
  · exact h.triggerClaim (h.judgeShortfall hs (h.compareDamper hd (h.startCommand hd (h.air _ (h.air _ p)))))
  · exact h.compareDamper hd (h.startCommand hd (h.air _ p))

theorem airRestart (h : Closed touched P) (hd : .damperFault ∈ touched) (hs : .shortfall ∈ touched) (p : P s) :
    P (airRestart s) := by
  unfold Machine.airRestart
  split
  · exact h.triggerClaim (h.judgeShortfall hs (h.regrant hd (h.air _ p)))
  · exact p

/-! ### The drives and the stage -/

theorem withBlind (h : Closed touched P) (change : Blind → Blind) (p : P s) : P (withBlind change s) := h.blind _ p

theorem withLight (h : Closed touched P) (change : Light → Light) (p : P s) : P (withLight change s) := h.light _ p

theorem withPanel (h : Closed touched P) (change : Panel → Panel) (p : P s) : P (withPanel change s) := h.panel _ p

theorem haltDrive (h : Closed touched P) (number : Nat) (position : Option Nat) (p : P s) :
    P (haltDrive number position s) := by
  have k : P (announceHalt (Machine.withBlind (·.mapDrive number (·.halt position)) s)) := by
    unfold announceHalt
    split
    · exact h.blind _ p
    · exact h.offer _ (h.blind _ p)
  unfold Machine.haltDrive hearHalt
  split
  · exact h.light _ k
  · exact k

theorem haltAtLimit (h : Closed touched P) (number : Nat) (p : P s) : P (haltAtLimit number s) := by
  unfold Machine.haltAtLimit
  split
  · exact p
  · split
    · exact p
    · exact h.blind _ (h.blind _ (h.haltDrive _ _ p))

theorem enterRunning (h : Closed touched P) (numbers : List Nat) (p : P s) : P (enterRunning numbers s) := by
  refine forEach_keeps P _ (fun n s p => ?_) numbers _ ?_
  · unfold checkLimit
    split
    · exact h.haltAtLimit n p
    · exact p
  · unfold startMotors
    dsimp only
    split
    · exact h.light _ (h.blind _ p)
    · exact h.blind _ p

theorem feederCheck (h : Closed touched P) (group : Nat) (p : P s) : P (feederCheck group s).1 := by
  unfold Machine.feederCheck
  dsimp only
  split
  · exact h.blind _ p
  · split
    · exact h.blind _ p
    · unfold askFeeder
      dsimp only
      split
      · exact h.blind _ (h.offer _ (h.blind _ p))
      · exact h.blind _ (h.blind _ (h.offer _ (h.blind _ p)))

theorem recheckGroups (h : Closed touched P) (p : P s) : P (recheckGroups s).1 :=
  eachAnswered_keeps P _ (fun g _ p => h.feederCheck g p) _ _ p

theorem grantSlots (h : Closed touched P) (p : P s) : P (grantSlots s).1 := by
  refine eachAnswered_keeps P _ (fun numbers s p => ?_) _ _ p
  unfold launchGroup
  dsimp only
  split
  · exact h.enterRunning _ (h.blind _ p)
  · exact h.feederCheck _ (h.blind _ p)

theorem settleStage (h : Closed touched P) : ∀ (rounds : Nat) (recheck : Bool) {s : State}, P s → P (settleStage rounds recheck s)
  | 0, _, _, p => p
  | n + 1, recheck, s, p => by
    unfold Machine.settleStage
    split
    · exact p
    · dsimp only
      split
      · split
        · exact h.settleStage n true (h.recheckGroups (h.grantSlots p))
        · exact h.recheckGroups (h.grantSlots p)
      · split
        · exact h.settleStage n true (h.grantSlots p)
        · exact h.grantSlots p

theorem dropHand (h : Closed touched P) (p : P s) : P (dropHand s) := by
  unfold Machine.dropHand
  split
  · exact p
  · exact h.blind _ p
  · exact h.offer _ (h.blind _ p)

theorem takeTarget (h : Closed touched P) (number : Nat) (p : P s) : P (takeTarget number s) :=
  takeTarget_elim p (h.blind _ p) (h.blind _ p) (fun _ => h.blind _ (h.dropHand p)) fun _ => h.blind _ (h.haltDrive _ _ p)

theorem takeTargets (h : Closed touched P) (p : P s) : P (takeTargets s) :=
  h.settleStage _ _ (h.blind _ (forEach_keeps P _ (fun n _ p => h.takeTarget n p) _ _ p))

theorem backOff (h : Closed touched P) (group : Nat) (p : P s) : P (backOff group s) := h.blind _ p

theorem feederReport (h : Closed touched P) (sent : Bool) (tag : Nat) (p : P s) : P (feederReport sent tag s) := by
  have k : P (orphanReport sent tag s) := by
    unfold orphanReport
    split
    · exact p
    · dsimp only
      split
      · exact h.offer _ (h.blind _ p)
      · exact h.blind _ p
  unfold Machine.feederReport
  split
  · split
    · split
      · exact h.blind _ p
      · exact h.settleStage _ _ (h.blind _ p)
    · exact k
  · exact k
  · exact k

theorem startHeard (h : Closed touched P) (peer : Byte) (drives arrival : Nat) (p : P s) :
    P (startHeard peer drives arrival s) := by
  unfold Machine.startHeard
  split
  · split
    · exact h.blind _ p
    · exact p
  · exact p
  · exact p

theorem closeWindow (h : Closed touched P) (p : P s) : P (closeWindow s) := by
  unfold Machine.closeWindow
  split
  · dsimp only
    refine h.settleStage _ _ ?_
    split
    · exact h.enterRunning _ (h.blind _ p)
    · exact h.blind _ (h.offer _ (h.blind _ p))
  · exact p
  · exact p

/-! ### The Blind Controller -/

theorem applyWanted (h : Closed touched P) (p : P s) : P (applyWanted s) := h.takeTargets (h.blind _ p)

theorem reapply (h : Closed touched P) (p : P s) : P (reapply s) := h.applyWanted (h.blind _ p)

theorem policyEvent (h : Closed touched P) (glare : Bool) (p : P s) : P (policyEvent glare s) := by
  unfold Machine.policyEvent
  dsimp only
  split
  · exact h.blind _ p
  · split
    · exact h.blind _ (h.blind _ p)
    · split
      · exact h.blind _ (h.blind _ p)
      · exact h.applyWanted (h.blind _ p)

theorem setGlare (h : Closed touched P) (glare : Nat) (p : P s) : P (setGlare glare s) := by
  unfold Machine.setGlare
  dsimp only
  split
  · exact h.policyEvent _ (h.blind _ p)
  · exact h.blind _ p

theorem recomputeGlare (h : Closed touched P) (hl : .sunLost ∈ touched) (p : P s) : P (recomputeGlare s) := by
  unfold Machine.recomputeGlare
  split
  · split
    · exact p
    · exact h.blind _ p
  · exact h.setGlare _ (h.clear _ hl (h.blind _ p))

theorem blindRegime (h : Closed touched P) (n : RegimeNotice) (p : P s) : P (blindRegime n s) :=
  h.policyEvent _ (h.blind _ p)

theorem blindOccupancy (h : Closed touched P) (e : OccupancyEvent) (p : P s) : P (blindOccupancy e s) := by
  unfold Machine.blindOccupancy
  split
  · exact p
  · exact h.policyEvent _ (h.blind _ p)

theorem blindTarget (h : Closed touched P) (target : Option Nat) (p : P s) : P (blindTarget target s) :=
  h.policyEvent _ (h.blind _ p)

theorem cutShorts (h : Closed touched P) (numbers : List Nat) (p : P s) : P (forEach numbers cutShort s) := by
  refine forEach_keeps P _ (fun n s p => ?_) numbers _ p
  unfold cutShort
  split
  · exact p
  · exact h.haltDrive _ _ p

theorem blindAssertion (h : Closed touched P) (p : P s) : P (blindAssertion s) :=
  h.blind _ (h.dropHand (h.cutShorts _ (h.blind _ p)))

theorem blindRelease (h : Closed touched P) (p : P s) : P (blindRelease s) := h.reapply (h.blind _ p)

theorem blindRestart (h : Closed touched P) (p : P s) : P (blindRestart s) := by
  have k : P (Machine.withBlind Blind.standDown (Machine.dropHand
      (Machine.withBlind (fun b => { b with orphans := [] }) (forEach (s.blind.inState .running) cutShort s)))) :=
    h.blind _ (h.dropHand (h.blind _ (h.cutShorts _ p)))
  unfold Machine.blindRestart
  dsimp only
  split
  · exact k
  · exact h.reapply k

theorem blindClear (h : Closed touched P) (ho : .driveOut ∈ touched) (p : P s) : P (blindClear s) := by
  have k : P (restoreDrives s) := h.clear _ ho (h.blind _ p)
  unfold Machine.blindClear
  split
  · exact p
  · split
    · exact k
    · exact h.settleStage _ _ (forEach_keeps P _ (fun n _ p => h.takeTarget n p) _ _ k)

theorem blindStart (h : Closed touched P) (p : P s) : P (blindStart s) := by
  exact ite_keeps (h.blind _ p) (h.reapply (h.blind _ p))

theorem endDwell (h : Closed touched P) (p : P s) : P (endDwell s) := by
  unfold Machine.endDwell
  dsimp only
  split
  · exact h.applyWanted (h.blind _ p)
  · exact h.blind _ p

theorem endBackoff (h : Closed touched P) (group : Nat) (p : P s) : P (endBackoff group s) := by
  unfold Machine.endBackoff
  dsimp only
  split
  · exact h.settleStage _ _ (h.feederCheck _ (h.blind _ p))
  · exact h.feederCheck _ (h.blind _ p)

theorem takeLimit (h : Closed touched P) (number : Nat) (limit : Limit) (active : Bool) (p : P s) :
    P (takeLimit number limit active s) := by
  unfold Machine.takeLimit
  split
  · exact p
  · dsimp only
    split
    · exact h.settleStage _ _ (h.haltAtLimit _ (h.blind _ p))
    · exact h.blind _ p

theorem endIntermediate (h : Closed touched P) (number goal : Nat) (p : P s) : P (endIntermediate number goal s) :=
  h.settleStage _ _ (h.blind _ (h.haltDrive _ _ p))

theorem stallDrive (h : Closed touched P) (ho : .driveOut ∈ touched) (number : Nat) (p : P s) : P (stallDrive number s) := by
  unfold Machine.stallDrive
  refine h.settleStage _ _ ?_
  split
  · exact h.raise _ ho (h.blind _ (h.haltDrive _ _ p))
  · exact h.blind _ (h.blind _ (h.haltDrive _ _ p))

theorem offerSun (h : Closed touched P) (r : SunSample) (p : P s) : P (offerSun r s) := h.offer _ (h.blind _ p)

theorem takeSun (h : Closed touched P) (hl : .sunLost ∈ touched) (glare klux : Nat) (p : P s) : P (takeSun glare klux s) := by
  unfold Machine.takeSun
  split
  · dsimp only
    have k := h.recomputeGlare hl (h.blind
      { s.blind with own := some { glare := min glare 100, klux := min klux 150 }, ageTimer := s.timer (seconds 120) } p)
    split
    · exact h.offerSun _ k
    · split
      · exact h.offerSun _ k
      · exact k
  · exact p

/-! ### The Override Unit -/

theorem endOverride (h : Closed touched P) (hd : .damperFault ∈ touched) (hs : .shortfall ∈ touched)
    (cause : OverrideCause) (value : Int) (p : P s) : P (endOverride cause value s) := by
  have q : P (resetOverride cause value s) := h.panel _ (h.panel _ p)
  have k : P (returnOffset s.panel (resetOverride cause value s)) := by
    unfold returnOffset
    split
    · exact q
    · exact h.light _ q
  have l : P (returnBoost s.panel (returnOffset s.panel (resetOverride cause value s))) := by
    unfold returnBoost
    split
    · exact h.airBoost hd hs _ k
    · exact k
  unfold Machine.endOverride returnTarget
  split
  · exact h.blindTarget _ l
  · exact l

theorem endIfOn (h : Closed touched P) (hd : .damperFault ∈ touched) (hs : .shortfall ∈ touched)
    (cause : OverrideCause) (p : P s) : P (endIfOn cause s) := by
  unfold Machine.endIfOn
  split
  · exact h.endOverride hd hs _ _ p
  · exact ite_keeps (h.panel _ p) p

theorem keyWhileOn (h : Closed touched P) (hd : .damperFault ∈ touched) (hs : .shortfall ∈ touched) (key : Key)
    (p : P s) : P (keyWhileOn key s) := by
  have offset (step : Int) : P (moveOffset step s) := by
    unfold moveOffset
    dsimp only
    split
    · exact h.light _ (h.panel _ p)
    · exact h.endOverride hd hs _ _ p
  have target (step : Int) : P (moveTarget step s) := by
    unfold moveTarget
    dsimp only
    split
    · exact p
    · exact h.blindTarget _ (h.panel _ p)
  cases key
  · exact offset 100
  · exact offset (-100)
  · exact target (-25)
  · exact target 25
  · show P (pressAir s)
    unfold pressAir
    split
    · exact h.endOverride hd hs _ _ p
    · split
      · exact h.endOverride hd hs _ _ p
      · exact h.airBoost hd hs _ (h.panel _ p)
  · exact h.endOverride hd hs _ _ p

theorem pressKey (h : Closed touched P) (hd : .damperFault ∈ touched) (hs : .shortfall ∈ touched) (key : Key)
    (p : P s) : P (pressKey key s) := by
  unfold Machine.pressKey
  split
  · exact h.keyWhileOn hd hs key p
  · split
    · exact p
    · split
      · exact h.keyWhileOn hd hs key (h.panel _ p)
      · exact h.panel _ p

theorem panelRegime (h : Closed touched P) (hd : .damperFault ∈ touched) (hs : .shortfall ∈ touched) (n : RegimeNotice)
    (p : P s) : P (panelRegime n s) := by
  unfold Machine.panelRegime
  dsimp only
  split
  · exact h.endIfOn hd hs _ (h.panel _ p)
  · exact h.panel _ p

theorem panelOccupancy (h : Closed touched P) (hd : .damperFault ∈ touched) (hs : .shortfall ∈ touched)
    (e : OccupancyEvent) (p : P s) : P (panelOccupancy e s) := by
  unfold Machine.panelOccupancy
  dsimp only
  split
  · exact h.endIfOn hd hs _ (h.panel _ p)
  · exact h.panel _ p

/-! ### The Session Engine -/

theorem takeRegime (h : Closed touched P) (hd : .damperFault ∈ touched) (hs : .shortfall ∈ touched) (n : RegimeNotice)
    (b : Block) (p : P s) : P (takeRegime n b s) := by
  cases b
  case air => exact h.airRegime hd hs n p
  case light => exact h.light _ p
  case blind => exact h.blindRegime n p
  case panel => exact h.panelRegime hd hs n p
  all_goals exact p

theorem publishRegime (h : Closed touched P) (minute : Nat) (hd : .damperFault ∈ touched) (hs : .shortfall ∈ touched) (p : P s) :
    P (publishRegime minute s) := by
  unfold Machine.publishRegime
  dsimp only
  split
  · exact fanOut_keeps P _ (fun b _ p => h.takeRegime hd hs _ b p) _ _ (h.session _ p)
  · exact h.session _ p

theorem finishWork (h : Closed touched P) (minute : Nat) (hd : .damperFault ∈ touched) (hs : .shortfall ∈ touched)
    (w : EngineWork) (p : P s) : P (finishWork minute w s) :=
  forEach_keeps P _ (fun _ _ p => h.endIfOn hd hs _ p) _ _
    (h.publishRegime _ hd hs (forEach_keeps P _ (fun f _ p => h.offer f p) _ _ (h.session _ p)))

theorem addTallies (h : Closed touched P) (p : P s) : P (addTallies s) := h.session _ (h.air _ p)

theorem takeClockEvent (h : Closed touched P) (hd : .damperFault ∈ touched) (hs : .shortfall ∈ touched) (e : ClockEvent)
    (p : P s) : P (takeClockEvent e s) := by
  cases e
  · show P (takeMinute _ s)
    unfold takeMinute
    refine h.finishWork _ hd hs _ ?_
    dsimp only
    split
    · exact h.addTallies (h.session _ p)
    · exact h.session _ p
  · exact h.finishWork _ hd hs _ (h.session _ p)

theorem sendClockEvent (h : Closed touched P) (hd : .damperFault ∈ touched) (hs : .shortfall ∈ touched) (e : ClockEvent)
    (p : P s) : P (sendClockEvent e s) := by
  unfold Machine.sendClockEvent
  split
  · exact h.intake _ p
  · exact h.takeClockEvent hd hs e p

theorem releaseEarly (h : Closed touched P) (minute : Nat) (hd : .damperFault ∈ touched) (hs : .shortfall ∈ touched)
    (p : P s) : P (releaseEarly minute s) := by
  unfold Machine.releaseEarly
  split
  · exact h.finishWork _ hd hs _ p
  · exact p

theorem sessionOccupancy (h : Closed touched P) (hd : .damperFault ∈ touched) (hs : .shortfall ∈ touched)
    (e : OccupancyEvent) (p : P s) : P (sessionOccupancy e s) := by
  have mark : P (if e.count = e.before ∨ e.count = 0 then s else markEntries e.count (decide (e.before = 0)) s) := by
    split
    · exact p
    · exact h.session _ p
  unfold Machine.sessionOccupancy
  split
  · exact h.session _ p
  · split
    · exact h.releaseEarly _ hd hs p
    all_goals exact mark

theorem catchUp (h : Closed touched P) (hd : .damperFault ∈ touched) (hs : .shortfall ∈ touched) (p : P s) :
    P (catchUp s) := by
  have q := h.session { s.session with catchUp := false } p
  have k := ite_keeps (c := 0 < s.counter.count) (h.session _ q : P (markEntries s.counter.count true _)) q
  exact ite_keeps (ite_keeps (h.releaseEarly _ hd hs k) k) q

theorem releaseHeld (h : Closed touched P) (hd : .damperFault ∈ touched) (hs : .shortfall ∈ touched) (p : P s) :
    P (releaseHeld s) :=
  forEach_keeps P _ (fun e _ p => h.takeClockEvent hd hs e p) _ _ (h.catchUp hd hs (h.intake _ p))

/-! ### The Timetable Intake -/

theorem giveResult (h : Closed touched P) (item : Item) (verdict : Verdict) (p : P s) : P (giveResult item verdict s) :=
  h.offer _ (h.intake _ p)

theorem paceSender (h : Closed touched P) (sender : Byte) (p : P s) : P (paceSender sender s) := by
  unfold Machine.paceSender
  split
  · exact p
  · dsimp only
    split
    · exact h.intake _ (h.offer _ p)
    · exact h.offer _ p

theorem beginMerge (h : Closed touched P) (p : P s) : P (beginMerge s) := by
  unfold Machine.beginMerge
  split
  · unfold resumeSenders
    split
    · exact h.intake _ p
    · exact forEach_keeps P _ (fun _ _ p => h.offer _ p) _ _ (h.intake _ (h.draws _ (h.intake _ p)))
  · exact p

theorem arrive (h : Closed touched P) (item : Item) (p : P s) : P (arrive item s) := by
  unfold Machine.arrive
  split
  · split
    · exact h.beginMerge (h.paceSender _ (h.intake _ p))
    · exact h.paceSender _ (h.giveResult _ _ p)
  · exact h.giveResult _ _ p

theorem completeMerge (h : Closed touched P) (hd : .damperFault ∈ touched) (hs : .shortfall ∈ touched) (item : Item)
    (p : P s) : P (completeMerge item s) := by
  refine h.beginMerge (h.intake _ (h.releaseHeld hd hs ?_))
  unfold settleItem
  refine h.giveResult _ _ ?_
  split
  · exact h.finishWork _ hd hs _ p
  · exact p

theorem intakeRestart (h : Closed touched P) (hd : .damperFault ∈ touched) (hs : .shortfall ∈ touched) (p : P s) :
    P (intakeRestart s) := h.intake _ (h.releaseHeld hd hs (h.intake _ p))

/-! ### Events several blocks take -/

theorem sendOccupancy (h : Closed touched P) (hd : .damperFault ∈ touched) (hs : .shortfall ∈ touched)
    (kinds : List OccupancyKind) (before : Nat) (p : P s) : P (sendOccupancy kinds before s) := by
  refine forEach_keeps P _ (fun k s p => fanOut_keeps P _ (fun b s p => ?_) _ _ p) _ _ p
  cases b
  case session => exact h.sessionOccupancy hd hs _ p
  case air => exact h.airOccupancy hd hs _ p
  case light =>
    show P (lightOccupancy _ s)
    unfold lightOccupancy
    split
    · exact p
    · exact h.light _ p
  case blind => exact h.blindOccupancy _ p
  case panel => exact h.panelOccupancy hd hs _ p
  all_goals exact p

theorem takeNotice (h : Closed touched P) (hd : .damperFault ∈ touched) (hs : .shortfall ∈ touched)
    (hl : .sunLost ∈ touched) (n : PeerNotice) (b : Block) (p : P s) : P (takeNotice n b s) := by
  cases b
  case air =>
    cases n
    all_goals first | exact p | exact h.airClaimNotice hd hs p
  case blind =>
    cases n
    case startHeard => exact h.startHeard _ _ _ p
    case emptied => exact h.settleStage _ _ (h.recomputeGlare hl p)
    all_goals first | exact p | exact h.recomputeGlare hl p | exact h.settleStage _ _ p
  all_goals exact p

/-- The delivery of the table's notices, from the state in which the table has changed. -/
theorem deliver (h : Closed touched P) (hd : .damperFault ∈ touched) (hs : .shortfall ∈ touched)
    (hl : .sunLost ∈ touched) (hf : .peerTableFull ∈ touched) (w : TableWork) (p : P (s.setPeers w.table)) :
    P (deliver w s) := by
  unfold Machine.deliver
  refine forEach_keeps P _ (fun n s p => fanOut_keeps P _ (fun b s p => h.takeNotice hd hs hl n b p) _ _ p) _ _ ?_
  split
  · exact p
  · unfold alertIs
    split
    · exact h.raise _ hf p
    · exact h.clear _ hf p

theorem takeAssertion (h : Closed touched P) (hd : .damperFault ∈ touched) (hs : .shortfall ∈ touched)
    (he : .emergency ∈ touched) (b : Block) (p : P s) : P (takeAssertion b s) := by
  cases b
  case air => exact h.airAssertion hd hs p
  case light => exact h.light _ p
  case blind => exact h.blindAssertion p
  case panel => exact h.endIfOn hd hs _ (h.panel _ p)
  case alert => exact h.raise _ he p
  all_goals exact p

theorem takeRelease (h : Closed touched P) (hd : .damperFault ∈ touched) (hs : .shortfall ∈ touched)
    (he : .emergency ∈ touched) (b : Block) (p : P s) : P (takeRelease b s) := by
  cases b
  case air => exact h.airRelease hd hs p
  case light => exact h.light _ p
  case blind => exact h.blindRelease p
  case panel => exact h.panel _ p
  case alert => exact h.clear _ he p
  all_goals exact p

theorem takeClear (h : Closed touched P) (ho : .driveOut ∈ touched) (b : Block) (p : P s) : P (takeClear b s) := by
  cases b
  case blind => exact h.blindClear ho p
  case panel => exact h.panel _ p
  all_goals exact p

end Closed

/-! ### Alerts -/

theorem Alert.bit_getLsbD (a b : Alert) : a.bit.getLsbD b.index = decide (a = b) := by cases a <;> cases b <;> rfl

theorem isRaised_raise (a b : Alert) (s : State) : (raiseAlert a s).isRaised b = (s.isRaised b || decide (a = b)) := by
  simp [State.isRaised, raiseAlert, Alert.bit_getLsbD]

theorem isRaised_clear (a b : Alert) (s : State) : (clearAlert a s).isRaised b = (s.isRaised b && !decide (a = b)) := by
  have hb : decide (b.index < 12) = true := by cases b <;> rfl
  simp only [State.isRaised, clearAlert, State.setAlert_alert, BitVec.getLsbD_and, BitVec.getLsbD_not, Alert.bit_getLsbD,
    hb, Bool.true_and]

theorem isRaised_alertIs (a b : Alert) (c : Bool) (s : State) :
    (alertIs a c s).isRaised b = if a = b then c else s.isRaised b := by
  unfold alertIs
  split
  · rw [isRaised_raise]; split <;> simp_all
  · rw [isRaised_clear]; split <;> simp_all

theorem isRaised_offer (f : Frame) (s : State) (a : Alert) : (offerAnswered f s).1.isRaised a = s.isRaised a := by
  simp [State.isRaised, offerAnswered_alert]

/-- Every alert but those named stands as it stood, through every event inside the station. -/
theorem alertsKept_closed (touched : List Alert) (r : State) : Closed touched (AlertsKept touched r) where
  offer f p a ha := (isRaised_offer f _ a).trans (p a ha)
  air _ p := p
  light _ p := p
  blind _ p := p
  panel _ p := p
  session _ p := p
  intake _ p := p
  draws _ p := p
  raise a ha p b hb := by
    have n : a ≠ b := fun e => hb (e ▸ ha)
    rw [isRaised_raise, p b hb, decide_eq_false n, Bool.or_false]
  clear a ha p b hb := by
    have n : a ≠ b := fun e => hb (e ▸ ha)
    rw [isRaised_clear, p b hb, decide_eq_false n, Bool.not_false, Bool.and_true]

theorem AlertsKept.refl (touched : List Alert) (s : State) : AlertsKept touched s s := fun _ _ => rfl

end Sys2Proof.Machine
end

