-- ==== Sys2Proof/WellFormed.lean ====
section
/-!
DEFINITION. The checks a command passes before it can have come from the field: the numbered inputs and outputs
that exist on any station (R72, R80, R127, R150), the addresses a source may have (R11), and the ranges of the
sensor values that the rules do not clamp, and the start bit of a character (R13). What the rules clamp or judge (R91, R104, R131, R143, R183) is not checked.
-/

namespace Sys2Proof

/-- 1 to 254, an address a participant may have (R11, conventions of 00_scope.md). -/
def validAddress (a : Byte) : Bool := 1 ≤ a.toNat && a.toNat ≤ 254

/-- 1 to 254 for one station, 255 for every station (R11). -/
def validDestination (a : Byte) : Bool := 1 ≤ a.toNat

/-- `n` counts one of `m` numbered inputs or outputs, from 1. -/
def numbered (n m : Nat) : Bool := 1 ≤ n && n ≤ m

/-- A command that can come from outside. -/
def Instr.wellFormed : Instr → Bool
  | .powerOn | .readCompletion _ | .readTimerExpiry | .powerLoss => true
  | .lineCharacter bits => !bits.getLsbD 0
  | .quietEvent | .busBackoffExpiry | .characterNotReadBack => true
  | .clockSecond | .mergeCompletion | .quietTimerExpiry | .sweepTimerExpiry => true
  | .timeMark source dest _ _ => validAddress source && validDestination dest
  | .sessionOffer source dest _ _ _ _ _ _ _ _ => validAddress source && validDestination dest
  | .sessionAmend source dest _ _ _ _ _ => validAddress source && validDestination dest
  | .sessionCancel source dest _ _ => validAddress source && validDestination dest
  | .beamBreak door _ | .beamClear door _ | .blockTimerExpiry door => numbered door 2
  | .motionPulse input => numbered input 4
  | .claim source dest _ _ _ _ _ => validAddress source && validDestination dest
  | .sunReading source dest _ _ _ => validAddress source && validDestination dest
  | .feederStart source dest _ _ _ _ => validAddress source && validDestination dest
  | .feederEnd source dest _ _ => validAddress source && validDestination dest
  | .guardExpiry peer => validAddress peer
  | .co2Reading _ | .co2LossTimerExpiry | .rateWindowExpiry | .claimRefreshExpiry => true
  | .damperFeedback permille => permille ≤ 1000
  | .damperFaultTimerExpiry | .shortfallTimerExpiry => true
  | .photosensorReading _ | .photosensorLossTimerExpiry | .harvestTimerExpiry => true
  | .fadeStep group | .wallSwitch group _ => numbered group 6
  | .vacancyWarningExpiry | .harvestHoldReleaseExpiry => true
  | .ownSunReading _ _ | .ownReadingAgeExpiry | .sunSendTimerExpiry | .glareHoldTimerExpiry => true
  | .dwellTimerExpiry | .settleWindowExpiry => true
  | .feederBackoffExpiry drive | .limitInput drive _ _ => numbered drive 4
  | .runTimerExpiry drive | .runWatchdogExpiry drive => numbered drive 4
  | .lightPlus | .lightMinus | .blindUp | .blindDown | .airPlus | .resumeKey | .blinkTimerExpiry => true
  | .emergencyLineChange _ | .debounceTimerExpiry => true
  | .statusRequest source dest | .serviceRestart source dest | .serviceClear source dest =>
      validAddress source && validDestination dest

end Sys2Proof
end

