-- ==== Sys2Proof/Tests/Slice0.lean ====
section
/-!
SUPPORT. The model's own tests. The expected values come from the worked examples of spec/, named at each test. The `witness_`
theorems show, for each statement of Certificates/Slice0/Obligations.lean that has hypotheses, a state and operands that meet
them.
-/

namespace Sys2Proof.Tests

open Sys2Proof.Machine

/-! ### A small station -/

/-- The settings of the worked examples: address 37 on trunk 3 and façade 2, Ncap 120, Qmax 1500, S 900. -/
def board : Settings :=
  { Settings.fallback with
    trunk := 3, trunkCapacity := 1500, facade := 2, sunSensor := true, feederLimit := 4, area := 120, areaRate := 3
    personRate := 100, capacity := 120, maxFlow := 1500, setpoint := 900, doors := 2, vacancyHold := 10, graceMinutes := 10
    park := 50
    groups := [⟨false, false⟩, ⟨true, false⟩, ⟨false, true⟩], travel := [40, 60] }

def anyDoor : Door := { state := .clear, beams := ⟨false, false⟩, blockTimer := none }

def anyGroup : Group := { window := false, handSelect := false, switch := false, level := 800, target := 800, fade := none }

def anyDrive : Drive :=
  { travel := 40, inService := true, streak := 0, position := some 0, state := .stopped, run := none, since := 0, due := none
    group := none, limits := ⟨false, false⟩ }

def anyRun : Run := { kind := .endRun, up := false, goal := 100, origin := some 0, length := 500 }

def anyEntry : Entry :=
  { id := 11, origin := 3, start := 540, stop := 630, mode := .lecture, expected := 90, lead := 15, weekly := true
    report := true, skip := false, amendments := 0, streak := 0, state := .pending, seen := false, grace := none, peak := 0
    occupied := 0, shortfall := 0, carried := false }

def anyPeer : Peer := { address := 14, age := 0, claim := none, sun := none, feeder := none }

/-- A started station in NORMAL, STANDBY and not vacant, its clock SET at 600, 10. -/
def room : State :=
  { State.reset with
    now := 5000
    loader := { phase := .normal, readTimer := none, address := some 37, settings := board }
    bus := { BusPort.off with receiver := .listen, line := .quiet }
    clock := { running := true, minute := 600, second := 10, tick := some 5500 }
    counter := { doors := [anyDoor, anyDoor], count := 0, vacant := false, quietTimer := some 600000 }
    peers := { PeerTable.empty with sweepTimer := some 6000 }
    air := { Air.idle with co2 := 900, co2State := .live, demand := 36, minimum := 36, grant := 36, command := 24, feedback := 24 }
    light := { Light.idle with groups := [anyGroup, { anyGroup with window := true }, { anyGroup with handSelect := true }] }
    blind := { Blind.idle with drives := [anyDrive, { anyDrive with travel := 60 }] } }

/-- The same station in FALLBACK. -/
def fallbackRoom : State :=
  { room with loader := { room.loader with phase := .fallback, settings := Settings.fallback } }

/-- The state a command leaves. -/
def after (i : Instr) (s : State) : State :=
  match exec i s with
  | .next t => t
  | .fault _ | .refused _ => s

/-- The image of a station with address 37, closed by its check. -/
def image (address trunkHigh trunkLow : Byte) (closed : Bool) : Vector Byte 48 :=
  let head : List Byte :=
    [address, 3, trunkHigh, trunkLow, 2, 1, 4, 0, 120, 3, 100, 0, 120, 5, 220, 3, 132, 2, 3, 0, 1, 2] ++ List.replicate 3 0 ++
      [2, 40, 60, 0, 0, 10, 10, 50] ++ List.replicate 13 0
  let check := crc head
  let all := head ++ [highByte check, if closed then lowByte check else ~~~ lowByte check]
  Vector.ofFn (fun i => all.getD i.val 0)

/-! ### WellFormed -/

theorem test_wellFormed_refuses :
    Instr.wellFormed (.lineCharacter 0b11000001001) = false ∧
    Instr.wellFormed (.timeMark 0 255 0 0) = false ∧ Instr.wellFormed (.timeMark 255 255 0 0) = false ∧
    Instr.wellFormed (.timeMark 3 0 0 0) = false ∧ Instr.wellFormed (.sessionOffer 0 37 1 0 10 .exam false false 0 0) = false ∧
    Instr.wellFormed (.sessionAmend 255 37 1 none none none none) = false ∧
    Instr.wellFormed (.sessionCancel 3 0 1 .series) = false ∧ Instr.wellFormed (.beamBreak 0 .a) = false ∧
    Instr.wellFormed (.beamClear 3 .a) = false ∧ Instr.wellFormed (.blockTimerExpiry 3) = false ∧
    Instr.wellFormed (.motionPulse 0) = false ∧ Instr.wellFormed (.motionPulse 5) = false ∧
    Instr.wellFormed (.claim 0 255 3 0 0 0 false) = false ∧ Instr.wellFormed (.sunReading 3 0 2 0 0) = false ∧
    Instr.wellFormed (.feederStart 255 255 2 1 1 0) = false ∧ Instr.wellFormed (.feederEnd 0 255 2 1) = false ∧
    Instr.wellFormed (.guardExpiry 0) = false ∧ Instr.wellFormed (.damperFeedback 1001) = false ∧
    Instr.wellFormed (.fadeStep 7) = false ∧ Instr.wellFormed (.wallSwitch 0 true) = false ∧
    Instr.wellFormed (.feederBackoffExpiry 5) = false ∧ Instr.wellFormed (.limitInput 0 .openEnd true) = false ∧
    Instr.wellFormed (.runTimerExpiry 5) = false ∧ Instr.wellFormed (.runWatchdogExpiry 0) = false ∧
    Instr.wellFormed (.statusRequest 0 37) = false ∧ Instr.wellFormed (.serviceRestart 3 0) = false ∧
    Instr.wellFormed (.serviceClear 255 37) = false := by decide

theorem test_wellFormed_accepts :
    Instr.wellFormed (.timeMark 1 255 10079 59) = true ∧ Instr.wellFormed (.timeMark 254 1 10080 60) = true ∧
    Instr.wellFormed (.beamBreak 2 .b) = true ∧ Instr.wellFormed (.motionPulse 4) = true ∧
    Instr.wellFormed (.damperFeedback 1000) = true ∧ Instr.wellFormed (.wallSwitch 6 false) = true ∧
    Instr.wellFormed (.limitInput 4 .closedEnd true) = true := by decide

theorem test_no_word_spells_a_command : decodeTableWord 16 0x1234 = none ∧ room.withFetchWord 16 0x1234 = room := by
  exact ⟨rfl, rfl⟩

/-! ### Frames (02, 12) -/

/-- The note under R12. -/
theorem test_check_of_nine_bytes :
    crc [49, 50, 51, 52, 53, 54, 55, 56, 57] = 10673 ∧ highByte 10673 = 41 ∧ lowByte 10673 = 177 := by decide +kernel

/-- "CLAIM, D 1063, M 36, class 2" (02, the worked queue), laid out by R182 and R184 from station 12, kind code 9. -/
theorem test_claim_is_read :
    room.route (closeFrame [255, 12, 0x09, 7, 3, 0x04, 0x27, 0x00, 0x24, 2, 0]) = some (.claim 12 255 3 1063 36 2 false) := by
  decide +kernel

/-- A TIME MARK for minute 660, second 0, and a SERVICE CLEAR to 37 alone (R17, R183). -/
theorem test_messages_are_read :
    room.route (closeFrame [255, 9, 0x01, 3, 0x02, 0x94, 0]) = some (.timeMark 9 255 660 0) ∧
    room.route (closeFrame [37, 9, 0x11, 0]) = some (.serviceClear 9 37) ∧
    room.route (closeFrame [255, 9, 0x11, 0]) = none ∧ room.route (closeFrame [37, 37, 0x11, 0]) = none := by decide +kernel

/-- A FEEDER START with façade 2, 2 drives, 32 s (02), and an AMEND of id 43 with new end 1200 and headcount 150 (03). -/
theorem test_bodies_are_read :
    readMessage { dest := 255, source := 21, code := 0x0B, body := [2, 2, 32] } 700 = some (.feederStart 21 255 2 2 32 700) ∧
    readMessage { dest := 37, source := 3, code := 0x03, body := [0, 43, 0x03, 0x04, 0xB0, 0, 150, 0] } 0 =
      some (.sessionAmend 3 37 43 (some 1200) (some 150) none none) := by decide

/-! ### The bus -/

def waiting (kind : Kind) (dest : Byte) : Frame := { kind := kind, dest := dest, body := [], tag := 0 }

/-- "A full queue" (02). -/
def fullQueue : BusPort :=
  { BusPort.off with queue :=
      [waiting .statusReply 200, waiting .statusReply 201, waiting .outcome 3, waiting .outcome 3, waiting .outcome 4,
       waiting .sessionReport 3, waiting .sunReading 255, waiting .hold 4, waiting .claim 255, waiting .feederEnd 255] }

theorem test_full_queue_evicts :
    (fullQueue.enqueue (waiting .resume 4)).1.queue.map (·.kind) =
      [.statusReply, .outcome, .outcome, .outcome, .sessionReport, .sunReading, .hold, .claim, .feederEnd, .resume] ∧
    ((fullQueue.enqueue (waiting .resume 4)).1.enqueue (waiting .outcome 5)).1.queue.map (·.dest) =
      [3, 3, 4, 3, 255, 4, 255, 255, 4, 5] ∧
    (((fullQueue.enqueue (waiting .resume 4)).1.enqueue (waiting .outcome 5)).1.enqueue (waiting .outcome 6)).2 = false ∧
    (fullQueue.enqueue (waiting .claim 255)).1.queue.length = 10 := by decide

/-- The transmitter takes the CLAIM of a quiet line at once, and a collision backs off by 1 or 2 slots (R22 to R24). -/
def claiming : State := { room with bus := { room.bus with transmitter := .sending (waiting .claim 255) 0 } }

/-- Byte 4, on the line as start 0, data 0 0 1 0 0 0 0 0, parity 1, stop 1; with the parity or the stop bit wrong (R13). -/
theorem test_character_on_the_line :
    characterOf 4 = 0b11000001000 ∧ readCharacter 0b11000001000 = .whole 4 ∧ readCharacter 0b10000001000 = .framingError ∧
    readCharacter 0b01000001000 = .framingError ∧ characterOf 3 = 0b10000000110 := by decide

theorem test_line_character_goes_on : (after (.lineCharacter (characterOf 255)) claiming).bus.transmitter =
    .sending (waiting .claim 255) 1 := by decide

/-- A frame that goes at its offer makes the line BUSY at its first character (R13, R22). -/
theorem test_own_character_is_busy :
    (offer (waiting .outcome 3) room).bus.transmitter = .sending (waiting .outcome 3) 0 ∧
    (offer (waiting .outcome 3) room).bus.line = .busy := by decide

theorem test_quiet_event_listens :
    (after .quietEvent { room with bus := { room.bus with receiver := .hunt, quietTimer := some 5002 } }).bus.receiver = .listen := by
  decide

/-! ### Settings (01) -/

/-- "A good image with clamped fields": C_T 25000 becomes 20000, and CONFIG_CLAMPED is raised. -/
theorem test_clamped_image :
    (settle (image 37 0x61 0xA8 true)).trunkCapacity = 20000 ∧ needsClamp (image 37 0x61 0xA8 true) = true ∧
    imageGood (image 37 0x61 0xA8 true) = true ∧ imageGood (image 37 0x61 0xA8 false) = false := by decide +kernel

/-! ### The clock and the list (03) -/

/-- "Worked adoptions", with d in seconds. -/
theorem test_mark_differences :
    markDifference (weekSecond 600 10) (weekSecond 600 12) = 2 ∧ markDifference (weekSecond 600 10) (weekSecond 600 40) = 30 ∧
    markDifference (weekSecond 600 40) (weekSecond 601 20) = 40 ∧
    markDifference (weekSecond 601 20) (weekSecond 600 50) = -30 ∧
    markDifference (weekSecond 600 50) (weekSecond 660 0) = 3550 ∧
    markDifference (weekSecond 660 0) (weekSecond 5700 0) = -302400 ∧
    markDifference (weekSecond 10079 50) (weekSecond 0 30) = 40 := by decide

theorem test_time_mark_quiet :
    (after (.timeMark 9 255 600 40) room).clock.second = 40 ∧ (after (.timeMark 9 255 600 12) room).clock.second = 10 := by decide

/-- The list of "Worked checks". -/
def list41 : List Entry :=
  [{ anyEntry with id := 41, amendments := 1 },
   { anyEntry with id := 42, start := 640, stop := 760, weekly := false, amendments := 4 },
   { anyEntry with id := 43, start := 780, stop := 900 }]

/-- The list after OFFER id 44. -/
def list44 : List Entry := insertEntry (offeredEntry 120 3 44 630 640 .lecture false true 10 0) list41

theorem test_worked_checks_of_offers :
    offerVerdict 120 list41 44 630 640 10 0 = .accepted ∧ offerVerdict 120 list44 45 900 905 10 0 = .badTimes ∧
    offerVerdict 120 list44 43 1000 1060 10 0 = .duplicateId ∧ offerVerdict 120 list44 46 750 800 10 0 = .overlap ∧
    list44.map (·.id) = [41, 44, 42, 43] := by decide

theorem test_worked_checks_of_amends :
    amendVerdict 120 list44 42 none none none (some 30) = .amendLimit ∧
    amendVerdict 120 list44 43 (some 1400) none none none = .badTimes ∧
    amendVerdict 120 list44 43 (some 1200) (some 150) none none = .acceptedClamped ∧
    amendVerdict 120 list44 41 (some 640) none none none = .overlap ∧
    amendVerdict 120 list44 47 none none none none = .unknownId ∧ cancelVerdict list44 0 = .unknownId := by decide

/-! ### Sessions (04) -/

/-- "Back-to-back sessions", entry 11 at 525 and 540, with N 40. -/
theorem test_entry_11_opens :
    ((anyEntry.evaluate 525 0 10 false).kept.map (·.state)) = some .precondition ∧
    ((anyEntry.evaluate 540 40 10 false).kept.map (fun e => (e.state, e.grace, e.seen, e.peak))) =
      some (.active, some 550, true, 40) := by decide

/-- "A series dropped for no-shows": the first occurrence makes the streak 2, the second drops the series. -/
theorem test_series_is_dropped :
    ((({ anyEntry with state := .active, grace := some 2055, streak := 1 } : Entry).evaluate 2055 0 15 false).kept.map
      (fun e => (e.state, e.streak, e.weekly))) = some (.dormant, 2, true) ∧
    ((({ anyEntry with state := .active, grace := some 2055, streak := 2 } : Entry).evaluate 2055 0 15 false).kept) = none := by
  decide

/-- Entry 11 ends at 630 and entry 12 prepares: the regime is PREPARE, EXAM (150). -/
def lecture : State :=
  { room with
    session := { SessionEngine.empty with
      entries :=
        [{ anyEntry with state := .active, seen := true, grace := some 550, peak := 92 },
         { anyEntry with id := 12, start := 640, stop := 730, mode := .exam, lead := 20, weekly := false, expected := 150
                         state := .precondition }]
      regime := .inSession, mode := some .lecture, lastMinute := some 629 }
    air := { room.air with regime := .inSession, mode := some .lecture }
    light := { room.light with regime := .inSession, mode := some .lecture, scene := .lecture }
    blind := { room.blind with regime := .inSession, mode := some .lecture }
    panel := { room.panel with regime := .inSession, mode := some .lecture } }

theorem test_minute_630 :
    (takeMinute 630 lecture).session.regime = .prepare ∧ (takeMinute 630 lecture).session.mode = some .exam ∧
    (takeMinute 630 lecture).session.preparingHead = 150 ∧
    (takeMinute 630 lecture).session.entries.map (·.state) = [.dormant, .precondition] := by decide

/-! ### Occupancy (05) -/

/-- "Passes through one door": the last two events of an entering body and of a leaving one. -/
theorem test_door_counts :
    ({ anyDoor with state := .spanIn, beams := ⟨true, true⟩ } : Door).take .a false 0 =
      ({ state := .leavingIn, beams := ⟨false, true⟩, blockTimer := some 6000 }, none) ∧
    ({ anyDoor with state := .leavingIn, beams := ⟨false, true⟩ } : Door).take .b false 0 = (anyDoor, some .entry) ∧
    ({ anyDoor with state := .leavingOut, beams := ⟨true, false⟩ } : Door).take .a false 0 = (anyDoor, some .exit) := by decide

theorem test_motion_pulse_counts_one : (after (.motionPulse 1) room).counter.count = 1 := by decide

theorem test_quiet_timer_empties :
    (after .quietTimerExpiry { room with counter := { room.counter with count := 3 } }).counter.count = 0 ∧
    (after .quietTimerExpiry { room with counter := { room.counter with count := 4 } }).counter.count = 4 := by decide

/-! ### The Peer Table (06) -/

/-- Peer 14 in slot 0, with a claim part of D 300, M 20, class 2. -/
def neighbour : State :=
  { room with peers := { room.peers with
      slots := some { anyPeer with claim := some ⟨300, 20, 2⟩, feeder := some ⟨2, 137000⟩ } :: List.replicate 31 none } }

/-- The example under R92: D 320 is written, and a withdrawal leaves an entry without a claim part. -/
theorem test_claim_changes_the_part :
    (after (.claim 14 255 3 320 20 2 false) neighbour).peers.claims = [⟨14, 320, 20, 2⟩] ∧
    (after (.claim 14 255 3 0 0 0 true) neighbour).peers.claims = [] := by decide

/-- A claim changed notice carries its part, a START is heard before its feeder changed notice with the drives now held, and an
END that empties the part sends feeder removed (R94 to R96, R101). -/
theorem test_notices_carry_their_values :
    (({ anyPeer with claim := some ⟨300, 20, 2⟩ } : Peer).record (.claim ⟨320, 20, 2⟩)).2 = [.claimChanged 14 ⟨320, 20, 2⟩] ∧
    (({ anyPeer with feeder := some ⟨2, 137000⟩ } : Peer).record (.start 1 127000 110000)).2 =
      [.startHeard 14 1 110000, .feederChanged 14 3] ∧
    (({ anyPeer with feeder := some ⟨2, 137000⟩ } : Peer).record (.stop 2)).2 = [.endHeard 14 2, .feederRemoved 14] ∧
    (({ anyPeer with age := 2, sun := some 64 } : Peer).record (.claim ⟨320, 20, 2⟩)).2 =
      [.claimAdded 14 ⟨320, 20, 2⟩, .sunFresh 14 64] := by decide

/-- "Feeder parts through a lost END": 1 more drive at 110 s for 12 s keeps the guard at 137 s. -/
theorem test_feeder_start_adds :
    ((after (.feederStart 14 255 2 1 12 110000) neighbour).peers.find 14).map (·.feeder) = some (some ⟨3, 137000⟩) := by decide +kernel

/-! ### Air (07) -/

/-- "Demand through a morning". -/
def morning : Air := { Air.idle with regime := .inSession, mode := some .lecture, count := 85, co2 := 1100 }

theorem test_demand_through_a_morning :
    ({ Air.idle with vacant := true } : Air).demandNow board = 9 ∧
    ({ Air.idle with regime := .prepare, preparingHead := 90, co2 := 500 } : Air).demandNow board = 936 ∧
    morning.demandNow board = 1063 ∧ morning.minimumNow board = 36 ∧
    ({ morning with boost := true } : Air).demandNow board = 1284 ∧
    ({ morning with count := 150, co2 := 2400 } : Air).demandNow board = 1500 ∧
    ({ morning with count := 100, co2 := 900 } : Air).demandNow board = 1036 := by decide

/-- "The grant, worked" and "Beyond the floor". -/
def view : List ClaimFigures := [⟨1063, 36, 2⟩, ⟨620, 40, 3⟩, ⟨300, 20, 2⟩, ⟨410, 30, 1⟩, ⟨25, 25, 0⟩]

theorem test_grants :
    view.map (grantOf 1500 view) = [640, 620, 184, 30, 25] ∧ commandFor board 640 = 427 ∧
    [⟨120, 120, 0⟩, ⟨90, 90, 0⟩, ⟨60, 60, 0⟩].map (grantOf 200 [⟨120, 120, 0⟩, ⟨90, 90, 0⟩, ⟨60, 60, 0⟩]) = [88, 66, 44] := by
  decide

theorem test_co2_reading_is_clamped :
    (after (.co2Reading 9000) room).air.co2 = 5000 ∧ (after (.co2Reading 9000) room).isRaised .co2High = true := by decide

/-! ### Light (08) -/

/-- "A session begins and the window groups settle": the three harvest steps of LECTURE, 500 lux. -/
theorem test_harvest_steps :
    harvested 800 500 620 = 750 ∧ harvested 750 500 585 = 708 ∧ harvested 708 500 448 = 734 := by decide

/-- The example under R136: an offset of −300 on 800 and 685. -/
theorem test_offset_outputs :
    ({ lecture.light with offset := -300 } : Light).output anyGroup = 500 ∧
    ({ lecture.light with offset := -300 } : Light).output { anyGroup with level := 685 } = 385 := by decide

theorem test_wall_switch_lights : (after (.wallSwitch 3 true) room).groupOutput 3 = 1000 := by decide

/-! ### Blinds (09) -/

/-- The example under R145. -/
theorem test_median : median [72, 65, 30] = 65 ∧ median [72, 65, 30, 90] = 68 ∧ median [72, 65, 90] = 72 := by decide

/-- The examples under R151 and R152. -/
theorem test_run_lengths :
    (anyDrive.plan 80).map (fun r => (r.kind, r.length, r.duration)) = some (.intermediate, 320, 32) ∧
    travelled 40 200 = 50 ∧ travelled 30 137 = 46 ∧ watchdogTenths 40 = 500 ∧ anyDrive.plan 3 = none := by decide

/-- A drive that runs toward its closed limit stops there, at 100, and its neighbours hear a FEEDER END (R152, R160). -/
def running : State :=
  { room with blind := { room.blind with
      applied := 100, wanted := 100
      drives := [{ anyDrive with state := .running, run := some anyRun, due := some 55000, group := some 0 }] } }

theorem test_limit_stops_the_drive :
    (after (.limitInput 1 .closedEnd true) running).blind.drives.map (fun d => (d.state, d.position)) = [(.stopped, some 100)] ∧
    (after (.limitInput 1 .closedEnd true) running).bus.transmitter.holds .feederEnd = true := by decide

/-! ### The panel (10) -/

/-- "A lecture adjusted and trapped". -/
theorem test_light_minus_traps :
    (after .lightMinus lecture).panel.offset = -100 ∧
    (after .lightMinus { lecture with panel := { lecture.panel with on := true, offset := -300 } }).panel.record =
      some { cause := .bandLight, value := -400, minute := 600 } := by decide

/-- The first row of the table of falling together (R173): the end taken after a trapping key writes its own cause, and one of a
later moment finds override OFF. -/
theorem test_end_replaces_the_trap :
    (after (.serviceRestart 9 37) (after .lightMinus
      { lecture with panel := { lecture.panel with on := true, offset := -300 } })).panel.record =
      some { cause := .restart, value := 0, minute := 600 } ∧
    (after (.serviceRestart 9 37) (((after .lightMinus
      { lecture with panel := { lecture.panel with on := true, offset := -300 } })).setNow 5001)).panel.record =
      some { cause := .bandLight, value := -400, minute := 600 } := by decide +kernel

theorem test_blind_up_from_80 :
    (after .blindUp { lecture with blind := { lecture.blind with applied := 80 } }).panel.target = some 55 := by decide

/-! ### The emergency line and status (11) -/

/-- The example under R178. -/
theorem test_top_alert :
    ({ AlertUnit.clear with raised := 0b110000, mask := 0b100000 } : AlertUnit).top = 5 ∧
    ({ AlertUnit.clear with raised := 0b100000, mask := 0b100000 } : AlertUnit).top = 0 := by decide

/-- "An evacuation during a lecture": the debounce expires with the line ASSERTED. -/
def alarm : State := { lecture with lines := { lecture.lines with emergency := true }, alert := { lecture.alert with debounce := some 5050 } }

theorem test_assertion :
    (after .debounceTimerExpiry alarm).groupOutput 1 = 1000 ∧ (after .debounceTimerExpiry alarm).damperOutput = 0 ∧
    (after .debounceTimerExpiry alarm).alert.top = 1 := by decide +kernel

theorem test_status_reply_is_sent : (after (.statusRequest 200 37) room).bus.transmitter.holds .statusReply = true := by decide

/-! ### Witnesses of the statements' hypotheses

Each theorem is named after its statement. It gives one state for each clause, at a boundary value where the clause has one. -/

theorem witness_StepTakesTheFrontCommand : ∃ c rest, ({ room with pending := [.resumeKey] } : State).pending = c :: rest :=
  ⟨_, _, rfl⟩

/-- A routed frame; a timer that is due, first at its very millisecond; none due. -/
theorem witness_IdleStepTakesWhatIsDue :
    room.pending = [] ∧ ({ room with inbox := [.serviceClear 9 37] } : State).inbox = [.serviceClear 9 37] ∧ room.inbox = [] ∧
    ({ room with now := 5500 } : State).dueCommand = some .clockSecond ∧ ({ room with now := 5499 } : State).dueCommand = none := by
  decide +kernel

theorem witness_PowerComesAndGoes : State.reset.loader.phase = .off := by decide

def reading : State := after .powerOn State.reset

theorem witness_ModeIsTaken :
    reading.loader.phase = .reading ∧ reading.loader.readTimer = some 1000 ∧
    (imageGood (image 1 7 208 true) = true ∧ (image 1 7 208 true).toList[0]? = some 1) ∧
    (imageGood (image 254 7 208 false) = false ∧ (image 254 7 208 false).toList[0]? = some 254) ∧
    (imageGood (image 0 7 208 true) = true ∧ (image 0 7 208 true).toList[0]? = some 0) ∧
    (imageGood (image 255 7 208 false) = false ∧ (image 255 7 208 false).toList[0]? = some 255) := by decide +kernel

/-- C_T at 99, 100, 20000 and 20001; a drive and a group of the image. -/
theorem witness_SettledValuesLieInTheirRanges :
    wordAt (image 37 0 99 true) 2 = 99 ∧ wordAt (image 37 0 100 true) 2 = 100 ∧ wordAt (image 37 0x4E 0x20 true) 2 = 20000 ∧
    wordAt (image 37 0x4E 0x21 true) 2 = 20001 ∧ (settle (image 37 0 100 true)).travel[1]? = some 60 ∧
    (settle (image 37 0 100 true)).groups[2]? = some ⟨false, true⟩ ∧ (settle (image 37 0 100 true)).travel.length = 2 := by
  decide +kernel

/-- An image in its ranges calls for no CONFIG_CLAMPED, and one with C_T at 99 does (R5, R8). -/
theorem test_clamping_is_told :
    needsClamp (image 37 0 100 true) = false ∧ needsClamp (image 37 0 99 true) = true := by decide +kernel

theorem witness_MessagesAreReadAsTheyAreSpelled :
    messageBody (.timeMark 9 255 660 0) = some (255, 9, 1, [2, 148, 0]) ∧
    room.accepts 9 255 (mayBroadcast (.timeMark 9 255 660 0)) = true ∧
    messageBody (.serviceClear 9 37) = some (37, 9, 17, []) ∧
    room.accepts 9 37 (mayBroadcast (.serviceClear 9 37)) = true ∧
    messageBody (.feederStart 21 255 2 2 32 5000) = some (255, 21, 11, [2, 2, 32]) ∧
    room.accepts 21 255 (mayBroadcast (.feederStart 21 255 2 2 32 5000)) = true ∧ room.now = 5000 := by decide

def sendingAt (next attempts : Nat) : State :=
  { room with bus := { room.bus with transmitter := .sending (waiting .claim 255) next, attempts := attempts } }

/-- LISTEN and HUNT; the first character of a frame, and the last of its six. -/
theorem witness_CharactersAreTakenFromTheLine :
    (room.started = true ∧ room.bus.transmitter = .idle ∧ room.bus.receiver = .listen) ∧
    ({ room with bus := { room.bus with receiver := .hunt } } : State).bus.receiver = .hunt ∧
    ((sendingAt 0 0).started = true ∧ (sendingAt 0 0).loader.address = some 37 ∧
      hasStart (characterOf 255) = true ∧ (characterOf 255).getLsbD 0 = false ∧
      ((waiting .claim 255).characters 37)[0]? = some 255 ∧ 0 + 1 < ((waiting .claim 255).characters 37).length) ∧
    ((sendingAt 5 0).bus.transmitter = .sending (waiting .claim 255) 5 ∧
      ((waiting .claim 255).characters 37)[5]? = some (lowByte (crc [255, 37, 9, 0])) ∧
      5 + 1 = ((waiting .claim 255).characters 37).length ∧ (waiting .claim 255).kind ≠ .feederStart) := by decide +kernel

def startFrame : Frame := { kind := .feederStart, dest := 255, body := [2, 1, 32], tag := 4 }

def sendingStart (next : Nat) (hand : StartInHand) (orphans : List Orphan) : State :=
  { room with
    bus := { room.bus with transmitter := .sending startFrame next, attempts := 7 }
    blind := { room.blind with hand := hand, orphans := orphans } }

/-- The last of a FEEDER START's nine characters: its report awaited, orphaned behind another, and neither. -/
theorem witness_CharactersAreTakenFromTheLine_start :
    ((sendingStart 8 .nothing []).started = true ∧ (sendingStart 8 .nothing []).loader.address = some 37 ∧
      (sendingStart 8 .nothing []).bus.transmitter = .sending startFrame 8 ∧
      (startFrame.characters 37)[8]? = some (lowByte (crc [255, 37, 11, 3, 2, 1, 32])) ∧
      8 + 1 = (startFrame.characters 37).length ∧ startFrame.kind = .feederStart) ∧
    (sendingStart 8 (.awaiting 0 1 4) []).blind.hand = .awaiting 0 1 startFrame.tag ∧
    (∀ group drives, (sendingStart 8 .nothing []).blind.hand ≠ .awaiting group drives startFrame.tag) ∧
    ((sendingStart 8 .nothing [⟨9, 1⟩, ⟨4, 2⟩]).blind.orphans = [⟨9, 1⟩] ++ ⟨4, 2⟩ :: [] ∧ (⟨4, 2⟩ : Orphan).tag = startFrame.tag ∧
      ∀ x ∈ [(⟨9, 1⟩ : Orphan)], x.tag ≠ startFrame.tag) :=
  ⟨by decide +kernel, rfl, nofun, by decide⟩

/-- The seventh collision of a frame backs off, the eighth discards it. -/
theorem witness_CollisionsBackOff :
    ((sendingAt 0 6).started = true ∧ (sendingAt 0 6).loader.address = some 37 ∧
      (sendingAt 0 6).bus.transmitter = .sending (waiting .claim 255) 0 ∧
      (characterOf 254).getLsbD 0 = false ∧
      (∀ v, ((waiting .claim 255).characters 37)[0]? = some v → characterOf 254 ≠ characterOf v) ∧
      (sendingAt 0 6).bus.attempts + 1 < 8) ∧
    ((sendingAt 0 7).started = true ∧ 8 ≤ (sendingAt 0 7).bus.attempts + 1 ∧ (waiting .claim 255).kind ≠ .feederStart) := by
  refine ⟨⟨rfl, rfl, rfl, by decide, fun v h => ?_, by decide⟩, by decide⟩
  obtain rfl : v = 255 := by simpa [Frame.characters, closeFrame, coveredBytes, waiting, eq_comm] using h
  decide

/-- The eighth collision of a FEEDER START, its report awaited and not. -/
theorem witness_CollisionsBackOff_start :
    ((sendingStart 0 (.awaiting 0 1 4) []).started = true ∧ 8 ≤ (sendingStart 0 (.awaiting 0 1 4) []).bus.attempts + 1 ∧
      startFrame.kind = .feederStart ∧
      (∀ d ∈ (sendingStart 0 (.awaiting 0 1 4) []).blind.drives, d.state ≠ .waitStage ∧ d.state ≠ .waitFeeder) ∧
      (sendingStart 0 (.awaiting 0 1 4) []).blind.hand = .awaiting 0 1 startFrame.tag) ∧
    ∀ group drives, (sendingStart 0 .nothing [⟨4, 2⟩]).blind.hand ≠ .awaiting group drives startFrame.tag :=
  ⟨by decide, nofun⟩

def listening (b : BusPort) : State := { room with bus := { b with quietTimer := some 5002 } }

theorem witness_QuietEventsAndBackoffsAct :
    (listening room.bus).started = true ∧ (listening room.bus).bus.quietTimer = some 5002 ∧
    (listening { room.bus with queue := [waiting .claim 255] }).bus.headPlace = some 0 ∧
    (listening room.bus).bus.headPlace = none ∧
    (listening { room.bus with transmitter := .backingOff (waiting .claim 255) (.running 5008) }).bus.transmitter =
      .backingOff (waiting .claim 255) (.running 5008) ∧
    room.bus.line = .quiet ∧ ({ room.bus with line := .busy } : BusPort).line = .busy := by decide

/-- No hold and a hold; a replacement; 9 frames and 10; no class worse, and one. -/
theorem witness_QueueOrdersReplacesAndEvicts :
    (fullQueue.hold = false ∧ fullQueue.headPlace = some 9) ∧
    ({ fullQueue with hold := true, queue := [waiting .claim 255, waiting .identity 255] } : BusPort).headPlace = some 1 ∧
    replaces (waiting .claim 255) (waiting .claim 255) = true ∧
    ((∀ g ∈ fullQueue.queue, replaces (waiting .resume 4) g = false) ∧ 10 ≤ fullQueue.queue.length) ∧
    (∀ g ∈ fullQueue.queue, g.kind.rank ≤ (waiting .statusReply 202).kind.rank) ∧
    ((waiting .resume 4).kind.rank < (waiting .statusReply 201).kind.rank ∧
      (∀ g ∈ fullQueue.queue.take 1, g.kind.rank ≤ (waiting .statusReply 201).kind.rank) ∧
      ∀ g ∈ fullQueue.queue.drop 2, g.kind.rank < (waiting .statusReply 201).kind.rank) ∧
    (fullQueue.queue.take 9).length < 10 := by decide

def unaddressed : State := { fallbackRoom with loader := { fallbackRoom.loader with address := none } }

/-- No working address; FALLBACK, with a kind it takes and one it does not; NORMAL; a head that goes, and the three that hold
it back. -/
theorem witness_QueueOrdersReplacesAndEvicts_offers :
    unaddressed.loader.address = none ∧
    (fallbackRoom.loader.phase = .fallback ∧ (waiting .claim 255).kind ≠ .identity ∧ (waiting .claim 255).kind ≠ .statusReply ∧
      (waiting .claim 255).kind ≠ .outcome) ∧
    (fallbackRoom.loader.address ≠ none ∧ (waiting .outcome 3).kind = .outcome) ∧
    (room.loader.address ≠ none ∧ room.loader.phase = .normal) ∧
    ((listening { room.bus with queue := [waiting .claim 255] }).bus.transmitter = .idle ∧ room.bus.line = .quiet ∧
      (listening { room.bus with queue := [waiting .claim 255] }).bus.headPlace = some 0) ∧
    ((sendingAt 0 0).bus.transmitter ≠ .idle ∧ ({ room.bus with line := .busy } : BusPort).line = .busy ∧
      room.bus.headPlace = none) ∧
    replaces (waiting .statusReply 200) (waiting .statusReply 200) = true := by decide

theorem room_busLaw : BusLaw room.bus := by
  constructor
  case replies => exact fun _ => by simp [room, BusPort.off]
  all_goals decide

theorem witness_EveryStepKeepsTheBusLaw : BusLaw room.bus ∧ ∃ t, step room = .next t := ⟨room_busLaw, _, rfl⟩

def ticking (running : Bool) (second : Nat) : State := { room with clock := { room.clock with running := running, second := second } }

/-- UNSET; SET with the second at 58 and at 59. -/
theorem witness_SecondsAreCounted :
    ((ticking false 0).started = true ∧ (ticking false 0).clock.tick = some 5500 ∧ (ticking false 0).clock.running = false) ∧
    ((ticking true 58).started = true ∧ (ticking true 58).clock.tick = some 5500 ∧ (ticking true 58).clock.running = true ∧
      (ticking true 58).clock.second < 59) ∧
    (59 ≤ (ticking true 59).clock.second ∧ (ticking true 59).clock.tick = some 5500) := by decide

/-- Minute 10080 and second 60 are out of range; minute 10079 and second 59 are not. -/
theorem witness_FirstMarkIsAdoptedWhole :
    (ticking false 0).accepts 9 255 true = true ∧ 10080 ≤ (10080 : Word).toNat ∧ 60 ≤ (60 : Byte).toNat ∧
    (10079 : Word).toNat < 10080 ∧ (59 : Byte).toNat < 60 ∧ (ticking false 0).clock.running = false := by decide

/-- The raw difference of a mark from the clock of `room`. -/
def rawDifference (minute : Word) (second : Byte) : Int :=
  ((minute.toNat * 60 + second.toNat : Nat) : Int) - ((room.clock.minute * 60 + room.clock.second : Nat) : Int)

/-- d of 2, 3, −3, 60 in another minute, and 61; and −302400, brought from 302400 by k = 1. -/
theorem witness_MarksMoveTheClock :
    room.accepts 9 255 true = true ∧ room.clock.running = true ∧ (5640 : Word).toNat < 10080 ∧ (13 : Byte).toNat < 60 ∧
    rawDifference 600 12 = 2 + 604800 * 0 ∧ rawDifference 600 13 = 3 + 604800 * 0 ∧ rawDifference 600 7 = -3 + 604800 * 0 ∧
    (rawDifference 601 10 = 60 + 604800 * 0 ∧ (601 : Word).toNat ≠ room.clock.minute) ∧
    rawDifference 601 11 = 61 + 604800 * 0 ∧ rawDifference 5640 10 = -302400 + 604800 * 1 := by decide

def booked (queue : List Item) (merge : Option Merge) : State := { room with intake := { room.intake with queue := queue, merge := merge } }

def anyItem : Item := { sender := 3, id := 44, request := .offer 630 640 .lecture false true 10 0 }

/-- A merge in flight with 4 and 7 items waiting; an IDLE merge; FALLBACK; 8 items waiting. -/
theorem witness_BookingsAreQueuedMergedOrTurnedAway :
    bookingOf (.sessionOffer 3 37 44 630 640 .lecture false true 10 0) = some { source := 3, dest := 37, item := anyItem } ∧
    room.accepts 3 37 false = true ∧ room.isNormal = true ∧
    (booked (List.replicate 4 anyItem) (some ⟨anyItem, 5005⟩)).intake.queue.length + 1 = 5 ∧
    (booked (List.replicate 7 anyItem) (some ⟨anyItem, 5005⟩)).intake.queue.length < 8 ∧
    room.intake.merge = none ∧ room.intake.queue = [] ∧ fallbackRoom.isNormal = false ∧ fallbackRoom.accepts 3 37 false = true ∧
    8 ≤ (booked (List.replicate 8 anyItem) (some ⟨anyItem, 5005⟩)).intake.queue.length := by decide

theorem witness_MergesComplete :
    (booked [] (some ⟨anyItem, 5005⟩)).started = true ∧ (booked [] (some ⟨anyItem, 5005⟩)).intake.merge = some ⟨anyItem, 5005⟩ ∧
    (judgeItem 120 [] anyItem).accepts = true ∧ (judgeItem 120 [] { anyItem with id := 0 }).accepts = false ∧
    (booked [] (some ⟨anyItem, 5005⟩)).intake.queue = [] ∧
    (booked [anyItem] (some ⟨anyItem, 5005⟩)).intake.queue = [anyItem] ∧ lecture.session.lastMinute = some 629 ∧
    (room.session.catchUp = false ∧ ({ room.session with catchUp := true } : SessionEngine).catchUp = true) := by decide

/-- A merge in flight with two events held and an occupancy catch-up owed. -/
def merging (item : Item) : State :=
  { lecture with
    intake := { lecture.intake with
      merge := some ⟨item, 5005⟩, queue := [anyItem], heldEvents := [.jump 600 10 628 0 true, .minute 629] }
    session := { lecture.session with catchUp := true } }

/-- What such a merge leaves: the held events taken in order, the OUTCOME offered and the next merge begun (R39, R40, R50, R59). -/
theorem test_merge_completes :
    (after .mergeCompletion (merging { anyItem with id := 0 })).session.lastMinute = some 629 ∧
    (after .mergeCompletion (merging { anyItem with id := 0 })).session.catchUp = false ∧
    (after .mergeCompletion (merging { anyItem with id := 0 })).intake.merge.isSome = true ∧
    (after .mergeCompletion (merging { anyItem with id := 0 })).bus.transmitter.holds .outcome = true := by
  decide +kernel

/-- A list of distinct ids, entries of every state, repeating and not. -/
theorem witness_ItemsAreJudgedAndWritten :
    (list44.map (·.id)).Nodup ∧ (∀ e ∈ list41, e.id ≠ 44) ∧ list41 = list41.take 1 ++ list41[1] :: list41.drop 2 ∧
    list41[1].weekly = false ∧ list41[2].weekly = true ∧ list41[2].state = .pending ∧
    lecture.session.entries.map (fun e => (e.weekly, e.state)) = [(true, .active), (false, .precondition)] ∧
    (lecture.session.entries.map (·.id)).Nodup ∧ 629 ≤ 629 ∧ (list41.find? (fun e => e.id == 41)).isSome = true := by decide

/-- An OFFER whose lead window holds the last minute taken begins in PRECONDITION, and an ACTIVE entry amended to an end at or
before that minute is closed (R45, R46, R49). -/
theorem test_at_once :
    (applyItem 120 ⟨some 619, 0, 10⟩ { anyItem with request := .offer 630 640 .lecture false true 10 15 }
      ⟨[], [], 0⟩).entries.map (·.state) = [.precondition] ∧
    (applyItem 120 ⟨some 629, 0, 10⟩ { anyItem with id := 11, request := .amend (some 629) none none none }
      ⟨lecture.session.entries, [], 0⟩).entries.map (·.state) = [.dormant, .precondition] := by decide

/-- The settings, with the list of the worked checks. -/
theorem room_loaderLaw : LoaderLaw room.loader := by
  constructor
  case settings => constructor <;> decide
  case address => exact fun a h => by cases h; decide
  all_goals decide

theorem witness_EveryStepKeepsTheSessionListLaw :
    LoaderLaw room.loader ∧ ListLaw board.capacity (list41.map (fun e => { e with expected := 90 })) ∧ ∃ t, step room = .next t :=
  ⟨room_loaderLaw, by constructor <;> decide, _, rfl⟩

/-- A window over the end of the week; the rows of each state, a carried entry among them. -/
theorem witness_EntriesAreEvaluatedInTheirWindows :
    ({ anyEntry with start := 30, stop := 120, lead := 60 } : Entry).inLead 10050 = true ∧
    ({ anyEntry with start := 30, stop := 120, lead := 60 } : Entry).inLead 29 = true ∧
    anyEntry.inLead 525 = true ∧ anyEntry.inInterval 540 = true ∧ anyEntry.inInterval 630 = false ∧ anyEntry.inWhole 524 = false ∧
    ({ anyEntry with skip := true } : Entry).skip = true ∧ ({ anyEntry with carried := true } : Entry).carried = true ∧
    ({ anyEntry with state := .active, grace := some 550 } : Entry).grace = some 550 ∧
    ({ anyEntry with state := .active, grace := some 550 } : Entry).seen = false ∧ 630 = anyEntry.stop % 10080 := by decide

/-- Streaks 1 and 2 of a repeating entry; a one-off; seen and unseen. -/
theorem witness_OccurrencesEndByTheProcedure :
    ((decide (EndCause.noShow = .noShow) && anyEntry.weekly && decide (2 ≤ 1)) = false) ∧
    ((decide (EndCause.noShow = .noShow) && anyEntry.weekly && decide (2 ≤ 2)) = true) ∧
    ({ anyEntry with weekly := false } : Entry).weekly = false ∧ ({ anyEntry with seen := true } : Entry).seen = true ∧
    anyEntry.seen = false ∧ anyEntry.report = true ∧ ({ anyEntry with report := false } : Entry).report = false := by decide

theorem witness_ClockEventsReachEveryEntry :
    lecture.session.lastMinute = some 629 ∧ lecture.session.lastMinute ≠ some 630 ∧ lecture.counter.count = 0 := by decide

/-- An ACTIVE entry from 540 to 630 with its deadline at 550. -/
def opened : Entry := { anyEntry with state := .active, grace := some 550 }

/-- A jump from 545 to 630 passes the end, the first minute after it, and one to 550 the deadline alone; one back to 539 leaves
the interval, and one to 540 does not. A PENDING entry under a jump from 539 to 629 and from 539 to 630. A carried one that a jump
to 540 makes ACTIVE, and a DORMANT one in its window and past it. -/
theorem witness_ClockEventsReachEveryEntry_jumps :
    (opened.state = .active ∧ (1 ≤ 85 ∧ 85 ≤ (630 + 10080 - 545) % 10080 ∧ opened.stop % 10080 = (545 + 85) % 10080)) ∧
    (1 ≤ 5 ∧ 5 ≤ (550 + 10080 - 545) % 10080 ∧ opened.grace = some ((545 + 5) % 10080) ∧ ¬85 ≤ (550 + 10080 - 545) % 10080) ∧
    (opened.inInterval 539 = false ∧ opened.inLead 539 = true ∧ opened.inInterval 540 = true) ∧
    (anyEntry.state = .pending ∧ 1 ≤ 91 ∧ 91 ≤ (630 + 10080 - 539) % 10080 ∧ anyEntry.start = (539 + 1) % 10080 ∧
      anyEntry.stop % 10080 = (539 + 91) % 10080 ∧ ¬91 ≤ (629 + 10080 - 539) % 10080) ∧
    (({ anyEntry with carried := true } : Entry).inLead 540 = false ∧ ({ anyEntry with carried := true } : Entry).inInterval 540 = true) ∧
    (({ anyEntry with state := .dormant } : Entry).inWhole 540 = true ∧ anyEntry.inWhole 630 = false) := by decide

theorem witness_EveryStepKeepsTheRegimeLaw : RegimeLaw lecture.session ∧ ∃ t, step lecture = .next t :=
  ⟨by constructor <;> decide, _, rfl⟩

theorem witness_EveryStepKeepsTheRoomLaw : RoomLaw lecture ∧ ∃ t, step lecture = .next t :=
  ⟨by constructor <;> decide, _, rfl⟩

def wedged : Door := { anyDoor with state := .blocked, beams := ⟨true, false⟩ }

def crossing : Door := { anyDoor with state := .leavingIn, beams := ⟨false, true⟩, blockTimer := some 11000 }

def leaving : Door := { anyDoor with state := .leavingOut, beams := ⟨true, false⟩, blockTimer := some 11000 }

theorem anyDoor_lawful : DoorLaw anyDoor := by constructor <;> decide

theorem wedged_lawful : DoorLaw wedged := by constructor <;> decide

theorem crossing_lawful : DoorLaw crossing := by constructor <;> decide

theorem leaving_lawful : DoorLaw leaving := by constructor <;> decide

theorem witness_DoorsCountWholePasses :
    DoorLaw anyDoor ∧ DoorLaw wedged ∧ DoorLaw crossing ∧ DoorLaw leaving ∧ crossing.beams.get .b ≠ false ∧
    leaving.beams.get .a ≠ false ∧ wedged.beams.get .a ≠ false ∧ anyDoor.beams.get .a ≠ true :=
  ⟨anyDoor_lawful, wedged_lawful, crossing_lawful, leaving_lawful, by decide⟩

def withDoor (d : Door) : State := { room with counter := { room.counter with doors := [anyDoor, d] } }

/-- A repeat, an event without a count, one of a BLOCKED door, an ENTRY and an EXIT; a running block timer. -/
theorem witness_BeamEventsAreCounted :
    (withDoor crossing).started = true ∧ pick? (withDoor crossing).lines.beams 2 = some ⟨false, false⟩ ∧
    pick? (withDoor crossing).counter.doors 2 = some crossing ∧ crossing.take .b false 5000 = (anyDoor, some .entry) ∧
    crossing.beams.get .b ≠ false ∧ crossing.state ≠ .blocked ∧ leaving.take .a false 5000 = (anyDoor, some .exit) ∧
    (wedged.take .a false 5000).2 = none ∧ wedged.state = .blocked ∧ wedged.beams.get .a ≠ false ∧
    anyDoor.beams.get .a = false ∧ (anyDoor.take .a true 5000).2 = none ∧ anyDoor.beams.get .a ≠ true ∧
    crossing.blockTimer = some 11000 := by decide

def counting (n : Nat) : State := { room with counter := { room.counter with count := n } }

/-- Inputs 1 and 4; N at 0 and above; a merge in flight; N at 4 and at 3. -/
theorem witness_PresenceAndQuietDecideVacancy :
    ((counting 0).started = true ∧ 1 ≤ 1 ∧ 4 ≤ 4 ∧ (counting 0).intake.merge = none ∧ (counting 0).counter.count = 0) ∧
    ((counting 1).intake.merge = none ∧ 0 < (counting 1).counter.count) ∧
    (booked [] (some ⟨anyItem, 5005⟩)).intake.merge ≠ none ∧
    ((counting 4).counter.quietTimer = some 600000 ∧ 4 ≤ (counting 4).counter.count) ∧
    ((counting 3).counter.quietTimer = some 600000 ∧ (counting 3).counter.count ≤ 3) := by decide

theorem witness_EveryStepKeepsTheCounterLaw : CounterLaw room ∧ ∃ t, step room = .next t := by
  refine ⟨?_, _, rfl⟩
  constructor
  case doors =>
    intro d h
    obtain rfl : d = anyDoor := by simpa [room] using h
    exact anyDoor_lawful
  all_goals decide

/-- A peer that holds an entry, one that has none while a slot is free, and values at the ends of their ranges. -/
theorem witness_MessagesAreRecorded :
    neighbour.accepts 14 255 true = true ∧ (neighbour.peers.find 14).isSome = true ∧ neighbour.accepts 15 255 true = true ∧
    neighbour.peers.find 15 = none ∧ neighbour.peers.freeSlot = some 1 ∧ neighbour.loader.settings.trunk = (3 : Byte).toNat ∧
    neighbour.loader.settings.trunk ≠ 0 ∧ neighbour.loader.settings.facade = (2 : Byte).toNat ∧
    neighbour.loader.settings.facade ≠ 0 ∧ (4000 : Word).toNat ≤ 4000 ∧ (3 : Byte).toNat ≤ 3 ∧ (100 : Byte).toNat ≤ 100 ∧
    (150 : Byte).toNat ≤ 150 ∧ 1 ≤ (1 : Byte).toNat ∧ (4 : Byte).toNat ≤ 4 := by decide

/-- Values past their ranges; a full table with one entry of age 2, and one with every age 0. -/
def fullTable (first : Nat) : PeerTable :=
  { PeerTable.empty with slots := some { anyPeer with age := first } :: List.replicate 31 (some { anyPeer with address := 15 }) }

theorem witness_MessagesWithoutAPlace :
    room.accepts 37 255 true = false ∧ fallbackRoom.loader.settings.trunk = 0 ∧ fallbackRoom.loader.settings.facade = 0 ∧
    (4 : Byte).toNat ≠ room.loader.settings.trunk ∧ room.peers.find 14 = none ∧ 4000 < (4001 : Word).toNat ∧
    3 < (4 : Byte).toNat ∧ 100 < (101 : Byte).toNat ∧ 150 < (151 : Byte).toNat ∧ 4 < (5 : Byte).toNat ∧
    (fullTable 2).find 41 = none ∧ (PeerMessage.sun 64).adds = true ∧ (fullTable 2).freeSlot = none ∧
    (fullTable 2).slots[0]? = some (some { anyPeer with age := 2 }) ∧
    (∀ slot ∈ (fullTable 2).slots.drop 1, slot.map (·.age) = some 0) ∧
    (∀ slot ∈ (fullTable 0).slots, slot.map (·.age) = some 0) := by decide +kernel

def crowded (first : Nat) : State := { room with peers := fullTable first }

/-- A CLAIM, a SUN READING and a FEEDER START, each at the ends of its ranges, from a source that a full table does not hold. -/
theorem witness_MessagesWithoutAPlace_full :
    ((crowded 1).accepts 41 255 true = true ∧ (crowded 1).peers.find 41 = none ∧ (crowded 1).peers.freeSlot = none) ∧
    ((crowded 1).loader.settings.trunk ≠ 0 ∧ (3 : Byte).toNat = (crowded 1).loader.settings.trunk ∧
      (4000 : Word).toNat ≤ (4000 : Word).toNat ∧ (4000 : Word).toNat ≤ 4000 ∧ (3 : Byte).toNat ≤ 3) ∧
    ((crowded 1).loader.settings.facade ≠ 0 ∧ (2 : Byte).toNat = (crowded 1).loader.settings.facade ∧
      (100 : Byte).toNat ≤ 100 ∧ (150 : Byte).toNat ≤ 150 ∧ 1 ≤ (1 : Byte).toNat ∧ (4 : Byte).toNat ≤ 4) ∧
    ((crowded 1).peers.slots[0]? = some (some { anyPeer with age := 1 }) ∧
      ∀ slot ∈ (crowded 1).peers.slots.drop 1, slot.map (·.age) = some 0) ∧
    ((crowded 0).accepts 41 255 true = true ∧ (crowded 0).peers.find 41 = none ∧ (crowded 0).peers.freeSlot = none ∧
      ∀ slot ∈ (crowded 0).peers.slots, slot.map (·.age) = some 0) := by decide +kernel

def sweeping (age : Nat) : State :=
  { room with peers := { room.peers with
      slots := some { anyPeer with age := age, feeder := some ⟨2, 137000⟩ } :: List.replicate 31 none } }

theorem witness_SweepsAgeAndGuardsExpire :
    (sweeping 1).started = true ∧ (sweeping 1).peers.sweepTimer = some 6000 ∧
    (sweeping 1).peers.pointer < (sweeping 1).peers.slots.length ∧ room.peers.slots[room.peers.pointer]? = some none ∧
    ((sweeping 1).peers.slots[0]?).bind (·.map (·.age)) = some 1 ∧ ((sweeping 2).peers.slots[0]?).bind (·.map (·.age)) = some 2 ∧
    (sweeping 1).peers.find 14 = some { anyPeer with age := 1, feeder := some ⟨2, 137000⟩ } := by decide

theorem witness_EveryStepKeepsThePeerLaw : PeerLaw room ∧ ∃ t, step room = .next t := by
  have none_held : ∀ p : Peer, some p ∉ room.peers.slots := fun p h => by simp [room, PeerTable.empty] at h
  have none_at : ∀ (i : Nat) (p : Peer), room.peers.slots[i]? ≠ some (some p) := fun i p h =>
    none_held p (List.mem_of_getElem? h)
  exact ⟨⟨by decide, by decide, fun p h => absurd h (none_held p), fun i _ p _ h _ _ => absurd h (none_at i p),
    fun _ p => none_held p⟩, ⟨_, rfl⟩⟩

/-- PREPARE and the other regimes; C at S and above it; setback and none. -/
theorem witness_FiguresFollowTheRules :
    ({ morning with regime := .prepare } : Air).regime = .prepare ∧ morning.regime ≠ .prepare ∧
    ({ morning with co2 := 900 } : Air).co2 ≤ board.setpoint ∧ board.setpoint < ({ morning with co2 := 901 } : Air).co2 ∧
    (({ Air.idle with vacant := true } : Air).regime = .standby ∧ ({ Air.idle with vacant := true } : Air).vacant = true) ∧
    ¬(morning.regime = .standby ∧ morning.vacant = true) := by decide

theorem witness_GrantsShareTheTrunk :
    (∀ p ∈ view, p.minimum ≤ p.demand ∧ p.claimClass ≤ 3) ∧ (view.map (·.minimum)).sum ≤ 151 ∧
    150 < (view.map (·.minimum)).sum ∧ grantOf 1500 view ⟨1063, 36, 2⟩ < 1063 := by decide

/-- Class 3 finds 1500 − 151 and needs 580; class 2 finds 769 and needs 1307; class 1 finds nothing. -/
theorem witness_GrantsShareTheTrunk_extras :
    (view.map (·.minimum)).sum ≤ 1500 ∧ (∀ p ∈ view, p.minimum ≤ p.demand ∧ p.claimClass ≤ 3) ∧
    ((view.filter (·.claimClass == 3)).map (fun p => p.demand - p.minimum)).sum = 580 ∧ 580 ≤ 1500 - 151 ∧
    ((view.filter (·.claimClass == 2)).map (fun p => p.demand - p.minimum)).sum = 1307 ∧ 1500 - 151 - 580 < 1307 ∧
    grantOf 1500 view ⟨1063, 36, 2⟩ = 36 + 1027 * 769 / 1307 := by decide

def airing (a : Air) : State := { room with air := a }

theorem witness_Co2IsTakenAndLost :
    (airing { room.air with co2Timer := some 905000 }).started = true ∧
    (airing { room.air with co2Timer := some 905000 }).isRaised .co2Lost = false ∧
    (airing { room.air with co2Timer := some 905000 }).air.co2Timer = some 905000 ∧
    (airing { room.air with co2Timer := some 905000 }).isNormal = true := by decide

/-- A closing window, pending or not, asserted or not. -/
def closing (pending asserted : Bool) : State :=
  airing { room.air with
    rateWindow := some 5100, refreshTimer := some 5100, faultTimer := some 5100, shortfallTimer := some 5100
    pendingTrigger := pending, emergency := asserted }

/-- Feedback 100 and 101 from the command of 24; the running timers. -/
theorem witness_AirTimersAndDamperAct :
    ((closing false false).started = true ∧ (closing false false).air.rateWindow = some 5100 ∧
      (closing false false).air.pendingTrigger = false) ∧
    ((closing true false).air.pendingTrigger = true ∧ (closing true false).air.emergency = false) ∧
    ((closing true true).air.pendingTrigger = true ∧ (closing true true).air.emergency = true) ∧
    ((closing false false).air.refreshTimer = some 5100 ∧ (closing false false).air.faultTimer = some 5100 ∧
      (closing false false).air.shortfallTimer = some 5100) ∧
    (room.air.command ≤ 124 + 100 ∧ 124 ≤ room.air.command + 100) ∧ room.air.command + 100 < 125 := by decide

def recorded (demand : Nat) (window : Timer) : State :=
  airing { room.air with record := some ⟨demand, 36, 0⟩, rateWindow := window }

/-- D 10 from the record and 9 from it, against the step of 10; no record; the window closed and open; no trunk; asserted. -/
theorem witness_AirTimersAndDamperAct_triggers :
    ((recorded 46 none).air.triggerTest = true ∧ (recorded 45 none).air.triggerTest = false ∧ room.air.record = none) ∧
    ((recorded 46 none).air.emergency = false ∧ (recorded 46 none).loader.settings.trunk ≠ 0 ∧
      (recorded 46 none).isNormal = true ∧ (recorded 46 none).air.rateWindow = none ∧
      (recorded 46 (some 5100)).air.rateWindow ≠ none) ∧
    fallbackRoom.loader.settings.trunk = 0 ∧ (closing true true).air.emergency = true := by decide

theorem witness_EveryStepKeepsTheAirLaw : AirLaw room ∧ ∃ t, step room = .next t := by
  refine ⟨?_, _, rfl⟩
  constructor
  case table => exact fun _ p h => by simp [room, PeerTable.empty] at h
  case grant => exact fun _ _ => by decide
  all_goals decide

/-- A scene held, a change while asserted, a change to a lit scene and one to OFF. -/
theorem witness_ScenesFollowTheRegime :
    sceneOf room.light.regime room.light.mode room.light.vacant = room.light.scene ∧
    sceneOf .inSession (some .exam) false ≠ lecture.light.scene ∧ sceneOf .inSession (some .exam) false ≠ .off ∧
    sceneOf .standby none true = .off ∧ Scene.off ≠ room.light.scene ∧
    ({ room.light with emergency := true } : Light).emergency = true ∧ room.light.emergency = false := by decide

def harvesting (state : SensorState) (reading : Option Nat) : State :=
  { lecture with light := { lecture.light with
      photoState := state, reading := reading, photoTimer := some 65000, harvestTimer := some 15000 } }

/-- Every condition of a step met; then the sensor LOST, and no reading yet. -/
theorem witness_PhotosensorStepsTheWindowGroups :
    ((harvesting .live (some 620)).started = true ∧ (harvesting .live (some 620)).light.photoTimer = some 65000 ∧
      (harvesting .live (some 620)).light.harvestTimer = some 15000 ∧ (harvesting .live (some 620)).isNormal = true ∧
      (harvesting .live (some 620)).light.scene.luxTarget = some 500 ∧ (harvesting .live (some 620)).light.reading = some 620 ∧
      (harvesting .live (some 620)).light.warning = none ∧ (harvesting .live (some 620)).light.emergency = false ∧
      (harvesting .live (some 620)).light.hold = .off ∧ (harvesting .live (some 620)).light.photoState = .live) ∧
    (harvesting .lost (some 620)).light.photoState ≠ .live ∧ (harvesting .awaiting none).light.reading = none := by decide

def fading : State :=
  { room with light := { room.light with
      groups := [{ anyGroup with level := 799, fade := some 5005 }, { anyGroup with handSelect := true }]
      warning := some 65000, hold := .releasing 15000 } }

theorem witness_FadesTimersAndSwitchesMoveGroups :
    fading.started = true ∧ (pick? fading.light.groups 1).map (fun g => (g.fade, g.level)) = some (some 5005, 799) ∧
    fading.light.warning = some 65000 ∧ fading.light.hold = .releasing 15000 ∧
    (pick? fading.light.groups 2).map (·.handSelect) = some true ∧ (pick? fading.light.groups 1).map (·.handSelect) = some false ∧
    pick? fading.light.groups 3 = none := by decide

def asserted : State := after .debounceTimerExpiry alarm

theorem asserted_lawful : EmergencyLaw asserted := by constructor <;> decide +kernel

/-- The loss of the photosensor in LECTURE with the line asserted: a WINDOW group at 900 fades toward 800 from 6000 ms on, and
its output stays at 1000 (R131, R138). -/
def pinned : State :=
  after .photosensorLossTimerExpiry { asserted with light := { asserted.light with
    photoTimer := some 6000, groups := [{ anyGroup with window := true, level := 900 }] } }

theorem test_pin_under_the_line :
    pinned.light.groups.map (fun g => (g.level, g.target, g.fade)) = [(900, 800, some 6005)] ∧ pinned.groupOutput 1 = 1000 ∧
    (after (.fadeStep 1) pinned).light.groups.map (·.level) = [899] := by decide +kernel

theorem pinned_lawful : EmergencyLaw pinned := by constructor <;> decide +kernel

theorem witness_OutputsFollowTheFirstRow :
    room.started = true ∧ pick? room.light.groups 1 = some anyGroup ∧ room.light.emergency = false ∧
    anyGroup.handSelect = false ∧ room.light.warning = none ∧ room.light.scene ≠ .off ∧
    (asserted.started = true ∧ asserted.alert.emergency = true ∧ asserted.alert.mask.getLsbD 0 = false) ∧
    EmergencyLaw asserted :=
  ⟨rfl, rfl, rfl, rfl, rfl, by decide, by decide +kernel, asserted_lawful⟩

/-- An own reading of 72 and a last sent glare of 64; peer 14 tells a sun reading, or none. -/
def sunny (sun : Option Nat) (hold : Timer) : State :=
  { room with
    blind := { room.blind with
      own := some ⟨72, 40⟩, ageTimer := some 6000, sendTimer := some 6000, lastSent := some 64, holdTimer := hold }
    peers := { room.peers with slots := some { anyPeer with age := 1, sun := sun } :: List.replicate 31 none } }

/-- With a sun sensor and without; a last sent glare 9 and 10 away, and none; the running timers; a fresh peer and none. -/
theorem witness_OwnSunIsReadSentAndLost :
    ((sunny none none).started = true ∧ (sunny none none).loader.settings.sunSensor = true ∧
      (sunny none none).loader.settings.facade ≠ 0 ∧ (sunny none none).blind.lastSent = some 64 ∧
      (73 < 64 + 10 ∧ 64 < 73 + 10) ∧ 64 + 10 ≤ 74) ∧
    fallbackRoom.loader.settings.sunSensor = false ∧ room.blind.lastSent = none ∧
    ((sunny none none).blind.ageTimer = some 6000 ∧ (sunny none none).peers.freshSuns = [] ∧
      (sunny none none).blind.holdTimer = none ∧ (sunny none none).isRaised .sunLost = false) ∧
    (sunny (some 64) none).peers.freshSuns = [64] ∧ (sunny none none).blind.sendTimer = some 6000 ∧
    (sunny none none).blind.own = some ⟨72, 40⟩ ∧ room.blind.own = none ∧
    (sunny none (some 7000)).blind.holdTimer = some 7000 := by decide

/-- The first SUN READING of the station carries façade 2, the glare index and the illuminance (R144, R184). -/
theorem test_own_sun_is_sent :
    (after (.ownSunReading 30 40) room).bus.transmitter = .sending (Frame.plain .sunReading 255 [2, 30, 40]) 0 ∧
    (after (.ownSunReading 55 41) (sunny none none)).bus.transmitter = .idle := by decide +kernel

/-- Rows of the policy; G at 60, 40 and 41; a position 3 and 4 away; targets 0, 100 and between. -/
theorem witness_TargetsAndRunsArePlanned :
    (lecture.blind.override = none ∧ lecture.blind.mode ≠ some .screen) ∧
    ({ lecture.blind with mode := some .screen } : Blind).mode = some .screen ∧ 60 ≤ 60 ∧ 40 ≤ 40 ∧ (40 < 41 ∧ 41 < 60) ∧
    anyDrive.position = some 0 ∧ (0 ≤ 3 + 3 ∧ 3 ≤ 0 + 3) ∧ 0 + 3 < 4 ∧ (4 ≠ 0 ∧ 4 ≠ 100) ∧ 0 + 3 < 100 ∧ 100 ≤ 100 ∧
    ({ anyDrive with position := none } : Drive).position = none := by decide

def moving (state : DriveState) (run : Option Run) : Drive :=
  { anyDrive with state := state, run := run, due := some 55000, group := some 0, position := some 20 }

def targeted (d : Drive) (hand : StartInHand) : State :=
  { room with blind := { room.blind with drives := [d], applied := 80, hand := hand } }

/-- An END run of 20 s at T_f 40 s moves by 50; a REFERENCE run. -/
theorem witness_TargetsAndRunsArePlanned_estimates :
    ({ anyRun with kind := .reference } : Run).kind = .reference ∧ anyRun.kind ≠ .reference ∧ anyRun.origin = some 0 ∧
    200 = (20000 - 0) / 100 ∧ 2 * 50 * (40 * 10) ≤ 2 * (200 * 100) + 40 * 10 ∧
    2 * (200 * 100) + 40 * 10 < 2 * (50 + 1) * (40 * 10) := by decide

/-- A drive of each state, with a target it needs a run for; a RUNNING one toward another end position; a SETTLING group whose
run no longer fits, its START awaited and its window open. -/
theorem witness_TargetsAndRunsArePlanned_takes :
    (pick? (targeted (moving .stopped none) .nothing).blind.drives 1 = some (moving .stopped none) ∧
      (moving .stopped none).inService = true ∧ (moving .waitFeeder none).needsRun 80 = true ∧
      ({ moving .waitFeeder none with position := some 77 } : Drive).needsRun 80 = false) ∧
    ((moving .running (some anyRun)).state = .running ∧ anyRun.kind ≠ .reference ∧ anyRun.goal ≠ 80 ∧
      ({ anyRun with goal := 80 } : Run).goal = 80) ∧
    ((moving .settling (some anyRun)).group = some 0 ∧ (moving .settling (some anyRun)).keepsPlan 80 = false ∧
      (targeted (moving .settling (some anyRun)) (.awaiting 0 1 4)).blind.hand = .awaiting 0 1 4 ∧
      (targeted (moving .settling (some anyRun)) (.window 0 1 0 0 4000 6000)).blind.hand = .window 0 1 0 0 4000 6000) ∧
    ({ moving .stopped none with inService := false } : Drive).inService = false := by decide

def dwelling (latched : Bool) : State := { room with blind := { room.blind with dwellTimer := some 6000, latched := latched, wanted := 80 } }

theorem witness_DwellEnds :
    (dwelling true).started = true ∧ (dwelling true).blind.dwellTimer = some 6000 ∧ (dwelling false).blind.latched = false ∧
    (dwelling true).blind.latched = true ∧ (dwelling true).blind.emergency = false ∧
    (dwelling true).blind.wanted ≠ (dwelling true).blind.applied := by decide

/-- A glare event in IN_SESSION under a running dwell, one in STANDBY, an equal target, and the line asserted. -/
theorem witness_DwellEnds_policy :
    ({ lecture.blind with glaring := true, dwellTimer := some 6000 } : Blind).wantedNow 50 ≠ lecture.blind.applied ∧
    lecture.blind.regime = .inSession ∧ ({ lecture.blind with dwellTimer := some 6000 } : Blind).dwellTimer ≠ none ∧
    lecture.blind.emergency = false ∧ (room.blind.regime ≠ .inSession ∧ room.blind.wantedNow 50 = room.blind.applied) ∧
    ({ lecture.blind with emergency := true } : Blind).emergency = true := by decide

def settling (held : Nat) : State :=
  { room with blind := { room.blind with
      hand := .window 0 1 held 0 4000 6000
      drives := [{ anyDrive with state := .settling, run := some anyRun, group := some 0 }] } }

/-- A total of 4 and of 5, with K at 4. -/
theorem witness_SettleWindowsDecide :
    (settling 3).started = true ∧ (settling 3).loader.address = some 37 ∧
    (∀ d ∈ (settling 3).blind.drives, d.state ≠ .waitStage ∧ d.state ≠ .waitFeeder ∧
      (d.state = .settling → d.group = some 0 ∧ d.run.isSome = true ∧ d.atLimit = false)) ∧
    3 + 0 + (settling 3).blind.runningCount + 1 ≤ (settling 3).loader.settings.feederLimit ∧
    (settling 4).loader.settings.feederLimit < 4 + 0 + (settling 4).blind.runningCount + 1 := by decide

/-- A START from address 36, below 37, that arrives at the opening; one of the millisecond before, and one from 38. -/
theorem witness_SettleWindowsDecide_heard :
    (settling 0).accepts 36 255 true = true ∧ (settling 0).loader.settings.facade = (2 : Byte).toNat ∧
    (settling 0).blind.hand = .window 0 1 0 0 4000 6000 ∧ (settling 0).peers.find 36 = none ∧
    (settling 0).peers.freeSlot ≠ none ∧ 4000 ≤ 4000 ∧ ¬4000 ≤ 3999 ∧ (36 : Byte).toNat < (37 : Byte).toNat ∧
    ¬(38 : Byte).toNat < (37 : Byte).toNat := by decide

def backing (hand : StartInHand) : State :=
  { room with blind := { room.blind with
      hand := hand, backoffs := [⟨0, 9000⟩]
      drives := [{ anyDrive with state := .waitFeeder, run := some anyRun, group := some 0 }] } }

theorem witness_BackoffsRecheckTheFeeder :
    (backing .nothing).started = true ∧ (pick? (backing .nothing).blind.drives 1).map (·.group) = some (some 0) ∧
    (backing .nothing).blind.backoffs.find? (fun k => k.group == 0) = some ⟨0, 9000⟩ ∧
    (backing .nothing).blind.groupIn 0 .waitFeeder = [1] ∧ (backing (.awaiting 1 1 0)).blind.hand ≠ .nothing ∧
    (backing .nothing).blind.hand = .nothing ∧ (backing .nothing).isNormal = true ∧ (backing .nothing).bus.queue.length < 10 ∧
    (backing .nothing).peers.feederSum + (backing .nothing).blind.runningCount + 1 ≤ room.loader.settings.feederLimit := by
  decide

/-- The same group with ten frames of class 1 before it. -/
theorem witness_BackoffsRecheckTheFeeder_discarded :
    10 ≤ (List.replicate 10 startFrame).length ∧
    (∀ g ∈ List.replicate 10 startFrame, g.kind = .feederStart ∨ g.kind = .feederEnd) ∧
    (∀ e ∈ (backing .nothing).blind.drives, e.state ≠ .waitStage ∧ (e.state = .waitFeeder → e.group = some 0)) := by decide

/-- Two drives that wait for the stage, with K and façade as given. -/
def waitingRoom (facade limit : Nat) (hand : StartInHand) : State :=
  { room with
    loader := { room.loader with settings := { board with facade := facade, feederLimit := limit } }
    blind := { room.blind with
      applied := 80, hand := hand, drives := [{ anyDrive with state := .waitStage }, { anyDrive with state := .waitStage }] } }

/-- No façade; K at 2 with room and with a start in hand; K at 1 with a start in hand. -/
theorem witness_BackoffsRecheckTheFeeder_stage :
    ((List.range' 1 2).filter (fun k => (pick? (waitingRoom 0 2 .nothing).blind.drives k).any
      (fun d => d.state == .waitStage))).take (2 - (waitingRoom 0 2 .nothing).blind.drives.countP Drive.holdsSlot) = [1, 2] ∧
    (∀ d ∈ (waitingRoom 0 2 .nothing).blind.drives, d.state ≠ .waitFeeder ∧ (d.plan 80).isSome = true ∧
      ({ d with run := d.plan 80 } : Drive).atLimit = false) ∧
    (waitingRoom 0 2 .nothing).loader.settings.facade = 0 ∧
    ((waitingRoom 2 2 .nothing).loader.settings.facade ≠ 0 ∧ 2 ≤ (waitingRoom 2 2 .nothing).loader.settings.feederLimit ∧
      (waitingRoom 2 2 .nothing).blind.hand = .nothing ∧ (waitingRoom 2 2 .nothing).isNormal = true ∧
      (waitingRoom 2 2 .nothing).peers.feederSum + (waitingRoom 2 2 .nothing).blind.runningCount + 2 ≤ 2) ∧
    (waitingRoom 2 2 (.awaiting 0 1 4)).blind.hand ≠ .nothing ∧
    (waitingRoom 2 1 (.awaiting 0 1 4)).loader.settings.feederLimit = 1 ∧ room.blind.emergency = false := by decide

theorem witness_LimitsAreRecorded :
    running.started = true ∧ pick? running.lines.limits 1 = some ⟨false, false⟩ ∧ (pick? running.blind.drives 1).isSome = true ∧
    (pick? running.blind.drives 1).map (fun d => d.run) = some (some anyRun) ∧ Limit.openEnd ≠ .closedEnd ∧
    (pick? room.blind.drives 1).map (fun d => decide (d.state ≠ .running)) = some true := by decide

def timed (kind : RunKind) (streak : Nat) : State :=
  { running with blind := { running.blind with
      drives := [{ anyDrive with
        state := .running, run := some { anyRun with kind := kind }, due := some 55000, group := some 0, streak := streak }] } }

/-- The limit, the run timer, the third stall and a second one. -/
theorem witness_RunsEnd :
    running.started = true ∧ (pick? running.blind.drives 1).map (fun d => (d.state, d.run)) = some (.running, some anyRun) ∧
    (∀ e ∈ running.blind.drives, e.state ≠ .waitStage ∧ e.state ≠ .waitFeeder) ∧
    (100 ≤ running.blind.applied + 3 ∧ running.blind.applied ≤ 100 + 3) ∧
    (pick? (timed .intermediate 0).blind.drives 1).map (fun d => d.due) = some (some 55000) ∧
    (pick? (timed .endRun 2).blind.drives 1).map (fun d => d.streak) = some 2 ∧
    (pick? (timed .endRun 1).blind.drives 1).map (fun d => (d.streak, d.inService, d.limits.openEnd)) = some (1, true, false) := by
  decide

theorem witness_EveryStepKeepsTheDriveLaw : DriveLaw running.blind ∧ ∃ t, step running = .next t :=
  ⟨by constructor <;> decide, _, rfl⟩

def adjusting (offset : Int) (target : Option Nat) : State :=
  { lecture with panel := { lecture.panel with on := true, offset := offset, target := target } }

/-- Override ON at the ends of the band, a target held at the end and none, and OFF under the conditions of entry. -/
theorem witness_KeysMoveTheOverride :
    ((adjusting 200 none).started = true ∧ (adjusting 200 none).panel.on = true ∧ -300 ≤ (adjusting 200 none).panel.offset + 100 ∧
      (adjusting 200 none).panel.offset + 100 ≤ 300) ∧
    (-300 ≤ (adjusting (-200) none).panel.offset - 100 ∧ (adjusting (-200) none).panel.offset - 100 ≤ 300) ∧
    (lecture.panel.on = false ∧ lecture.panel.regime = .inSession ∧ lecture.panel.emergency = false ∧ lecture.isNormal = true) ∧
    (adjusting 0 (some 0)).panel.target = some ((adjusting 0 (some 0)).panel.target.getD 0 - 25) ∧
    (lecture.panel.target ≠ some (min 100 (lecture.panel.target.getD lecture.blind.applied + 25)) ∧
      lecture.panel.target.getD lecture.blind.applied ≤ 100) ∧
    lecture.panel.boost = false ∧ lecture.air.shortfall = false := by decide

def overridden : State := { lecture with panel := { lecture.panel with on := true, offset := 300 }, light := { lecture.light with offset := 300 } }

theorem overridden_lawful : RoomLaw overridden := by constructor <;> decide

/-- LIGHT+ at +300 and LIGHT− at −300, AIR+ with the boost on and in shortfall, RESUME. -/
theorem witness_TrapsAndResumeEndTheOverride :
    (overridden.started = true ∧ overridden.panel.on = true ∧ -300 ≤ overridden.panel.offset ∧ overridden.panel.offset ≤ 300 ∧
      300 < overridden.panel.offset + 100 ∧ overridden.panel.boost = false) ∧
    ((adjusting (-300) none).panel.on = true ∧ (adjusting (-300) none).panel.offset - 100 < -300) ∧
    (({ overridden with panel := { overridden.panel with boost := true } } : State).panel.boost = true ∧
      ({ overridden with air := { overridden.air with shortfall := true } } : State).air.shortfall = true) ∧
    RoomLaw overridden :=
  ⟨by decide, by decide, by decide, overridden_lawful⟩

/-- OFF under the conditions of entry, in shortfall, without a boost. -/
def shortOfAir : State := { lecture with air := { lecture.air with shortfall := true } }

theorem shortOfAir_lawful : RoomLaw shortOfAir := by constructor <;> decide

theorem witness_TrapsAndResumeEndTheOverride_entry :
    shortOfAir.started = true ∧ Instr.airPlus ≠ .resumeKey ∧ shortOfAir.panel.boost = false ∧ shortOfAir.air.shortfall = true ∧
    (shortOfAir.panel.on = false ∧ shortOfAir.panel.regime = .inSession ∧ shortOfAir.panel.emergency = false ∧
      shortOfAir.isNormal = true) ∧
    (-300 ≤ shortOfAir.panel.offset ∧ shortOfAir.panel.offset ≤ 300) ∧ RoomLaw shortOfAir :=
  ⟨rfl, by decide, rfl, rfl, by decide, by decide, shortOfAir_lawful⟩

/-- Override ON; OFF without a trap, and OFF with one of this very moment; leaving IN_SESSION vacant, and staying. -/
theorem witness_TrapsAndResumeEndTheOverride_ends :
    OverrideCause.vacancy ∉ [.bandLight, .bandAir, .sharedAir] ∧ overridden.panel.on = true ∧
    (lecture.panel.on = false ∧ lecture.panel.trapAt ≠ some lecture.now) ∧
    (after .lightPlus overridden).panel.trapAt = some (after .lightPlus overridden).now ∧
    (({ lecture.panel with vacant := true } : Panel).regime = .inSession ∧
      ({ lecture.panel with vacant := true } : Panel).vacant = true ∧ Regime.standby ≠ .inSession) ∧
    lecture.panel.vacant = false := by decide

def vacantRoom : State := { room with panel := { room.panel with vacant := true, blinkTimer := some 7000 } }

/-- A vacant room outside a session, the line asserted, FALLBACK. -/
theorem witness_KeysAreIgnoredOutsideTheConditions :
    (vacantRoom.started = true ∧ vacantRoom.panel.on = false ∧ keyOf .lightPlus = some .lightPlus ∧ Key.lightPlus ≠ .resume ∧
      vacantRoom.panel.regime ≠ .inSession ∧ vacantRoom.panel.vacant = true) ∧
    (asserted.panel.on = false ∧ asserted.panel.emergency = true) ∧
    (fallbackRoom.panel.on = false ∧ fallbackRoom.isNormal = false) ∧ vacantRoom.panel.blinkTimer = some 7000 := by decide +kernel

theorem witness_EmergencyLineIsDebounced :
    (true ≠ room.lines.emergency ∧ room.powered = true) ∧ false = room.lines.emergency ∧ State.reset.powered = false ∧
    alarm.alert.debounce = some 5050 ∧ alarm.lines.emergency ≠ alarm.alert.emergency ∧
    ({ alarm with loader := reading.loader } : State).started = false ∧
    ({ alarm with loader := reading.loader } : State).powered = true ∧ reading.loader.phase = .reading ∧
    ({ reading with alert := asserted.alert } : State).alert.emergency = true ∧ reading.alert.emergency = false := by
  decide +kernel

def busy (s : State) : State := { s with bus := { s.bus with line := .busy } }

theorem busy_busLaw : BusLaw (busy room).bus := by
  constructor
  case replies => exact fun _ => by simp [busy, room, BusPort.off]
  all_goals decide

theorem witness_AssertionsBindTheRoom :
    alarm.started = true ∧ alarm.alert.debounce = some 5050 ∧ alarm.lines.emergency = true ∧ alarm.alert.emergency = false ∧
    (alarm.loader.settings.trunk ≠ 0 ∧ alarm.isNormal = true ∧ alarm.air.rateWindow = none ∧ alarm.panel.boost = false ∧
      alarm.loader.address ≠ none ∧ alarm.bus.queue.length + 2 * alarm.blind.drives.length + 1 ≤ 9) ∧
    ((busy alarm).bus.line = .busy ∧ BusLaw (busy alarm).bus) ∧ (closing true false).air.rateWindow = some 5100 :=
  ⟨by decide, by decide, by decide, by decide, by decide, ⟨by decide, busy_busLaw⟩, by decide⟩

/-- A CLAIM that waits is replaced in place by the withdrawal (R123). -/
theorem test_withdrawal_replaces_the_claim :
    (after .debounceTimerExpiry { alarm with bus := { alarm.bus with line := .busy, queue := [waiting .claim 255] } }).bus.queue =
      [Frame.plain .claim 255 [3, 0, 0, 0, 0, 0, 1]] := by decide +kernel

def released : State :=
  { asserted with lines := Lines.idle, alert := { asserted.alert with debounce := some 9050 } }

theorem witness_ReleasesFreeTheRoom :
    released.started = true ∧ released.alert.debounce = some 9050 ∧ released.lines.emergency = false ∧
    released.alert.emergency = true ∧ released.isNormal = true ∧ fallbackRoom.isNormal = false := by decide +kernel

/-- An assertion whose trigger the rate window holds back, and one that comes with the window closed. -/
def releasing (window : Timer) : State :=
  { alarm with lines := Lines.idle, alert := { alarm.alert with emergency := true }, air := { alarm.air with rateWindow := window } }

theorem witness_ReleasesFreeTheRoom_claim :
    ((releasing none).started = true ∧ (releasing none).alert.debounce = some 5050 ∧ (releasing none).lines.emergency = false ∧
      (releasing none).alert.emergency = true ∧ (releasing none).isNormal = true ∧ (releasing none).loader.settings.trunk ≠ 0) ∧
    ((releasing none).air.rateWindow = none ∧ (releasing (some 5100)).air.rateWindow = some 5100) ∧
    ((busy (releasing none)).bus.line = .busy ∧ (releasing none).loader.address ≠ none ∧
      (busy (releasing none)).bus.queue.length + 2 * (releasing none).blind.drives.length + 1 ≤ 9) ∧
    BusLaw (busy (releasing none)).bus :=
  ⟨by decide, by decide, by decide, busy_busLaw⟩

theorem witness_EveryStepKeepsTheEmergencyLaw :
    EmergencyLaw asserted ∧ (∃ t, step asserted = .next t) ∧ asserted.alert.emergency = true ∧
    asserted.bus.transmitter.holds .claim = true ∧ EmergencyLaw pinned :=
  ⟨asserted_lawful, ⟨_, rfl⟩, by decide +kernel, by decide +kernel, pinned_lawful⟩

theorem witness_StatusRequestsAreAnswered :
    room.accepts 200 255 true = true ∧ lecture.light.groups.length ≤ 6 ∧ lecture.blind.drives.length ≤ 4 ∧
    (lecture.session.entries.map (fun e => (e.id, e.state)) = [(11, .active), (12, .precondition)] ∧
      ∀ e ∈ room.session.entries, e.state ≠ .active) ∧
    lecture.intake.queue.length ≤ 8 ∧ lecture.counter.count ≤ 400 ∧ lecture.air.demand ≤ 4000 ∧ lecture.air.command ≤ 1000 ∧
    lecture.panel.offset = 100 * 0 ∧ (adjusting (-300) none).panel.offset = 100 * -3 ∧ lecture.panel.record = none ∧
    ((after .lightPlus overridden).panel.record = some { cause := .bandLight, value := 400, minute := 600 } ∧ 600 < 10080) ∧
    (pick? lecture.light.groups 3).isSome = true ∧ (pick? lecture.blind.drives 2).map (·.position) = some (some 0) := by
  decide +kernel

/-- "a lecture" of R179: IN_SESSION LECTURE, session 11, one of two drives UNKNOWN and out of service (R185). -/
theorem test_status_body :
    ({ lecture with blind := { lecture.blind with drives := [anyDrive, { anyDrive with inService := false, position := none }] } } :
      State).statusBody =
      [0x60, 0, 11, 0, 0, 0x62] ++ twoBytes 36 ++ twoBytes 36 ++ twoBytes 36 ++ twoBytes 24 ++ [0, 0x10] ++ List.replicate 4 0 ++
        [0, 0, 3, 32, 3, 32] ++ List.replicate 3 0 ++ [255, 0x08] := by decide +kernel

theorem witness_RestartsEmptyAndKeep :
    ({ overridden with bus := { overridden.bus with line := .busy } } : State).accepts 200 37 false = true ∧
    ({ overridden with bus := { overridden.bus with line := .busy } } : State).bus.line = .busy ∧ overridden.panel.on = true ∧
    overridden.intake.heldEvents = [] ∧ overridden.session.catchUp = false ∧
    (lecture.panel.on = false ∧ lecture.panel.trapAt ≠ some lecture.now) ∧ asserted.blind.emergency = true ∧
    lecture.blind.drives.length ≤ 4 ∧
    (lecture.isNormal = true ∧ lecture.loader.settings.trunk ≠ 0 ∧ lecture.air.rateWindow = none ∧ lecture.panel.boost = false ∧
      lecture.air.emergency = false ∧ asserted.air.emergency = true) ∧
    (closing true false).air.rateWindow = some 5100 ∧ fallbackRoom.isNormal = false := by decide +kernel

/-- Held events that end with a minute and with a jump; an occupancy catch-up owed with none held. -/
theorem witness_RestartsEmptyAndKeep_held :
    (busy (merging anyItem)).accepts 200 37 false = true ∧ (busy (merging anyItem)).bus.line = .busy ∧
    [ClockEvent.jump 629 50 640 0 true, .minute 641] = [.jump 629 50 640 0 true] ++ [.minute 641] ∧
    [ClockEvent.jump 629 50 640 0 true] = [] ++ [.jump 629 50 640 0 true] ∧
    (({ merging anyItem with intake := Intake.empty } : State).intake.heldEvents = [] ∧
      (merging anyItem).session.catchUp = true) ∧ RoomLaw overridden :=
  ⟨by decide, by decide, by decide, by decide, by decide, overridden_lawful⟩

def starting (hand : StartInHand) : State := { running with blind := { running.blind with hand := hand } }

/-- The line released; a START awaited and a window open; a façade and none; no target held, the regime outside IN_SESSION, the
limits inactive, and a position of at most 100. -/
theorem witness_RestartsEmptyAndKeep_blinds :
    ((busy running).accepts 200 37 false = true ∧ (busy running).bus.line = .busy ∧ running.intake.heldEvents = [] ∧
      running.session.catchUp = false ∧ running.blind.emergency = false ∧ running.panel.target = none ∧
      running.blind.regime ≠ .inSession ∧ running.isNormal = true ∧ running.loader.settings.facade ≠ 0 ∧
      running.blind.drives.length ≤ 4) ∧
    (starting (.awaiting 1 2 4)).blind.hand = .awaiting 1 2 4 ∧
    (starting (.window 1 2 0 0 4000 6000)).blind.hand = .window 1 2 0 0 4000 6000 ∧
    (pick? running.blind.drives 1).map (fun d => (d.limits, d.leftAt 5000)) = some (⟨false, false⟩, some 13) ∧
    (waitingRoom 0 2 .nothing).loader.settings.facade = 0 := by decide

/-- A frame in transmission that the restart cuts off, and none (R27). -/
theorem witness_RestartsEmptyAndKeep_cut :
    (busy (sendingAt 1 0)).accepts 200 37 false = true ∧ (busy (sendingAt 1 0)).bus.line = .busy ∧
    (busy (sendingAt 1 0)).bus.transmitter.isSending = true ∧ (busy room).bus.transmitter.isSending = false := by decide

/-- The restart ends the character that is on the line: the quiet timer starts from 2 ms (log entry 39). -/
theorem test_restart_cuts_the_frame :
    (after (.serviceRestart 200 37) (busy (sendingAt 1 0))).bus.quietTimer = some ((sendingAt 1 0).now + 2) := by decide

/-- A drive of T_f 40 s stopped by a restart after 50 tenths has moved by 12.5, rounded up (R151, R163). -/
theorem test_restart_stops_the_drive :
    (after (.serviceRestart 200 37) (busy running)).blind.drives.map (fun d => (d.state, d.position)) =
      [(.settling, some 13)] ∧
    (after (.serviceRestart 200 37) (busy (starting (.awaiting 1 2 4)))).blind.orphans = [{ tag := 4, drives := 2 }] := by
  decide +kernel

def broken : State := { room with blind := { room.blind with drives := [{ anyDrive with inService := false, streak := 3 }, anyDrive] } }

theorem broken_lawful : DriveLaw broken.blind := by constructor <;> decide

theorem witness_ClearsReturnDrives :
    broken.accepts 200 37 false = true ∧ DriveLaw broken.blind ∧ (∀ d ∈ room.blind.drives, d.inService = true) ∧
    (∃ d ∈ broken.blind.drives, d.inService = false) ∧ broken.blind.emergency = false ∧
    ({ broken.blind with emergency := true } : Blind).emergency = true ∧
    (pick? broken.blind.drives 1).map (fun d => (d.inService, d.limits.openEnd)) = some (false, false) :=
  ⟨by decide, broken_lawful, by decide⟩

end Sys2Proof.Tests
end

section
/-!
PROOFS. The Week Clock's time marks (R30 to R32, R40): what the sending of a clock event comes to, the judging of a mark case by
case, and the two statements about marks.
-/

namespace Sys2Proof.Machine

/-! ### Clock events sent (R40) -/

/-- The minute the engine takes with a clock event: a minute event's own, and a jump's new minute. -/
def ClockEvent.newMinute : ClockEvent → Nat
  | .minute m => m
  | .jump _ _ new _ _ => new

theorem finishWork_lastMinute (minute : Nat) (w : EngineWork) (s : State) :
    (finishWork minute w s).session.lastMinute = s.session.lastMinute := by rw [finishWork_session]

theorem addTallies_lastMinute (s : State) : (addTallies s).session.lastMinute = s.session.lastMinute := rfl

/-- A clock event leaves its minute as the engine's last minute taken (R53, R63). -/
theorem takeClockEvent_lastMinute (e : ClockEvent) (s : State) :
    (takeClockEvent e s).session.lastMinute = some e.newMinute := by
  cases e with
  | minute m =>
    show (takeMinute m s).session.lastMinute = some m
    unfold takeMinute
    dsimp only
    rw [finishWork_lastMinute]
    split
    · rw [addTallies_lastMinute, State.setSession_session]
    · rw [State.setSession_session]
  | jump old _ new _ isForward => exact finishWork_lastMinute _ _ _

theorem eventSent_sendClockEvent (e : ClockEvent) (s : State) : EventSent e e.newMinute s (sendClockEvent e s) := by
  rcases sendClockEvent_cases e s with ⟨inFlight, sent⟩ | ⟨idle, sent⟩ <;> rw [sent]
  · exact .inl ⟨inFlight, rfl⟩
  · exact .inr ⟨idle, rfl, takeClockEvent_frame e s, takeClockEvent_lastMinute e s⟩

/-- A clock event reaches no alert but those of damper and shortfall, which the regime notice may move. -/
theorem isRaised_sendClockEvent (e : ClockEvent) (s : State) (a : Alert) (ha : a ∉ [Alert.damperFault, .shortfall]) :
    (sendClockEvent e s).isRaised a = s.isRaised a :=
  (alertsKept_closed [.damperFault, .shortfall] s).sendClockEvent (by simp) (by simp) e (AlertsKept.refl _ s) a ha

/-! ### The judging of a mark (R30, R31) -/

theorem exec_timeMark {source dest : Byte} (minute : Word) (second : Byte) {s : State}
    (h : s.accepts source dest true = true) :
    exec (.timeMark source dest minute second) s = .next (takeMark minute.toNat second.toNat s) :=
  congrArg Host.Outcome.next (onMessage_of h _)

/-- The signed difference is the one number of its range that differs from the raw difference by whole weeks (R31). -/
theorem markDifference_eq {clock mark : Nat} {d k : Int} (low : -302400 ≤ d) (high : d ≤ 302399)
    (raw : (mark : Int) - (clock : Int) = d + 604800 * k) : markDifference clock mark = d := by
  unfold markDifference; omega

theorem takeMark_of_outOfRange {minute second : Nat} (s : State) (h : 10080 ≤ minute ∨ 60 ≤ second) :
    takeMark minute second s = s := if_pos h

/-- A mark in range is adopted whole while UNSET, and judged by its signed difference while SET. -/
theorem takeMark_of_inRange {minute second : Nat} (s : State) (hm : minute < 10080) (hs : second < 60) :
    takeMark minute second s =
      if s.clock.running then
        let d := markDifference (weekSecond s.clock.minute s.clock.second) (weekSecond minute second)
        if d.natAbs ≤ 2 then s else if d.natAbs ≤ 60 then adoptQuietly d minute second s else adoptJump d minute second s
      else adoptFirst minute second s :=
  if_neg (by unfold weekMinutes; omega)

theorem adoptQuietly_of_sends {d : Int} {minute : Nat} (second : Nat) {s : State} (h : 0 < d ∧ minute ≠ s.clock.minute) :
    adoptQuietly d minute second s = sendClockEvent (.minute minute) (setTime minute second s) := if_pos h

theorem adoptQuietly_of_silent {d : Int} {minute : Nat} (second : Nat) {s : State}
    (h : ¬(0 < d ∧ minute ≠ s.clock.minute)) : adoptQuietly d minute second s = setTime minute second s := if_neg h

/-! ### The statements -/

/-- Settles O14: the adoption is the sending of one minute event from the state in which the clock is SET. -/
theorem firstMarkIsAdoptedWhole : Obligations.FirstMarkIsAdoptedWhole := by
  intro s source dest second minute accepted
  rw [exec_timeMark minute second accepted]
  refine ⟨fun outOfRange => by rw [takeMark_of_outOfRange s outOfRange], fun hm hs unset => ?_⟩
  have adopted : takeMark minute.toNat second.toNat s = adoptFirst minute.toNat second.toNat s := by
    rw [takeMark_of_inRange s hm hs, unset]; rfl
  refine ⟨_, congrArg _ adopted, ?_, sendClockEvent_clock _ _, eventSent_sendClockEvent _ _⟩
  unfold adoptFirst
  rw [isRaised_sendClockEvent _ _ _ (by decide), isRaised_clear]
  simp

/-- Settles O15: the difference d is the one the clock forms, and each band of R31 is one branch of the judging. -/
theorem marksMoveTheClock : Obligations.MarksMoveTheClock := by
  intro s u source dest second minute d k accepted running hm hs low high raw hu
  have signed : markDifference (weekSecond s.clock.minute s.clock.second) (weekSecond minute.toNat second.toNat) = d :=
    markDifference_eq low high raw
  have judged : takeMark minute.toNat second.toNat s =
      if d.natAbs ≤ 2 then s else if d.natAbs ≤ 60 then adoptQuietly d minute.toNat second.toNat s
      else adoptJump d minute.toNat second.toNat s := by
    rw [takeMark_of_inRange s hm hs, if_pos running]
    dsimp only
    rw [signed]
  have moved : setTime minute.toNat second.toNat s = u := hu.symm
  rw [exec_timeMark minute second accepted, judged]
  refine ⟨fun near => ?_, fun far close silent => ?_, fun far close ahead crosses => ?_, fun far => ?_⟩
  · rw [if_pos near]
  · rw [if_neg (by omega), if_pos close, adoptQuietly_of_silent _ silent, moved]
  · rw [if_neg (by omega), if_pos close, adoptQuietly_of_sends _ ⟨ahead, crosses⟩, moved]
    exact ⟨_, rfl, sendClockEvent_clock _ _, eventSent_sendClockEvent _ _⟩
  · rw [if_neg (by omega), if_neg (by omega)]
    unfold adoptJump
    rw [moved]
    exact ⟨_, rfl, sendClockEvent_clock _ _, eventSent_sendClockEvent _ _⟩

end Sys2Proof.Machine
end

section
/-!
PROOFS. The windows of an entry (R35) and its evaluation, state by state (R54 to R56).
-/

namespace Sys2Proof.Machine

/-! ### Windows (R35) -/

/-- Membership in a window by counting forward from its first minute. -/
theorem inWindow_iff {first length m : Nat} (hl : length ≤ 10080) (hm : m < 10080) :
    inWindow first length m = true ↔ ∃ k, k < length ∧ m = (first + k) % 10080 := by
  unfold inWindow weekMinutes
  rw [decide_eq_true_iff]
  constructor
  · intro h
    exact ⟨_, h, by omega⟩
  · rintro ⟨k, hk, rfl⟩
    omega

section Windows

variable {e : Entry} {m : Nat}

theorem Entry.inInterval_iff (hstop : e.stop ≤ e.start + 600) (hm : m < 10080) :
    e.inInterval m = true ↔ ∃ k, k < e.stop - e.start ∧ m = (e.start + k) % 10080 :=
  inWindow_iff (by omega) hm

theorem Entry.inLead_iff (hlead : e.lead ≤ 60) (hm : m < 10080) :
    e.inLead m = true ↔ ∃ k, k < e.lead ∧ m = (e.start + 10080 - e.lead + k) % 10080 := by
  simpa only [inLead, windowStart, weekMinutes, Nat.mod_add_mod] using
    inWindow_iff (first := e.windowStart) (length := e.lead) (by omega) hm

theorem Entry.inWhole_iff (hlead : e.lead ≤ 60) (hstop : e.stop ≤ e.start + 600) (hm : m < 10080) :
    e.inWhole m = true ↔ ∃ k, k < e.lead + (e.stop - e.start) ∧ m = (e.start + 10080 - e.lead + k) % 10080 := by
  simpa only [inWhole, windowStart, weekMinutes, Nat.mod_add_mod] using
    inWindow_iff (first := e.windowStart) (length := e.lead + (e.stop - e.start)) (by omega) hm

/-- The whole window is the lead window and the interval after it: a place in it lies below the lead or is a place in the
interval counted from the lead's end. -/
theorem Entry.inWhole_iff_lead_or_interval (hlead : e.lead ≤ 60) (hstop : e.stop ≤ e.start + 600) (hm : m < 10080) :
    e.inWhole m = true ↔ e.inLead m = true ∨ e.inInterval m = true := by
  rw [inWhole_iff hlead hstop hm, inLead_iff hlead hm, inInterval_iff hstop hm]
  constructor
  · rintro ⟨k, hk, place⟩
    by_cases before : k < e.lead
    · exact .inl ⟨k, before, place⟩
    · exact .inr ⟨k - e.lead, by omega, by omega⟩
  · rintro (⟨k, hk, place⟩ | ⟨k, hk, place⟩)
    · exact ⟨k, by omega, place⟩
    · exact ⟨e.lead + k, by omega, by omega⟩

theorem Entry.not_lead_and_interval (hlead : e.lead ≤ 60) (hstop : e.stop ≤ e.start + 600) (hm : m < 10080) :
    ¬(e.inLead m = true ∧ e.inInterval m = true) := by
  rw [inLead_iff hlead hm, inInterval_iff hstop hm]
  rintro ⟨⟨j, hj, first⟩, ⟨k, hk, second⟩⟩
  omega

end Windows

/-! ### Evaluation (R54 to R56) -/

/-- The turn of an entry that becomes ACTIVE by a minute event or an at-once evaluation. -/
def Entry.opening (e : Entry) (m count graceMinutes : Nat) : Turn :=
  { kept := some (e.activate m count graceMinutes false), reports := [], boundaries := 1 }

/-- A carried occurrence goes on, with its deadline from this minute; any other begins, with its deadline from its start
(R55, R56). -/
theorem Entry.activate_of_event (e : Entry) (m count graceMinutes : Nat) :
    e.activate m count graceMinutes false =
      if e.carried then
        { e with state := .active, grace := some ((m + graceMinutes) % 10080), carried := false
                 peak := max e.peak count, seen := e.seen || decide (0 < count) }
      else
        { e with state := .active, grace := some ((e.start + graceMinutes) % 10080)
                 peak := count, occupied := 0, shortfall := 0, seen := decide (0 < count) } := by
  unfold activate weekMinutes
  cases e.carried <;> rfl

section Evaluation

variable {e : Entry} (m count graceMinutes : Nat)

theorem Entry.evaluate_pending (h : e.state = .pending) :
    e.evaluate m count graceMinutes false =
      if e.skip && e.inWhole m then .keep { e with skip := false, carried := false, state := .dormant }
      else if e.inLead m then .keep { e with state := .precondition }
      else if e.inInterval m then e.opening m count graceMinutes
      else .keep e := by
  unfold evaluate; rw [h]; rfl

theorem Entry.evaluate_precondition (h : e.state = .precondition) :
    e.evaluate m count graceMinutes false =
      if e.inInterval m then e.opening m count graceMinutes
      else if !e.inWhole m then .keep { e with state := .pending }
      else .keep e := by
  unfold evaluate; rw [h]; rfl

theorem Entry.evaluate_active (h : e.state = .active) :
    e.evaluate m count graceMinutes false =
      if e.grace = some m ∧ e.seen = false then e.finish .noShow
      else if m = e.stop % 10080 then e.finish .ended
      else .keep e := by
  unfold evaluate; rw [h]; rfl

theorem Entry.evaluate_dormant (h : e.state = .dormant) :
    e.evaluate m count graceMinutes false =
      if !e.inWhole m && e.weekly then .keep { e with state := .pending } else .keep e := by
  unfold evaluate; rw [h]

/-- All an evaluation can do: it opens the occurrence, closes it for one of two causes, or keeps an entry without a report or
a boundary event. -/
theorem Entry.evaluate_cases (e : Entry) :
    e.evaluate m count graceMinutes false = e.opening m count graceMinutes ∨
      e.evaluate m count graceMinutes false = e.finish .noShow ∨
      e.evaluate m count graceMinutes false = e.finish .ended ∨
      ∃ kept, e.evaluate m count graceMinutes false = .keep kept := by
  cases h : e.state with
  | pending =>
    rw [evaluate_pending m count graceMinutes h]
    split
    · exact .inr (.inr (.inr ⟨_, rfl⟩))
    · split
      · exact .inr (.inr (.inr ⟨_, rfl⟩))
      · split
        · exact .inl rfl
        · exact .inr (.inr (.inr ⟨_, rfl⟩))
  | precondition =>
    rw [evaluate_precondition m count graceMinutes h]
    split
    · exact .inl rfl
    · split <;> exact .inr (.inr (.inr ⟨_, rfl⟩))
  | active =>
    rw [evaluate_active m count graceMinutes h]
    split
    · exact .inr (.inl rfl)
    · split
      · exact .inr (.inr (.inl rfl))
      · exact .inr (.inr (.inr ⟨_, rfl⟩))
  | dormant =>
    rw [evaluate_dormant m count graceMinutes h]
    split <;> exact .inr (.inr (.inr ⟨_, rfl⟩))

end Evaluation

/-! ### The statement -/

/-- Settles O20: the windows by the counting lemma, and each row of R54 by the equation of its state. -/
theorem entriesAreEvaluatedInTheirWindows : Obligations.EntriesAreEvaluatedInTheirWindows := by
  refine ⟨fun e m _ hlead _ hstop hm => ⟨Entry.inInterval_iff hstop hm, Entry.inLead_iff hlead hm,
    Entry.inWhole_iff hlead hstop hm, Entry.inWhole_iff_lead_or_interval hlead hstop hm,
    Entry.not_lead_and_interval hlead hstop hm⟩, ?_⟩
  intro e m count graceMinutes t opened ht hopened
  have opens : e.opening m count graceMinutes = opened := by
    rw [hopened, Entry.opening, Entry.activate_of_event]
  refine ⟨fun pending => ?_, fun precondition => ?_, fun active => ?_, fun dormant => ?_, ?_⟩
  · rw [ht, Entry.evaluate_pending m count graceMinutes pending, opens]
    refine ⟨fun skip whole => by simp [skip, whole, Turn.keep], fun noSkip => ?_⟩
    rw [if_neg (by simpa using noSkip)]
    exact ⟨fun lead => by simp [lead, Turn.keep], fun lead interval => by simp [lead, interval],
      fun lead interval => by simp [lead, interval, Turn.keep]⟩
  · rw [ht, Entry.evaluate_precondition m count graceMinutes precondition, opens]
    exact ⟨fun interval => if_pos interval, fun interval whole => by simp [interval, whole, Turn.keep],
      fun interval whole => by simp [interval, whole, Turn.keep]⟩
  · rw [ht, Entry.evaluate_active m count graceMinutes active]
    exact ⟨fun deadline unseen => if_pos ⟨deadline, unseen⟩,
      fun attended stops => by rw [if_neg attended, if_pos stops],
      fun attended goesOn => by rw [if_neg attended, if_neg goesOn, Turn.keep]⟩
  · rw [ht, Entry.evaluate_dormant m count graceMinutes dormant]
    refine ⟨fun whole weekly => by simp [whole, weekly, Turn.keep], fun stays => ?_⟩
    rw [if_neg (by simpa using stays), Turn.keep]
  · rw [ht, ← opens]
    rcases Entry.evaluate_cases m count graceMinutes e with h | h | h | ⟨kept, h⟩ <;> rw [h]
    · exact .inl rfl
    · exact .inr (.inl rfl)
    · exact .inr (.inr (.inl rfl))
    · exact .inr (.inr (.inr ⟨rfl, rfl⟩))

end Sys2Proof.Machine
end

section
/-!
PROOFS. The end procedure of an occurrence: its streak, its series, its fate and its report (R60 to R62).
-/

namespace Sys2Proof.Machine

/-! ### The streak and the series (R61) -/

theorem Entry.settledStreak_of_noShow (e : Entry) :
    e.settledStreak .noShow = if e.weekly = true ∧ e.streak ≤ 1 then e.streak + 1 else e.streak := by
  simp only [settledStreak, Bool.and_eq_true, decide_eq_true_iff, Nat.lt_succ_iff]

theorem Entry.settledStreak_of_missed (e : Entry) : e.settledStreak .missed = e.streak := rfl

/-- Every cause but NO_SHOW and MISSED clears the streak of an occurrence that was occupied. -/
theorem Entry.settledStreak_of_closed (e : Entry) {cause : EndCause} (attended : cause ≠ .noShow)
    (begun : cause ≠ .missed) : e.settledStreak cause = if e.seen then 0 else e.streak := by
  cases cause with
  | noShow => exact absurd rfl attended
  | missed => exact absurd rfl begun
  | ended | earlyRelease | cancelled | timeJump => rfl

/-- The clauses of R61's table leave one value for the streak: the one the end procedure settles. -/
theorem Entry.settledStreak_unique {e : Entry} {cause : EndCause} {streak : Nat}
    (counted : cause = .noShow → e.weekly = true → e.streak ≤ 1 → streak = e.streak + 1)
    (uncounted : cause = .noShow → e.weekly = false ∨ 2 ≤ e.streak → streak = e.streak)
    (cleared : cause ≠ .noShow → cause ≠ .missed → e.seen = true → streak = 0)
    (untouched : cause ≠ .noShow → e.seen = false ∨ cause = .missed → streak = e.streak) :
    e.settledStreak cause = streak := by
  by_cases noShow : cause = .noShow
  · subst noShow
    rw [settledStreak_of_noShow]
    split
    next counts =>
      obtain ⟨weekly, low⟩ := counts
      exact (counted rfl weekly low).symm
    next stays =>
      refine (uncounted rfl ?_).symm
      cases weekly : e.weekly with
      | false => exact .inl rfl
      | true => exact .inr (Nat.lt_of_not_le fun low => stays ⟨weekly, low⟩)
  · by_cases missed : cause = .missed
    · rw [untouched noShow (.inr missed), missed, settledStreak_of_missed]
    · rw [settledStreak_of_closed e noShow missed]
      cases seen : e.seen with
      | true => exact (cleared noShow missed seen).symm
      | false => exact (untouched noShow (.inl seen)).symm

theorem Entry.drops_eq (e : Entry) (cause : EndCause) :
    e.drops cause = (decide (cause = .noShow) && e.weekly && decide (2 ≤ e.streak)) := rfl

/-! ### Fate and report (R60, R62) -/

/-- An entry whose series goes on stays, DORMANT, with its streak settled and nothing else of it changed. -/
theorem Entry.finish_kept_of_goesOn {e : Entry} {cause : EndCause} (weekly : e.weekly = true)
    (goesOn : e.drops cause = false) :
    (e.finish cause).kept = some { e with
      streak := e.settledStreak cause, grace := none, seen := false, carried := false, state := .dormant } := by
  simp [finish, ended, weekly, goesOn]

/-- An entry for one occurrence, or one whose series is dropped, leaves the list. -/
theorem Entry.finish_kept_of_over {e : Entry} {cause : EndCause} (closed : e.weekly = false ∨ e.drops cause = true) :
    (e.finish cause).kept = none := by
  have single : (e.ended cause).weekly = false := by
    rcases closed with once | dropped
    · simp [ended, once]
    · simp [ended, dropped]
  simp [finish, single]

theorem Entry.finish_reports (e : Entry) (cause : EndCause) :
    (e.finish cause).reports =
      if e.report then [Frame.plain .sessionReport e.origin (e.reportBody cause)] else [] := rfl

theorem Entry.finish_boundaries (e : Entry) (cause : EndCause) :
    (e.finish cause).boundaries = if e.state = .active then 1 else 0 := rfl

theorem byte_flag (b : Bool) : byte (flag b) = if b then 1 else 0 := by cases b <;> rfl

/-! ### The statement -/

/-- Settles O21: the streak by the uniqueness of R61's clauses, the fate by whether the series goes on. -/
theorem occurrencesEndByTheProcedure : Obligations.OccurrencesEndByTheProcedure := by
  intro e cause dropped streak drops counted uncounted cleared untouched
  rw [← Entry.drops_eq] at drops
  subst drops
  have settled : e.settledStreak cause = streak :=
    Entry.settledStreak_unique counted uncounted cleared untouched
  refine ⟨fun weekly goesOn => ?_, Entry.finish_kept_of_over, fun wanted => ?_, fun unwanted => ?_,
    Entry.finish_boundaries e cause⟩
  · rw [Entry.finish_kept_of_goesOn weekly goesOn, settled]
  · refine ⟨_, by rw [Entry.finish_reports, if_pos wanted], rfl, rfl, ?_⟩
    rw [← byte_flag]
    rfl
  · rw [Entry.finish_reports, unwanted, if_neg Bool.false_ne_true]

end Sys2Proof.Machine
end

section
/-!
PROOFS. A door decoder and one beam event: the table of R73, the counts, BLOCKED and the block timer (R72, R73, R75, R77).
-/

namespace Sys2Proof.Machine

/-! ### Levels of a state (R72) -/

theorem BeamLevels.bothClear_iff (l : BeamLevels) : l.bothClear = true ↔ l = ⟨false, false⟩ := by
  obtain ⟨a, b⟩ := l
  simp [bothClear]

/-- The levels a decoder's state determines; BLOCKED determines none (R72). -/
def DoorState.levels : DoorState → Option BeamLevels
  | .clear => some ⟨false, false⟩
  | .outer | .leavingOut => some ⟨true, false⟩
  | .inner | .leavingIn => some ⟨false, true⟩
  | .spanIn | .spanOut => some ⟨true, true⟩
  | .blocked => none

theorem DoorState.exists_levels {d : DoorState} (free : d ≠ .blocked) : ∃ l, d.levels = some l := by
  cases d with
  | blocked => exact absurd rfl free
  | _ => exact ⟨_, rfl⟩

theorem DoorState.ne_blocked_of_levels {d : DoorState} {l : BeamLevels} (h : d.levels = some l) : d ≠ .blocked := by
  rintro rfl
  exact nomatch h

/-- CLEAR is the one state with both beams clear. -/
theorem DoorState.eq_clear_iff_of_levels {d : DoorState} {l : BeamLevels} (h : d.levels = some l) :
    d = .clear ↔ l.bothClear = true := by
  cases d with
  | blocked => exact nomatch h
  | _ => cases h; decide

/-- The door law, with its rows of levels read as one table. -/
theorem doorLaw_iff (d : Door) :
    DoorLaw d ↔ (∀ l, d.state.levels = some l → d.beams = l) ∧
      (d.blockTimer.isSome = true ↔ d.state ≠ .clear ∧ d.state ≠ .blocked) := by
  constructor
  · rintro ⟨clear, outer, inner, span, timer⟩
    refine ⟨?_, timer⟩
    cases state : d.state with
    | clear => exact fun l h => (clear state).trans (Option.some.inj h)
    | outer => exact fun l h => (outer (.inl state)).trans (Option.some.inj h)
    | inner => exact fun l h => (inner (.inl state)).trans (Option.some.inj h)
    | spanIn => exact fun l h => (span (.inl state)).trans (Option.some.inj h)
    | leavingIn => exact fun l h => (inner (.inr state)).trans (Option.some.inj h)
    | spanOut => exact fun l h => (span (.inr state)).trans (Option.some.inj h)
    | leavingOut => exact fun l h => (outer (.inr state)).trans (Option.some.inj h)
    | blocked => exact fun l h => nomatch h
  · rintro ⟨levels, timer⟩
    exact
      { clear := fun h => levels _ (by rw [h]; rfl)
        outer := by rintro (h | h) <;> exact levels _ (by rw [h]; rfl)
        inner := by rintro (h | h) <;> exact levels _ (by rw [h]; rfl)
        span := by rintro (h | h) <;> exact levels _ (by rw [h]; rfl)
        timer := timer }

/-! ### The table (R73) -/

/-- A move on an event that is not a repeat ends in a state whose levels are the old ones with that beam changed. -/
theorem DoorState.levels_move {d : DoorState} {l : BeamLevels} {beam : Beam} {broken : Bool}
    (h : d.levels = some l) (changes : l.get beam ≠ broken) :
    (d.move beam broken).1.levels = some (l.set beam broken) := by
  obtain rfl : broken = !l.get beam := Bool.eq_not_of_ne changes.symm
  cases d with
  | blocked => exact nomatch h
  | _ => cases h; cases beam <;> rfl

theorem DoorState.move_entry_iff (d : DoorState) (beam : Beam) (broken : Bool) :
    (d.move beam broken).2 = some .entry ↔ d = .leavingIn ∧ beam = .b ∧ broken = false := by
  unfold move
  split <;> simp_all

theorem DoorState.move_exit_iff (d : DoorState) (beam : Beam) (broken : Bool) :
    (d.move beam broken).2 = some .exit ↔ d = .leavingOut ∧ beam = .a ∧ broken = false := by
  unfold move
  split <;> simp_all

/-! ### A beam event at a decoder (R73, R75, R77) -/

section Event

variable {d : Door} (beam : Beam) (broken : Bool) (now : Nat)

theorem Door.take_of_blocked (h : d.state = .blocked) :
    d.take beam broken now =
      ({ state := if (d.beams.set beam broken).bothClear then .clear else .blocked
         beams := d.beams.set beam broken, blockTimer := none }, none) := if_pos h

theorem Door.take_of_free (h : d.state ≠ .blocked) :
    d.take beam broken now =
      ({ state := (d.state.move beam broken).1, beams := d.beams.set beam broken
         blockTimer := if (d.beams.set beam broken).bothClear then none else some (now + 6000) },
        (d.state.move beam broken).2) := if_neg h

theorem Door.take_beams : (d.take beam broken now).1.beams = d.beams.set beam broken := by
  unfold take
  split <;> rfl

/-- The count is the table's, which gives none in BLOCKED. -/
theorem Door.take_pass : (d.take beam broken now).2 = (d.state.move beam broken).2 := by
  by_cases h : d.state = .blocked
  · rw [take_of_blocked beam broken now h, h]; rfl
  · rw [take_of_free beam broken now h]

variable {beam broken}

/-- An event that is not a repeat inverts the level that the state gives its beam, so one cell per state and beam is left. -/
theorem Door.take_state_of_levels {l : BeamLevels} (law : DoorLaw d) (changes : d.beams.get beam ≠ broken)
    (h : d.state.levels = some l) : (d.take beam broken now).1.state = (d.state.move beam (!l.get beam)).1 := by
  obtain rfl : d.beams = l := ((doorLaw_iff d).mp law).1 l h
  rw [take_of_free beam broken now (DoorState.ne_blocked_of_levels h), Bool.eq_not_of_ne changes.symm]

/-- A decoder keeps its law at every event that is not a repeat. -/
theorem Door.take_lawful (law : DoorLaw d) (changes : d.beams.get beam ≠ broken) :
    DoorLaw (d.take beam broken now).1 := by
  rw [doorLaw_iff]
  by_cases blocked : d.state = .blocked
  · rw [take_of_blocked beam broken now blocked]
    dsimp only
    split
    next clear => exact ⟨fun l h => by cases h; exact (BeamLevels.bothClear_iff _).mp clear, by decide⟩
    next => exact ⟨fun l h => (nomatch h), by decide⟩
  · obtain ⟨l, h⟩ := DoorState.exists_levels blocked
    obtain rfl : d.beams = l := ((doorLaw_iff d).mp law).1 l h
    have moved := DoorState.levels_move h changes
    have free := DoorState.ne_blocked_of_levels moved
    rw [take_of_free beam broken now blocked]
    refine ⟨fun m hm => Option.some.inj (moved.symm.trans hm), ?_⟩
    dsimp only
    rw [Ne, DoorState.eq_clear_iff_of_levels moved]
    split <;> simp_all

end Event

/-! ### The statement -/

/-- Settles O25: the counts by the table's two counting cells, and each row of R73 by the cell that the levels leave. -/
theorem doorsCountWholePasses : Obligations.DoorsCountWholePasses := by
  intro d e beam broken now pass law changes taken
  obtain ⟨rfl, rfl⟩ := Prod.ext_iff.mp taken
  have row : ∀ {state l}, d.state = state → state.levels = some l →
      (d.take beam broken now).1.state = (state.move beam (!l.get beam)).1 := by
    rintro _ _ rfl levels
    exact Door.take_state_of_levels now law changes levels
  rw [Door.take_pass]
  refine ⟨Door.take_lawful now law changes, Door.take_beams beam broken now, DoorState.move_entry_iff _ _ _,
    DoorState.move_exit_iff _ _ _, fun blocked => ?_, fun free => ?_, fun clear => (row clear rfl).trans ?_,
    fun outer => (row outer rfl).trans ?_, fun inner => (row inner rfl).trans ?_,
    fun spanIn => (row spanIn rfl).trans ?_, fun leavingIn => (row leavingIn rfl).trans ?_,
    fun spanOut => (row spanOut rfl).trans ?_, fun leavingOut => (row leavingOut rfl).trans ?_⟩
  · rw [Door.take_of_blocked beam broken now blocked]
  · rw [Door.take_of_free beam broken now free]
  all_goals cases beam <;> rfl

end Sys2Proof.Machine
end

section
/-!
PROOFS. The figures of the Air Controller: the occupants, demand, minimum and setback, row by row (R107 to R109), and the
statement that adds the claim class (R111).
-/

namespace Sys2Proof.Machine

/-- Adding 9 rounds a division by 10 up. -/
theorem ceilDiv_ten (n : Nat) : ceilDiv n 10 = (n + 9) / 10 := rfl

/-- Adding 3 rounds a division by 4 up. -/
theorem ceilDiv_four (n : Nat) : ceilDiv n 4 = (n + 3) / 4 := rfl

section Figures

variable {c : Settings} {a : Air}

/-! ### Occupants and setback (R107, R109) -/

theorem Air.effective_of_prepare (h : a.regime = .prepare) : a.effective = max a.count a.preparingHead := by
  rw [effective, h]

theorem Air.effective_of_ne_prepare (h : a.regime ≠ .prepare) : a.effective = a.count := by
  unfold effective
  cases regime : a.regime with
  | prepare => exact absurd regime h
  | inSession | standby => rfl

theorem Air.setback_iff : a.setback = true ↔ a.regime = .standby ∧ a.vacant = true := by
  simp only [setback, Bool.and_eq_true, beq_iff_eq]

/-! ### The CO2 boost (R108, step 4) -/

theorem Air.co2Boost_of_le (h : a.co2 ≤ c.setpoint) : a.co2Boost c = 0 := if_pos h

theorem Air.co2Boost_of_lt (h : c.setpoint < a.co2) :
    a.co2Boost c = min ((a.co2 - c.setpoint) * a.sub c / 1000) (a.sub c) := if_neg h.not_ge

/-! ### Demand and minimum (R108, R109) -/

theorem Air.demandNow_of_setback (h : a.setback = true) : a.demandNow c = c.setbackFlow := if_pos h

theorem Air.minimumNow_of_setback (h : a.setback = true) : a.minimumNow c = c.setbackFlow := if_pos h

theorem Air.demandNow_of_not_setback (h : ¬a.setback = true) :
    a.demandNow c = min (a.sub c + a.co2Boost c + if a.boost then a.sub c / 4 else 0) c.maxFlow := if_neg h

theorem Air.minimumNow_of_not_setback (h : ¬a.setback = true) : a.minimumNow c = min c.base c.maxFlow := if_neg h

end Figures

/-! ### The statement -/

/-- Settles O33: the worked values are the model's own intermediate values, and setback or none picks the row of D and M. -/
theorem figuresFollowTheRules : Obligations.FiguresFollowTheRules := by
  intro c a occupants base sub boost preparing otherwise hbase hsub noBoost someBoost
  have effective : a.effective = occupants := by
    by_cases h : a.regime = .prepare
    · rw [Air.effective_of_prepare h, preparing h]
    · rw [Air.effective_of_ne_prepare h, otherwise h]
  have baseNeed : c.base = base := by rw [Settings.base, ceilDiv_ten, hbase]
  have subtotal : a.sub c = sub := by rw [Air.sub, ceilDiv_ten, effective, baseNeed, hsub]
  have co2 : a.co2Boost c = boost := by
    rcases Nat.lt_or_ge c.setpoint a.co2 with above | within
    · rw [Air.co2Boost_of_lt above, subtotal, someBoost above]
    · rw [Air.co2Boost_of_le within, noBoost within]
  have flow : c.setbackFlow = min ((base + 3) / 4) c.maxFlow := by
    rw [Settings.setbackFlow, ceilDiv_four, baseNeed]
  rw [← Air.setback_iff]
  refine ⟨effective, fun setback => ⟨?_, ?_⟩, fun outside => ⟨?_, ?_⟩, fun mode => ⟨?_, ?_⟩, rfl, rfl, rfl, rfl⟩
  · rw [Air.demandNow_of_setback setback, flow]
  · rw [Air.minimumNow_of_setback setback, flow]
  · rw [Air.demandNow_of_not_setback outside, subtotal, co2]
  · rw [Air.minimumNow_of_not_setback outside, baseNeed]
  all_goals rfl

end Sys2Proof.Machine
end

section
/-!
PROOFS. The step (log entries 3 and 8): every command has a next state, what a step can do, and the timer that is due first;
power applied and lost.
-/

namespace Sys2Proof.Machine

/-! ### Every command has a next state -/

/-- What a command makes of a state. -/
def effectOf (i : Instr) (s : State) : State :=
  match exec i s with
  | .next t => t
  | .fault _ | .refused _ => s

theorem exec_eq_effectOf (i : Instr) (s : State) : exec i s = .next (effectOf i s) := by
  cases i <;> rfl

/-! ### What each command does, behind its gate

The bookings follow at `effectOf_booking`. -/

@[simp] theorem effectOf_powerOn (s : State) : effectOf .powerOn s = powerUp s := rfl
@[simp] theorem effectOf_readCompletion (image : Vector Byte 48) (s : State) :
    effectOf (.readCompletion image) s = if s.loader.phase = .reading then judgeImage image s else s := rfl
@[simp] theorem effectOf_readTimerExpiry (s : State) :
    effectOf .readTimerExpiry s =
      if s.loader.phase = .reading then s.onExpiry s.loader.readTimer (takeMode .fallback none .fallback false) else s := rfl
@[simp] theorem effectOf_powerLoss (s : State) : effectOf .powerLoss s = blocksOff s := rfl
@[simp] theorem effectOf_lineCharacter (bits : LineCharacter) (s : State) :
    effectOf (.lineCharacter bits) s = s.whileStarted (takeBits bits) := rfl
@[simp] theorem effectOf_quietEvent (s : State) :
    effectOf .quietEvent s = s.whileStarted fun s => s.onExpiry s.bus.quietTimer quietLine := rfl
@[simp] theorem effectOf_busBackoffExpiry (s : State) :
    effectOf .busBackoffExpiry s =
      s.whileStarted fun s => s.onExpiry s.bus.transmitter.backoffTimer (withBus BusPort.retry) := rfl
@[simp] theorem effectOf_clockSecond (s : State) :
    effectOf .clockSecond s = s.whileStarted fun s => s.onExpiry s.clock.tick (clockTick (s.clock.tick.getD 0)) := rfl
@[simp] theorem effectOf_timeMark (source dest : Byte) (minute : Word) (second : Byte) (s : State) :
    effectOf (.timeMark source dest minute second) s =
      s.onMessage source dest true (takeMark minute.toNat second.toNat) := rfl
@[simp] theorem effectOf_mergeCompletion (s : State) :
    effectOf .mergeCompletion s = (s.whileStarted fun s =>
      match s.intake.merge with
      | some m => s.onExpiry (some m.due) (completeMerge m.item)
      | none => s) := rfl
@[simp] theorem effectOf_beamBreak (door : Nat) (beam : Beam) (s : State) :
    effectOf (.beamBreak door beam) s = moveBeam door beam true s := rfl
@[simp] theorem effectOf_beamClear (door : Nat) (beam : Beam) (s : State) :
    effectOf (.beamClear door beam) s = moveBeam door beam false s := rfl
@[simp] theorem effectOf_blockTimerExpiry (door : Nat) (s : State) :
    effectOf (.blockTimerExpiry door) s =
      s.whileStarted fun s => s.onExpiry (s.counter.blockTimerOf door) (blockDoor door) := rfl
@[simp] theorem effectOf_motionPulse (input : Nat) (s : State) :
    effectOf (.motionPulse input) s = if 1 ≤ input ∧ input ≤ 4 then s.whileStarted takePulse else s := rfl
@[simp] theorem effectOf_quietTimerExpiry (s : State) :
    effectOf .quietTimerExpiry s = s.whileStarted fun s => s.onExpiry s.counter.quietTimer judgeQuiet := rfl
@[simp] theorem effectOf_claim (source dest trunk : Byte) (demand minimum : Word) (claimClass : Byte) (withdraw : Bool) (s : State) :
    effectOf (.claim source dest trunk demand minimum claimClass withdraw) s = s.onMessage source dest true (takePeer
      (s.loader.settings.admitsClaim trunk.toNat demand.toNat minimum.toNat claimClass.toNat withdraw) source
      (if withdraw then .withdraw
       else .claim { demand := demand.toNat, minimum := minimum.toNat, claimClass := claimClass.toNat })) := rfl
@[simp] theorem effectOf_sunReading (source dest facade glare klux : Byte) (s : State) :
    effectOf (.sunReading source dest facade glare klux) s = s.onMessage source dest true (takePeer
      (s.loader.settings.admitsSun facade.toNat glare.toNat klux.toNat) source (.sun glare.toNat)) := rfl
@[simp] theorem effectOf_feederStart (source dest facade count duration : Byte) (arrival : Nat) (s : State) :
    effectOf (.feederStart source dest facade count duration arrival) s = s.onMessage source dest true (takePeer
      (s.loader.settings.admitsStart facade.toNat count.toNat duration.toNat) source
      (.start count.toNat (arrival + seconds (duration.toNat + 5)) arrival)) := rfl
@[simp] theorem effectOf_feederEnd (source dest facade count : Byte) (s : State) :
    effectOf (.feederEnd source dest facade count) s = s.onMessage source dest true (takePeer
      (s.loader.settings.admitsEnd facade.toNat count.toNat) source (.stop count.toNat)) := rfl
@[simp] theorem effectOf_sweepTimerExpiry (s : State) :
    effectOf .sweepTimerExpiry s =
      s.whileStarted fun s => s.onExpiry s.peers.sweepTimer (sweep (s.peers.sweepTimer.getD 0)) := rfl
@[simp] theorem effectOf_guardExpiry (peer : Byte) (s : State) :
    effectOf (.guardExpiry peer) s =
      s.whileStarted fun s => s.onExpiry (s.peers.guardOf peer) fun s => deliver (s.peers.expire peer) s := rfl
@[simp] theorem effectOf_co2Reading (ppm : Nat) (s : State) :
    effectOf (.co2Reading ppm) s = s.whileStarted (takeCo2 ppm) := rfl
@[simp] theorem effectOf_co2LossTimerExpiry (s : State) :
    effectOf .co2LossTimerExpiry s = s.whileStarted fun s => s.onExpiry s.air.co2Timer loseCo2 := rfl
@[simp] theorem effectOf_rateWindowExpiry (s : State) :
    effectOf .rateWindowExpiry s = s.whileStarted fun s => s.onExpiry s.air.rateWindow closeRateWindow := rfl
@[simp] theorem effectOf_claimRefreshExpiry (s : State) :
    effectOf .claimRefreshExpiry s = s.whileStarted fun s => s.onExpiry s.air.refreshTimer offerFigures := rfl
@[simp] theorem effectOf_damperFeedback (permille : Nat) (s : State) :
    effectOf (.damperFeedback permille) s = takeFeedback permille s := rfl
@[simp] theorem effectOf_damperFaultTimerExpiry (s : State) :
    effectOf .damperFaultTimerExpiry s = s.whileStarted fun s => s.onExpiry s.air.faultTimer fun s =>
      raiseAlert .damperFault (s.setAir { s.air with faultTimer := none }) := rfl
@[simp] theorem effectOf_shortfallTimerExpiry (s : State) :
    effectOf .shortfallTimerExpiry s = s.whileStarted fun s => s.onExpiry s.air.shortfallTimer fun s =>
      raiseAlert .shortfall (s.setAir { s.air with shortfallTimer := none }) := rfl
@[simp] theorem effectOf_photosensorReading (lux : Nat) (s : State) :
    effectOf (.photosensorReading lux) s = s.whileStarted (takePhoto lux) := rfl
@[simp] theorem effectOf_photosensorLossTimerExpiry (s : State) :
    effectOf .photosensorLossTimerExpiry s = s.whileStarted fun s => s.onExpiry s.light.photoTimer losePhoto := rfl
@[simp] theorem effectOf_harvestTimerExpiry (s : State) :
    effectOf .harvestTimerExpiry s =
      s.whileStarted fun s => s.onExpiry s.light.harvestTimer (harvestTick (s.light.harvestTimer.getD 0)) := rfl
@[simp] theorem effectOf_fadeStep (group : Nat) (s : State) :
    effectOf (.fadeStep group) s = s.whileStarted (fadeStep group) := rfl
@[simp] theorem effectOf_vacancyWarningExpiry (s : State) :
    effectOf .vacancyWarningExpiry s =
      s.whileStarted fun s => s.onExpiry s.light.warning (withLight Light.goDark) := rfl
@[simp] theorem effectOf_harvestHoldReleaseExpiry (s : State) :
    effectOf .harvestHoldReleaseExpiry s =
      s.whileStarted fun s => s.onExpiry s.light.hold.timer (withLight ({ · with hold := .off })) := rfl
@[simp] theorem effectOf_wallSwitch (group : Nat) (on : Bool) (s : State) :
    effectOf (.wallSwitch group on) s = turnSwitch group on s := rfl
@[simp] theorem effectOf_ownSunReading (glare klux : Nat) (s : State) :
    effectOf (.ownSunReading glare klux) s = s.whileStarted (takeSun glare klux) := rfl
@[simp] theorem effectOf_ownReadingAgeExpiry (s : State) :
    effectOf .ownReadingAgeExpiry s = s.whileStarted fun s => s.onExpiry s.blind.ageTimer fun s =>
      recomputeGlare (withBlind ({ · with ageTimer := none }) s) := rfl
@[simp] theorem effectOf_sunSendTimerExpiry (s : State) :
    effectOf .sunSendTimerExpiry s = s.whileStarted fun s => s.onExpiry s.blind.sendTimer sendSun := rfl
@[simp] theorem effectOf_glareHoldTimerExpiry (s : State) :
    effectOf .glareHoldTimerExpiry s = s.whileStarted fun s => s.onExpiry s.blind.holdTimer loseSun := rfl
@[simp] theorem effectOf_dwellTimerExpiry (s : State) :
    effectOf .dwellTimerExpiry s = s.whileStarted fun s => s.onExpiry s.blind.dwellTimer endDwell := rfl
@[simp] theorem effectOf_settleWindowExpiry (s : State) :
    effectOf .settleWindowExpiry s = s.whileStarted fun s => s.onExpiry s.blind.hand.timer closeWindow := rfl
@[simp] theorem effectOf_feederBackoffExpiry (drive : Nat) (s : State) :
    effectOf (.feederBackoffExpiry drive) s = s.whileStarted fun s =>
      match s.blind.backoffOf drive with
      | none => s
      | some k => s.onExpiry (some k.due) (endBackoff k.group) := rfl
@[simp] theorem effectOf_limitInput (drive : Nat) (limit : Limit) (active : Bool) (s : State) :
    effectOf (.limitInput drive limit active) s = moveLimit drive limit active s := rfl
@[simp] theorem effectOf_runTimerExpiry (drive : Nat) (s : State) :
    effectOf (.runTimerExpiry drive) s = (s.whileStarted fun s =>
      match s.blind.runningRun drive with
      | some (r, due) => if r.kind = .intermediate then s.onExpiry due (endIntermediate drive r.goal) else s
      | none => s) := rfl
@[simp] theorem effectOf_runWatchdogExpiry (drive : Nat) (s : State) :
    effectOf (.runWatchdogExpiry drive) s = (s.whileStarted fun s =>
      match s.blind.runningRun drive with
      | some (r, due) => if r.kind = .intermediate then s else s.onExpiry due (stallDrive drive)
      | none => s) := rfl
@[simp] theorem effectOf_lightPlus (s : State) : effectOf .lightPlus s = s.whileStarted (pressKey .lightPlus) := rfl
@[simp] theorem effectOf_lightMinus (s : State) : effectOf .lightMinus s = s.whileStarted (pressKey .lightMinus) := rfl
@[simp] theorem effectOf_blindUp (s : State) : effectOf .blindUp s = s.whileStarted (pressKey .blindUp) := rfl
@[simp] theorem effectOf_blindDown (s : State) : effectOf .blindDown s = s.whileStarted (pressKey .blindDown) := rfl
@[simp] theorem effectOf_airPlus (s : State) : effectOf .airPlus s = s.whileStarted (pressKey .airPlus) := rfl
@[simp] theorem effectOf_resumeKey (s : State) : effectOf .resumeKey s = s.whileStarted (pressKey .resume) := rfl
@[simp] theorem effectOf_blinkTimerExpiry (s : State) :
    effectOf .blinkTimerExpiry s =
      s.whileStarted fun s => s.onExpiry s.panel.blinkTimer (withPanel ({ · with blinkTimer := none })) := rfl
@[simp] theorem effectOf_emergencyLineChange (asserted : Bool) (s : State) :
    effectOf (.emergencyLineChange asserted) s = moveEmergencyLine asserted s := rfl
@[simp] theorem effectOf_debounceTimerExpiry (s : State) :
    effectOf .debounceTimerExpiry s = if s.powered then s.onExpiry s.alert.debounce settleEmergency else s := rfl
@[simp] theorem effectOf_statusRequest (source dest : Byte) (s : State) :
    effectOf (.statusRequest source dest) s = s.onMessage source dest true (answerStatus source) := rfl
@[simp] theorem effectOf_serviceRestart (source dest : Byte) (s : State) :
    effectOf (.serviceRestart source dest) s = s.onMessage source dest false restart := rfl
@[simp] theorem effectOf_serviceClear (source dest : Byte) (s : State) :
    effectOf (.serviceClear source dest) s = s.onMessage source dest false (fanOut [.blind, .panel] takeClear) := rfl
@[simp] theorem effectOf_characterNotReadBack (s : State) :
    effectOf .characterNotReadBack s = s.whileStarted missCharacter := rfl

/-- A booking arrives as its item (R36). -/
theorem effectOf_booking {i : Instr} {b : Booking} (h : bookingOf i = some b) (s : State) :
    effectOf i s = s.onMessage b.source b.dest false (arrive b.item) := by
  cases i with
  | sessionOffer | sessionAmend | sessionCancel => cases h; rfl
  | _ => exact nomatch h

/-! ### The step -/

theorem step_of_pending {c : Instr} {rest : List Instr} {s : State} (h : s.pending = c :: rest) :
    step s = exec c (s.setPending rest) := by
  unfold step
  rw [h]

theorem step_of_inbox {c : Instr} {rest : List Instr} {s : State} (h : s.pending = []) (hi : s.inbox = c :: rest) :
    step s = exec c (s.setInbox rest) := by
  unfold step idle
  rw [h, hi]

theorem step_of_due {c : Instr} {s : State} (h : s.pending = []) (hi : s.inbox = []) (due : s.dueCommand = some c) :
    step s = exec c s := by
  unfold step idle
  rw [h, hi]
  dsimp only
  rw [due]

theorem step_of_waiting {s : State} (h : s.pending = []) (hi : s.inbox = []) (due : s.dueCommand = none) :
    step s = .next s.tick := by
  unfold step idle
  rw [h, hi]
  dsimp only
  rw [due]

/-- All a step can do: it takes a command from one of the two queues or one that is due, or lets a millisecond pass. -/
theorem step_cases (s : State) :
    (∃ c rest, step s = .next (effectOf c (s.setPending rest))) ∨ (∃ c rest, step s = .next (effectOf c (s.setInbox rest))) ∨
      (∃ c, step s = .next (effectOf c s)) ∨ step s = .next s.tick := by
  cases hp : s.pending with
  | cons c rest => exact .inl ⟨c, rest, by rw [step_of_pending hp, exec_eq_effectOf]⟩
  | nil =>
    cases hi : s.inbox with
    | cons c rest => exact .inr (.inl ⟨c, rest, by rw [step_of_inbox hp hi, exec_eq_effectOf]⟩)
    | nil =>
      cases due : s.dueCommand with
      | some c => exact .inr (.inr (.inl ⟨c, by rw [step_of_due hp hi due, exec_eq_effectOf]⟩))
      | none => exact .inr (.inr (.inr (step_of_waiting hp hi due)))

/-- A property that every command keeps, and that looks at neither queue nor at the time base, is kept by every step. -/
theorem step_keeps {P : State → Prop} (pending : ∀ s v, P s → P (s.setPending v)) (inbox : ∀ s v, P s → P (s.setInbox v))
    (now : ∀ s v, P s → P (s.setNow v)) (command : ∀ i s, P s → P (effectOf i s)) {s t : State} (p : P s)
    (h : step s = .next t) : P t := by
  rcases step_cases s with ⟨c, rest, e⟩ | ⟨c, rest, e⟩ | ⟨c, e⟩ | e <;> rw [e] at h <;> cases h
  · exact command c _ (pending s rest p)
  · exact command c _ (inbox s rest p)
  · exact command c s p
  · unfold State.tick
    split
    · exact now s _ p
    · exact p

/-! ### The timer that is due first -/

/-- The running choice of the timer due first, given the best so far. -/
def dueFirst (best : Option DueTimer) (t : DueTimer) : Option DueTimer :=
  match best with
  | none => some t
  | some b => if t.due < b.due then some t else some b

theorem foldl_dueFirst (timers : List DueTimer) :
    ∀ b, ∃ t, timers.foldl dueFirst (some b) = some t ∧ (t = b ∨ t ∈ timers) ∧ t.due ≤ b.due ∧ ∀ u ∈ timers, t.due ≤ u.due := by
  induction timers with
  | nil => exact fun b => ⟨b, rfl, .inl rfl, Nat.le_refl _, by simp⟩
  | cons x rest ih =>
    intro b
    by_cases h : x.due < b.due
    · obtain ⟨t, found, mem, low, all⟩ := ih x
      refine ⟨t, by rw [List.foldl_cons, dueFirst, if_pos h, found], .inr (List.mem_cons.mpr mem), by omega, ?_⟩
      exact List.forall_mem_cons.mpr ⟨low, all⟩
    · obtain ⟨t, found, mem, low, all⟩ := ih b
      refine ⟨t, by rw [List.foldl_cons, dueFirst, if_neg h, found], mem.imp_right (List.mem_cons_of_mem _), low, ?_⟩
      exact List.forall_mem_cons.mpr ⟨by omega, all⟩

theorem earliest_none {timers : List DueTimer} (h : earliest timers = none) : timers = [] := by
  cases timers with
  | nil => rfl
  | cons x rest =>
    obtain ⟨t, found, -⟩ := foldl_dueFirst rest x
    exact nomatch found.symm.trans h

theorem earliest_some {timers : List DueTimer} {t : DueTimer} (h : earliest timers = some t) :
    t ∈ timers ∧ ∀ u ∈ timers, t.due ≤ u.due := by
  cases timers with
  | nil => exact nomatch h
  | cons x rest =>
    obtain ⟨t', found, mem, low, all⟩ := foldl_dueFirst rest x
    obtain rfl : t' = t := Option.some.inj (found.symm.trans h)
    exact ⟨List.mem_cons.mpr mem, List.forall_mem_cons.mpr ⟨low, all⟩⟩

theorem mem_timers_permuted (s : State) (u : DueTimer) :
    u ∈ permute s.order (s.conversationTimers ++ s.roomTimers) ↔ u ∈ s.timers := mem_permute

theorem dueCommand_some {s : State} {c : Instr} (h : s.dueCommand = some c) :
    ∃ t ∈ s.timers, t.command = c ∧ t.due ≤ s.now ∧ ∀ u ∈ s.timers, t.due ≤ u.due := by
  unfold State.dueCommand at h
  split at h
  next t found =>
    obtain ⟨mem, first⟩ := earliest_some found
    split at h
    next due =>
      exact ⟨t, (mem_timers_permuted s t).mp mem, Option.some.inj h, due, fun u hu => first u ((mem_timers_permuted s u).mpr hu)⟩
    next => exact nomatch h
  next => exact nomatch h

theorem dueCommand_none {s : State} (h : s.dueCommand = none) : ∀ u ∈ s.timers, s.now < u.due := by
  intro u hu
  rw [← mem_timers_permuted] at hu
  unfold State.dueCommand at h
  split at h
  next t found =>
    have first := (earliest_some found).2 u hu
    split at h
    next => exact nomatch h
    next later => omega
  next none => exact nomatch earliest_none none ▸ hu

/-! ### The statements about the step and about power -/

/-- Settles O1: the first branch of the step. -/
theorem stepTakesTheFrontCommand : Obligations.StepTakesTheFrontCommand :=
  fun _ _ _ waiting => step_of_pending waiting

/-- Settles O2: the three branches of the idle step, and an arm of `exec` for every command. -/
theorem idleStepTakesWhatIsDue : Obligations.IdleStepTakesWhatIsDue := by
  refine ⟨fun s hp => ⟨fun c rest hi => step_of_inbox hp hi, fun hi => ⟨fun c due => ?_, fun due => ?_⟩⟩,
    fun i s => ⟨_, exec_eq_effectOf i s⟩, fun s => ?_⟩
  · exact ⟨step_of_due hp hi due, dueCommand_some due⟩
  · exact ⟨dueCommand_none due, step_of_waiting hp hi due⟩
  · rcases step_cases s with ⟨_, _, e⟩ | ⟨_, _, e⟩ | ⟨_, e⟩ | e <;> exact ⟨_, e⟩

/-- Settles O3: both commands put every block at its value without power, and no block drives an output while READING. -/
theorem powerComesAndGoes : Obligations.PowerComesAndGoes := by
  intro s
  have powered : s.loader.phase = .off → exec .powerOn s = .next
      { State.reset with
        pending := s.pending, now := s.now, draws := s.draws, order := s.order, lines := s.lines
        loader := { phase := .reading, readTimer := some (s.now + 1000), address := none, settings := Settings.fallback }
        alert := { raised := 0, mask := 0, emergency := false, debounce := some (s.now + 50) } } := by
    intro off
    show Host.Outcome.next (powerUp s) = _
    unfold powerUp
    rw [off]
    rfl
  refine ⟨?_, ?_⟩
  · rintro t rfl
    exact ⟨rfl, powered⟩
  · intro t h off
    rw [powered off] at h
    cases h
    exact ⟨fun _ => rfl, rfl, fun _ => rfl, rfl, rfl, rfl⟩

/-! ### The laws of the station without power -/

theorem fallback_inRange : Settings.fallback.InRange := by
  constructor
  all_goals decide

theorem emptyTable_slots (p : Peer) : some p ∉ PeerTable.empty.slots := fun h => nomatch List.eq_of_mem_replicate h

theorem loaderLaw_off : LoaderLaw Loader.off where
  settings := fallback_inRange
  fallback _ := rfl
  address _ h := nomatch h
  normal h := nomatch h
  silent _ := rfl

theorem busLaw_off : BusLaw BusPort.off where
  queue := by decide
  attempts := by decide
  fresh _ := rfl
  claims := by decide
  suns := by decide
  replies _ := Nat.zero_le _
  hold h := nomatch h
  sending h := nomatch h
  quiet _ := rfl

theorem listLaw_empty (capacity : Nat) : ListLaw capacity [] where
  size := by decide
  ids := .nil
  inOrder := .nil
  booked := by simp
  bounds := by simp
  grace := by simp
  repeating := by simp

theorem regimeLaw_empty : RegimeLaw SessionEngine.empty where
  inSession := by simp [SessionEngine.empty]
  standby := by simp [SessionEngine.empty]
  teaching h := nomatch h
  preparing h := nomatch h
  absent := ⟨fun _ => rfl, fun _ => rfl⟩

theorem roomLaw_reset : RoomLaw State.reset where
  air := ⟨rfl, rfl, rfl, rfl, rfl⟩
  light := ⟨rfl, rfl, rfl, rfl⟩
  scene := rfl
  blind := ⟨rfl, rfl, rfl, rfl⟩
  panel := ⟨rfl, rfl, rfl⟩
  prepare h := nomatch h
  off _ := ⟨rfl, rfl, rfl⟩
  band := by decide
  target _ h := nomatch h

theorem counterLaw_reset : CounterLaw State.reset where
  capacity := by decide
  count := by decide
  vacant h := nomatch h
  quiet h := nomatch h
  doors := by simp [State.reset, Counter.empty]

theorem peerLaw_reset : PeerLaw State.reset where
  slots := by decide
  pointer := by decide
  entries p h := absurd h (emptyTable_slots p)
  distinct i j p q h := absurd (List.mem_of_getElem? h) (emptyTable_slots p)
  empty _ := emptyTable_slots

theorem airLaw_reset : AirLaw State.reset where
  maxFlow := by decide
  figures := by decide
  fallback h := nomatch h
  asserted h := nomatch h
  grant h := nomatch h
  bound := by decide
  shortfall := rfl
  table _ := emptyTable_slots
  fault h := by rcases h with h | h <;> exact nomatch h

theorem driveLaw_idle : DriveLaw Blind.idle where
  slots := by decide
  out := by simp [Blind.idle]
  streak := by simp [Blind.idle]
  running := by simp [Blind.idle]

theorem emergencyLaw_reset : EmergencyLaw State.reset where
  alert := rfl
  copies h := nomatch h
  air h := nomatch h
  light h := nomatch h
  blind h := nomatch h
  panel h := nomatch h

/-- Settles O60: the station without power holds empty lists, stopped timers and zeros. -/
theorem resetMeetsEveryLaw : Obligations.ResetMeetsEveryLaw :=
  ⟨loaderLaw_off, busLaw_off, listLaw_empty _, regimeLaw_empty, roomLaw_reset, counterLaw_reset, peerLaw_reset, airLaw_reset,
    driveLaw_idle, emergencyLaw_reset⟩

end Sys2Proof.Machine
end

section
/-!
PROOFS. The transmit queue: its head, replacement, the full queue and eviction (R10, R18 to R22).
-/

namespace Sys2Proof.Machine

/-! ### Places in a list -/

theorem findIdx?_append_cons {α : Type} {p : α → Bool} {before after : List α} {w : α} (h : ∀ g ∈ before, p g = false)
    (hw : p w = true) : (before ++ w :: after).findIdx? p = some before.length := by
  simp [List.findIdx?_append, List.findIdx?_eq_none_iff.mpr h, List.findIdx?_cons, hw]

theorem modify_append_cons {α : Type} (before after : List α) (w : α) (f : α → α) :
    (before ++ w :: after).modify before.length f = before ++ f w :: after := by
  induction before with
  | nil => rfl
  | cons x xs ih => simp [ih]

theorem eraseIdx_append_cons {α : Type} (before after : List α) (w : α) :
    (before ++ w :: after).eraseIdx before.length = before ++ after := by
  simp [List.eraseIdx_append_of_length_le]

/-- The place found holds the first element that passes. -/
theorem findIdx?_first {α : Type} {p : α → Bool} {xs : List α} {i : Nat} (h : xs.findIdx? p = some i) :
    ∃ x, xs[i]? = some x ∧ p x = true ∧ ∀ (j : Nat) (y : α), xs[j]? = some y → p y = true → i ≤ j := by
  obtain ⟨hi, hp, first⟩ := List.findIdx?_eq_some_iff_getElem.mp h
  refine ⟨xs[i], by simp [hi], hp, fun j y hj hy => ?_⟩
  by_contra later
  obtain ⟨hj', rfl⟩ := List.getElem?_eq_some_iff.mp hj
  exact first j (by omega) hy

/-! ### Classes (R18, R19) -/

theorem Kind.rank_le (k : Kind) : k.rank ≤ 7 := by cases k <;> decide

theorem bestRank_cons (f : Frame) (q : List Frame) : bestRank (f :: q) = min f.kind.rank (bestRank q) := rfl

theorem worstRank_cons (f : Frame) (q : List Frame) : worstRank (f :: q) = max f.kind.rank (worstRank q) := rfl

theorem bestRank_le {q : List Frame} {g : Frame} (h : g ∈ q) : bestRank q ≤ g.kind.rank := by
  induction q with
  | nil => exact nomatch h
  | cons f q ih =>
    rw [bestRank_cons]
    rcases List.mem_cons.mp h with rfl | h
    · exact Nat.min_le_left _ _
    · exact (Nat.min_le_right _ _).trans (ih h)

theorem exists_bestRank {q : List Frame} (h : q ≠ []) : ∃ f ∈ q, f.kind.rank = bestRank q := by
  induction q with
  | nil => exact absurd rfl h
  | cons f q ih =>
    rw [bestRank_cons]
    rcases Nat.le_total f.kind.rank (bestRank q) with low | high
    · exact ⟨f, by simp, by omega⟩
    · have some : q ≠ [] := by
        rintro rfl
        have := f.kind.rank_le
        have : bestRank [] = 8 := rfl
        omega
      obtain ⟨g, mem, rank⟩ := ih some
      exact ⟨g, by simp [mem], by omega⟩

theorem worstRank_le_iff {q : List Frame} {r : Nat} : worstRank q ≤ r ↔ ∀ g ∈ q, g.kind.rank ≤ r := by
  induction q with
  | nil => simp [worstRank]
  | cons f q ih => rw [worstRank_cons, Nat.max_le, ih, List.forall_mem_cons]

theorem worstRank_eq {q : List Frame} {v : Frame} (mem : v ∈ q) (worst : ∀ g ∈ q, g.kind.rank ≤ v.kind.rank) :
    worstRank q = v.kind.rank :=
  Nat.le_antisymm (worstRank_le_iff.mpr worst) (worstRank_le_iff.mp (Nat.le_refl _) v mem)

/-! ### The head (R10, R19, R22) -/

theorem headPlace_of_unheld {b : BusPort} (h : b.hold = false) : b.headPlace = oldestOf (bestRank b.queue) b.queue := by
  unfold BusPort.headPlace
  rw [h]
  exact if_neg Bool.false_ne_true

theorem headPlace_of_held {b : BusPort} (h : b.hold = true) : b.headPlace = b.queue.findIdx? (·.kind == .identity) :=
  if_pos h

theorem oldestOf_bestRank_none {q : List Frame} : oldestOf (bestRank q) q = none ↔ q = [] := by
  unfold oldestOf
  rw [List.findIdx?_eq_none_iff]
  constructor
  · intro none
    by_contra some
    obtain ⟨f, mem, rank⟩ := exists_bestRank some
    simpa [rank] using none f mem
  · rintro rfl
    simp

theorem oldestOf_bestRank_some {q : List Frame} {i : Nat} (h : oldestOf (bestRank q) q = some i) :
    ∃ f, q[i]? = some f ∧
      ∀ (j : Nat) (g : Frame), q[j]? = some g → f.kind.rank < g.kind.rank ∨ (f.kind.rank = g.kind.rank ∧ i ≤ j) := by
  obtain ⟨f, place, best, first⟩ := findIdx?_first h
  rw [beq_iff_eq] at best
  refine ⟨f, place, fun j g hj => ?_⟩
  have low : f.kind.rank ≤ g.kind.rank := best ▸ bestRank_le (List.mem_of_getElem? hj)
  rcases low.lt_or_eq with less | same
  · exact .inl less
  · exact .inr ⟨same, first j g hj (by rw [beq_iff_eq, ← same, best])⟩

theorem takeHead_of_ready {b : BusPort} {i : Nat} {f : Frame} (idle : b.transmitter = .idle) (quiet : b.line = .quiet)
    (place : b.headPlace = some i) (head : b.queue[i]? = some f) :
    b.takeHead = { b with
      queue := b.queue.eraseIdx i, transmitter := .sending f 0, attempts := 0, line := .busy, quietTimer := none } := by
  unfold BusPort.takeHead
  rw [idle, quiet, place]
  dsimp only
  rw [head]
  rfl

theorem takeHead_of_not_ready {b : BusPort} (h : b.transmitter ≠ .idle ∨ b.line = .busy ∨ b.headPlace = none) :
    b.takeHead = b := by
  rcases b.takeHead_cases with e | ⟨i, f, idle, quiet, place, -, -⟩
  · exact e
  · rcases h with h | h | h
    · exact absurd idle h
    · exact nomatch quiet.symm.trans h
    · exact nomatch place.symm.trans h

/-! ### Admission (R20, R21) -/

theorem enqueue_of_replaces {b : BusPort} {f w : Frame} {before after : List Frame} (split : b.queue = before ++ w :: after)
    (none : ∀ g ∈ before, replaces f g = false) (hw : replaces f w = true) :
    b.enqueue f = ({ b with queue := before ++ { w with body := f.body } :: after }, true) := by
  unfold BusPort.enqueue
  rw [split, findIdx?_append_cons none hw]
  dsimp only
  rw [modify_append_cons]

theorem enqueue_of_room {b : BusPort} {f : Frame} (none : ∀ g ∈ b.queue, replaces f g = false) (room : b.queue.length < 10) :
    b.enqueue f = ({ b with queue := b.queue ++ [f] }, true) := by
  unfold BusPort.enqueue
  rw [List.findIdx?_eq_none_iff.mpr none]
  exact if_pos room

theorem enqueue_of_full {b : BusPort} {f : Frame} (none : ∀ g ∈ b.queue, replaces f g = false) (full : 10 ≤ b.queue.length)
    (low : ∀ g ∈ b.queue, g.kind.rank ≤ f.kind.rank) : b.enqueue f = (b, false) := by
  unfold BusPort.enqueue
  rw [List.findIdx?_eq_none_iff.mpr none]
  dsimp only
  rw [if_neg (by unfold queueLimit; omega), if_pos (worstRank_le_iff.mpr low)]

theorem newestOf_append_cons {before after : List Frame} {v : Frame} (later : ∀ g ∈ after, g.kind.rank ≠ v.kind.rank) :
    newestOf v.kind.rank (before ++ v :: after) = some before.length := by
  unfold newestOf oldestOf
  have reversed : (before ++ v :: after).reverse = after.reverse ++ v :: before.reverse := by simp
  rw [reversed, findIdx?_append_cons (by simpa using later) (by simp)]
  simp only [Option.map_some, List.length_append, List.length_cons, List.length_reverse, Option.some.injEq]
  omega

theorem enqueue_of_evicts {b : BusPort} {f v : Frame} {before after : List Frame}
    (none : ∀ g ∈ b.queue, replaces f g = false) (full : 10 ≤ b.queue.length) (split : b.queue = before ++ v :: after)
    (worse : f.kind.rank < v.kind.rank) (earlier : ∀ g ∈ before, g.kind.rank ≤ v.kind.rank)
    (later : ∀ g ∈ after, g.kind.rank < v.kind.rank) :
    b.enqueue f = ({ b with queue := before ++ after ++ [f], hold := b.hold && v.kind != .identity }, true) := by
  have worst : worstRank b.queue = v.kind.rank := by
    refine worstRank_eq (by simp [split]) ?_
    rw [split, List.forall_mem_append, List.forall_mem_cons]
    exact ⟨earlier, Nat.le_refl _, fun g hg => (later g hg).le⟩
  unfold BusPort.enqueue
  rw [List.findIdx?_eq_none_iff.mpr none]
  dsimp only
  rw [if_neg (by unfold queueLimit; omega), worst, if_neg (by omega), split,
    newestOf_append_cons fun g hg => (later g hg).ne]
  dsimp only
  rw [eraseIdx_append_cons]
  simp [bne]

theorem replaces_iff (f g : Frame) : replaces f g = true ↔
    (f.kind = .claim ∧ g.kind = .claim) ∨ (f.kind = .sunReading ∧ g.kind = .sunReading) ∨
      (f.kind = .statusReply ∧ g.kind = .statusReply ∧ g.dest = f.dest) := by
  unfold replaces
  split <;> simp_all

/-! ### The offer (R18) -/

theorem takesOffer_iff (s : State) (kind : Kind) : s.takesOffer kind = true ↔
    s.loader.address ≠ none ∧ (s.loader.phase = .normal ∨
      (s.loader.phase = .fallback ∧ (kind = .identity ∨ kind = .statusReply ∨ kind = .outcome))) := by
  simp [State.takesOffer, Option.isSome_iff_ne_none, or_assoc]

theorem offerAnswered_of_taken {s : State} {f : Frame} (h : s.takesOffer f.kind = true) :
    offerAnswered f s = (s.setBus (s.bus.enqueue f).1.takeHead, (s.bus.enqueue f).2) := if_pos h

theorem offerAnswered_of_refused {s : State} {f : Frame} (h : ¬s.takesOffer f.kind = true) :
    offerAnswered f s = (s, false) := if_neg h

/-- Settles O11: the head by the rank of the best class, the admission branch by branch. -/
theorem queueOrdersReplacesAndEvicts : Obligations.QueueOrdersReplacesAndEvicts := by
  refine ⟨fun b => ⟨fun unheld => ?_, fun held => ?_⟩, fun b f => ⟨fun before w after split none hw => ?_, fun none => ?_⟩,
    fun s f => ⟨rfl, fun silent => ?_, fun fallback h1 h2 h3 => ?_, fun address mode => ?_⟩,
    fun b => ⟨fun i f => takeHead_of_ready, takeHead_of_not_ready⟩, replaces_iff, rfl⟩
  · rw [headPlace_of_unheld unheld]
    exact ⟨oldestOf_bestRank_none, fun i => oldestOf_bestRank_some⟩
  · rw [headPlace_of_held held]
    refine ⟨by simp [List.findIdx?_eq_none_iff], fun i place => ?_⟩
    obtain ⟨f, at_, kind, first⟩ := findIdx?_first place
    exact ⟨f, at_, by simpa using kind, fun j g hj hg => first j g hj (by simp [hg])⟩
  · exact enqueue_of_replaces split none hw
  · exact ⟨enqueue_of_room none, enqueue_of_full none, fun full before v after => enqueue_of_evicts none full⟩
  · exact offerAnswered_of_refused fun h => ((takesOffer_iff s f.kind).mp h).1 silent
  · refine offerAnswered_of_refused fun h => ?_
    obtain ⟨-, normal | ⟨-, kind⟩⟩ := (takesOffer_iff s f.kind).mp h
    · exact nomatch fallback.symm.trans normal
    · exact kind.elim h1 (Or.elim · h2 h3)
  · exact offerAnswered_of_taken ((takesOffer_iff s f.kind).mpr ⟨address, mode⟩)

end Sys2Proof.Machine
end

section
/-!
PROOFS. The law of the transmit side of the Bus Port and of its quiet detector, kept by every operation of the Bus Port and so
by every step (R10, R13, R19, R20, R22 to R25, R27).
-/

namespace Sys2Proof.Machine

/-! ### What an admission and a taking of the head do to the queue -/

theorem split_at {α : Type} {xs : List α} {i : Nat} {x : α} (h : xs[i]? = some x) :
    xs = xs.take i ++ x :: xs.drop (i + 1) := by
  obtain ⟨hi, rfl⟩ := List.getElem?_eq_some_iff.mp h
  simp

/-- All an admission can do, with the place it acts at named by the frames before and after it (R20, R21). -/
theorem enqueue_shapes (b : BusPort) (f : Frame) :
    (∃ before w after, b.queue = before ++ w :: after ∧ replaces f w = true ∧
        b.enqueue f = ({ b with queue := before ++ { w with body := f.body } :: after }, true)) ∨
      ((∀ g ∈ b.queue, replaces f g = false) ∧ b.queue.length < 10 ∧
        b.enqueue f = ({ b with queue := b.queue ++ [f] }, true)) ∨
      b.enqueue f = (b, false) ∨
      ∃ before v after, b.queue = before ++ v :: after ∧ (∀ g ∈ b.queue, replaces f g = false) ∧
        f.kind.rank < v.kind.rank ∧
        b.enqueue f = ({ b with queue := before ++ after ++ [f], hold := b.hold && v.kind != .identity }, true) := by
  rcases b.enqueue_cases f with ⟨i, found, -⟩ | ⟨none, room, e⟩ | ⟨-, -, e⟩ | ⟨i, none, full, worse, newest, e⟩
  · obtain ⟨w, place, hw, first⟩ := findIdx?_first found
    obtain ⟨hi, rfl⟩ := List.getElem?_eq_some_iff.mp place
    refine .inl ⟨_, _, _, split_at place, hw, enqueue_of_replaces (split_at place) (fun g mem => ?_) hw⟩
    obtain ⟨j, hj, rfl⟩ := List.mem_take_iff_getElem.mp mem
    by_contra replaced
    have := first j _ (List.getElem?_eq_getElem (by omega)) (by simpa using replaced)
    omega
  · exact .inr (.inl ⟨List.findIdx?_eq_none_iff.mp none, room, e⟩)
  · exact .inr (.inr (.inl e))
  · unfold newestOf oldestOf at newest
    obtain ⟨j, place, rfl⟩ := Option.map_eq_some_iff.mp newest
    obtain ⟨v, hv, rank, -⟩ := findIdx?_first place
    obtain ⟨hj, -⟩ := List.getElem?_eq_some_iff.mp hv
    rw [List.length_reverse] at hj
    rw [List.getElem?_reverse hj] at hv
    have splits := split_at hv
    rw [beq_iff_eq] at rank
    refine .inr (.inr (.inr ⟨_, v, _, splits, List.findIdx?_eq_none_iff.mp none, rank ▸ worse, ?_⟩))
    rw [e, hv, List.eraseIdx_eq_take_drop_succ]
    simp [bne]

/-- All the taking of the head can do: nothing, or one frame, the IDENTITY where it is held, leaves the queue for the line. -/
theorem takeHead_shapes (b : BusPort) :
    b.takeHead = b ∨
      ∃ before f after, b.transmitter = .idle ∧ b.line = .quiet ∧ b.queue = before ++ f :: after ∧
        (b.hold = true → f.kind = .identity) ∧
        b.takeHead = { b with
          queue := before ++ after, transmitter := .sending f 0, attempts := 0, line := .busy, quietTimer := none } := by
  rcases b.takeHead_cases with e | ⟨i, f, idle, quiet, place, head, e⟩
  · exact .inl e
  · refine .inr ⟨_, f, _, idle, quiet, split_at head, fun held => ?_, ?_⟩
    · rw [headPlace_of_held held] at place
      obtain ⟨g, hg, kind, -⟩ := findIdx?_first place
      obtain rfl : f = g := Option.some.inj (head.symm.trans hg)
      simpa using kind
    · rw [e, List.eraseIdx_eq_take_drop_succ]

/-! ### The operations of the Bus Port -/

section BusLaw

variable {b : BusPort} {f : Frame}

/-- An admission leaves at most one frame of a family whose newest frame replaces the waiting one. -/
theorem enqueue_countP {p : Frame → Bool} (bodiless : ∀ w body, p { w with body := body } = p w)
    (covered : p f = true → ∀ g, p g = true → replaces f g = true) (h : b.queue.countP p ≤ 1) :
    (b.enqueue f).1.queue.countP p ≤ 1 := by
  have joined : ∀ q : List Frame, q.countP p ≤ 1 → (∀ g ∈ q, replaces f g = false) → (q ++ [f]).countP p ≤ 1 := by
    intro q hq none
    rw [List.countP_append, List.countP_singleton]
    split
    next hf =>
      have absent : q.countP p = 0 :=
        List.countP_eq_zero.mpr fun g hg pg => nomatch (none g hg).symm.trans (covered hf g pg)
      omega
    next => omega
  rcases enqueue_shapes b f with ⟨before, w, after, split, -, e⟩ | ⟨none, -, e⟩ | e | ⟨before, v, after, split, none, -, e⟩ <;>
    rw [e]
  · rw [split] at h
    simpa [List.countP_append, List.countP_cons, bodiless] using h
  · exact joined _ h none
  · exact h
  · refine joined _ ?_ fun g hg => none g ?_
    · rw [split] at h
      simp only [List.countP_append, List.countP_cons] at h ⊢
      omega
    · rw [split]
      simp only [List.mem_append, List.mem_cons] at hg ⊢
      tauto

theorem enqueue_length (h : b.queue.length ≤ 10) : (b.enqueue f).1.queue.length ≤ 10 := by
  rcases enqueue_shapes b f with ⟨before, w, after, split, -, e⟩ | ⟨-, room, e⟩ | e | ⟨before, v, after, split, -, -, e⟩ <;>
    rw [e]
  · rw [split] at h
    simpa using h
  · simp only [List.length_append, List.length_singleton]
    omega
  · exact h
  · rw [split] at h
    simp only [List.length_append, List.length_cons, List.length_nil] at h ⊢
    omega

/-- The hold names an IDENTITY that waits or is in transmission (R10). -/
def BusPort.heldIdentity (b : BusPort) : Prop :=
  b.hold = true → (∃ f ∈ b.queue, f.kind = .identity) ∨ b.transmitter.holds .identity = true

theorem enqueue_heldIdentity (h : b.heldIdentity) : (b.enqueue f).1.heldIdentity := by
  rcases enqueue_shapes b f with ⟨before, w, after, split, -, e⟩ | ⟨-, -, e⟩ | e | ⟨before, v, after, split, -, -, e⟩ <;>
    rw [e] <;> intro held
  · refine (h held).imp_left ?_
    rintro ⟨g, mem, kind⟩
    rw [split, List.mem_append, List.mem_cons] at mem
    rcases mem with mem | rfl | mem
    · exact ⟨g, by simp [mem], kind⟩
    · exact ⟨{ g with body := f.body }, by simp, kind⟩
    · exact ⟨g, by simp [mem], kind⟩
  · exact (h held).imp_left fun ⟨g, mem, kind⟩ => ⟨g, by simp [mem], kind⟩
  · exact h held
  · simp only [Bool.and_eq_true, bne_iff_ne] at held
    refine (h held.1).imp_left ?_
    rintro ⟨g, mem, kind⟩
    rw [split, List.mem_append, List.mem_cons] at mem
    rcases mem with mem | rfl | mem
    · exact ⟨g, by simp [mem], kind⟩
    · exact absurd kind held.2
    · exact ⟨g, by simp [mem], kind⟩

theorem BusLaw.enqueue (h : BusLaw b) : BusLaw (b.enqueue f).1 := by
  have held := enqueue_heldIdentity (f := f) h.hold
  have queue := enqueue_length (f := f) h.queue
  have claims := enqueue_countP (f := f) (p := (·.kind == .claim)) (fun _ _ => rfl) (by simp [replaces_iff]; tauto) h.claims
  have suns := enqueue_countP (f := f) (p := (·.kind == .sunReading)) (fun _ _ => rfl) (by simp [replaces_iff]; tauto) h.suns
  have replies := fun requester => enqueue_countP (f := f) (p := fun f => f.kind == .statusReply && f.dest == requester)
    (fun _ _ => rfl) (by simp [replaces_iff]; rintro kind rfl g kind' dest; tauto) (h.replies requester)
  obtain ⟨q, hold, e⟩ := b.enqueue_eq f
  rw [e] at held queue claims suns ⊢
  simp only [e] at replies
  exact { h with queue := queue, claims := claims, suns := suns, replies := replies, hold := held }

theorem countP_remove {α : Type} {p : α → Bool} {before after : List α} {x : α} {n : Nat}
    (h : (before ++ x :: after).countP p ≤ n) : (before ++ after).countP p ≤ n := by
  simp only [List.countP_append, List.countP_cons] at h ⊢
  omega

theorem BusLaw.takeHead (h : BusLaw b) : BusLaw b.takeHead := by
  rcases takeHead_shapes b with e | ⟨before, f, after, -, -, split, held, e⟩ <;> rw [e]
  · exact h
  · have queue := h.queue
    have claims := h.claims
    have suns := h.suns
    have replies := h.replies
    rw [split] at queue claims suns
    exact
      { queue := by simp only [List.length_append, List.length_cons] at queue ⊢; omega
        attempts := Nat.zero_le _
        fresh := fun _ => rfl
        claims := countP_remove claims
        suns := countP_remove suns
        replies := fun requester => countP_remove (split ▸ replies requester)
        hold := fun holds => .inr (by simp [Transmitter.holds, held holds])
        sending := fun _ => ⟨rfl, rfl⟩
        quiet := fun line => nomatch line }

theorem enqueue_holds_identity (kind : f.kind = .identity) (taken : (b.enqueue f).2 = true) :
    ∃ g ∈ (b.enqueue f).1.queue, g.kind = .identity := by
  rcases enqueue_shapes b f with ⟨before, w, after, -, replaced, -⟩ | ⟨-, -, e⟩ | e | ⟨before, v, after, -, -, -, e⟩
  · rw [replaces_iff, kind] at replaced
    simp at replaced
  · rw [e]; exact ⟨f, by simp, kind⟩
  · rw [e] at taken; exact nomatch taken
  · rw [e]; exact ⟨f, by simp, kind⟩

theorem BusLaw.admitHeld (h : BusLaw b) (kind : f.kind = .identity) : BusLaw (b.admitHeld f) := by
  have law := h.enqueue (f := f)
  refine { law with hold := fun held => ?_ }
  rcases Bool.or_eq_true_iff.mp held with before | taken
  · exact law.hold before
  · exact .inl (enqueue_holds_identity kind taken)

/-- A character leaves the law of a Bus Port that sends nothing (R13, R14). -/
theorem BusLaw.seeCharacter (h : BusLaw b) (silent : b.transmitter.isSending = false) (now : Nat) (symbol : LineSymbol) :
    BusLaw ((b.seeCharacter now).collect symbol) := by
  have seen : BusLaw (b.seeCharacter now) :=
    { h with
      sending := fun sending => nomatch silent.symm.trans sending
      quiet := fun line => nomatch line }
  unfold BusPort.collect
  split
  · exact { seen with }
  · exact { seen with }
  · exact seen

/-- What the character of a frame in transmission leaves is still the law, but for the quiet timer (R13, R23). -/
structure BusLaw.Sending (b : BusPort) (f : Frame) : Prop where
  queue : b.queue.length ≤ 10
  attempts : b.attempts ≤ 7
  claims : b.queue.countP (·.kind == .claim) ≤ 1
  suns : b.queue.countP (·.kind == .sunReading) ≤ 1
  replies : ∀ requester, b.queue.countP (fun f => f.kind == .statusReply && f.dest == requester) ≤ 1
  hold : b.hold = true → (∃ f ∈ b.queue, f.kind = .identity) ∨ f.kind = .identity
  line : b.line = .busy

theorem BusLaw.sendingSeen (h : BusLaw b) {next : Nat} (sends : b.transmitter = .sending f next) (now : Nat) :
    BusLaw.Sending (b.seeCharacter now) f where
  queue := h.queue
  attempts := h.attempts
  claims := h.claims
  suns := h.suns
  replies := h.replies
  hold held := (h.hold held).imp_right (by rw [sends]; simp [Transmitter.holds])
  line := rfl

theorem BusLaw.Sending.collect (h : BusLaw.Sending b f) (symbol : LineSymbol) : BusLaw.Sending (b.collect symbol) f := by
  unfold BusPort.collect
  split
  · exact { h with }
  · exact { h with }
  · exact h

theorem BusLaw.Sending.endFrame (h : BusLaw.Sending b f) : BusLaw (b.endFrame f) where
  queue := h.queue
  attempts := Nat.zero_le _
  fresh _ := rfl
  claims := h.claims
  suns := h.suns
  replies := h.replies
  hold held := by
    obtain ⟨held, other⟩ := Bool.and_eq_true_iff.mp held
    exact .inl ((h.hold held).resolve_right (bne_iff_ne.mp other))
  sending s := nomatch s
  quiet line := nomatch h.line.symm.trans line

theorem BusLaw.Sending.goesOn (h : BusLaw.Sending b f) (next : Nat) :
    BusLaw { b.drive with transmitter := .sending f next } where
  queue := h.queue
  attempts := h.attempts
  fresh idle := nomatch idle
  claims := h.claims
  suns := h.suns
  replies := h.replies
  hold held := (h.hold held).imp_right (by simp [Transmitter.holds])
  sending _ := ⟨rfl, rfl⟩
  quiet line := nomatch line

theorem BusLaw.Sending.backsOff (h : BusLaw.Sending b f) {k : Nat} (few : k ≤ 7) (wait : Backoff) :
    BusLaw { b with attempts := k, transmitter := .backingOff f wait } where
  queue := h.queue
  attempts := few
  fresh idle := nomatch idle
  claims := h.claims
  suns := h.suns
  replies := h.replies
  hold held := (h.hold held).imp_right (by simp [Transmitter.holds])
  sending s := nomatch s
  quiet line := nomatch h.line.symm.trans line

/-- A frame that backs off may wait on, or start again (R24). -/
theorem BusLaw.waits (h : BusLaw b) {before : Backoff} (backs : b.transmitter = .backingOff f before) (wait : Backoff) :
    BusLaw { b with transmitter := .backingOff f wait } :=
  { h with
    fresh := fun idle => nomatch idle
    hold := fun held => (h.hold held).imp_right (by rw [backs]; exact id)
    sending := fun s => nomatch s }

theorem BusLaw.startFrame (h : BusLaw b) {before : Backoff} (backs : b.transmitter = .backingOff f before) :
    BusLaw (b.startFrame f) :=
  { h with
    fresh := fun idle => nomatch idle
    hold := fun held => (h.hold held).imp_right (by rw [backs]; exact id)
    sending := fun _ => ⟨rfl, rfl⟩
    quiet := fun line => nomatch line }

theorem BusLaw.quietEvent (h : BusLaw b) (silent : b.transmitter.isSending = false) (now : Nat) :
    BusLaw (BusPort.quiet { b with line := .quiet, quietTimer := none, receiver := .listen, collected := [] } now) := by
  have heard : BusLaw { b with line := .quiet, quietTimer := none, receiver := .listen, collected := [] } :=
    { h with sending := fun sending => (nomatch silent.symm.trans sending), quiet := fun _ => rfl }
  unfold BusPort.quiet
  split
  next => exact heard.takeHead
  next f slots backs => exact heard.waits backs _
  next f backs => exact heard.startFrame backs
  next => exact heard
  next => exact heard

theorem BusLaw.retry (h : BusLaw b) : BusLaw b.retry := by
  unfold BusPort.retry
  split
  next f wait backs _ => exact h.startFrame backs
  next f wait backs _ => exact h.waits backs _
  all_goals exact h

end BusLaw

end Sys2Proof.Machine
end

section
/-!
PROOFS. What the gates of the commands let through, and so what it takes to show that every step keeps a property: one clause per
event, its gate passed.
-/

namespace Sys2Proof.Machine

/-! ### Gates -/

section Gates

variable {P : State → Prop} {s : State} {effect : State → State}

theorem whileStarted_keeps (keep : s.started = true → P s → P (effect s)) (p : P s) : P (s.whileStarted effect) := by
  unfold State.whileStarted
  split
  next started => exact keep started p
  next => exact p

theorem onExpiry_keeps {timer : Timer} (keep : ∀ due, timer = some due → P (effect (s.setNow (max s.now due)))) (p : P s) :
    P (s.onExpiry timer effect) := by
  cases timer with
  | none => exact p
  | some due => exact keep due rfl

theorem onMessage_keeps {source dest : Byte} {kind : Bool} (keep : s.accepts source dest kind = true → P s → P (effect s))
    (p : P s) : P (s.onMessage source dest kind effect) := by
  unfold State.onMessage
  split
  next accepted => exact keep accepted p
  next => exact p

end Gates

theorem accepts_iff (s : State) (source dest : Byte) (kind : Bool) :
    s.accepts source dest kind = true ↔
      s.started = true ∧ s.acceptsSource source = true ∧ s.acceptsDest dest kind = true := by
  simp [State.accepts, and_assoc]

theorem started_of_accepts {s : State} {source dest : Byte} {kind : Bool} (h : s.accepts source dest kind = true) :
    s.started = true := ((accepts_iff s source dest kind).1 h).1

theorem source_of_accepts {s : State} {source dest : Byte} {kind : Bool} (h : s.accepts source dest kind = true) :
    s.acceptsSource source = true := ((accepts_iff s source dest kind).1 h).2.1

/-! ### What a neighbour's message may say -/

/-- The station holds parts of the message's kind, and the message's values can be held (R91). -/
def Settings.Admits (c : Settings) : PeerMessage → Prop
  | .claim f => c.trunk ≠ 0 ∧ f.minimum ≤ f.demand ∧ f.demand ≤ 4000 ∧ f.claimClass ≤ 3
  | .withdraw => c.trunk ≠ 0
  | .sun glare => c.facade ≠ 0 ∧ glare ≤ 100
  | .start drives _ _ => c.facade ≠ 0 ∧ 1 ≤ drives ∧ drives ≤ 4
  | .stop drives => c.facade ≠ 0 ∧ 1 ≤ drives ∧ drives ≤ 4

theorem admitsClaim_iff (c : Settings) (trunk demand minimum claimClass : Nat) (withdraw : Bool) :
    c.admitsClaim trunk demand minimum claimClass withdraw = true ↔
      c.trunk ≠ 0 ∧ trunk = c.trunk ∧ (withdraw = true ∨ (minimum ≤ demand ∧ demand ≤ 4000 ∧ claimClass ≤ 3)) := by
  simp [Settings.admitsClaim, and_assoc]

theorem sharesFacade_iff (c : Settings) (facade : Nat) : c.sharesFacade facade = true ↔ c.facade ≠ 0 ∧ facade = c.facade := by
  simp [Settings.sharesFacade]

theorem admitsSun_iff (c : Settings) (facade glare klux : Nat) :
    c.admitsSun facade glare klux = true ↔ c.facade ≠ 0 ∧ facade = c.facade ∧ glare ≤ 100 ∧ klux ≤ 150 := by
  simp [Settings.admitsSun, sharesFacade_iff, and_assoc]

theorem goodDrives_iff (count : Nat) : goodDrives count = true ↔ 1 ≤ count ∧ count ≤ 4 := by simp [goodDrives]

theorem admitsStart_iff (c : Settings) (facade count duration : Nat) :
    c.admitsStart facade count duration = true ↔
      c.facade ≠ 0 ∧ facade = c.facade ∧ (1 ≤ count ∧ count ≤ 4) ∧ 1 ≤ duration ∧ duration ≤ 150 := by
  simp [Settings.admitsStart, sharesFacade_iff, goodDrives_iff, and_assoc]

theorem admitsEnd_iff (c : Settings) (facade count : Nat) :
    c.admitsEnd facade count = true ↔ c.facade ≠ 0 ∧ facade = c.facade ∧ 1 ≤ count ∧ count ≤ 4 := by
  simp [Settings.admitsEnd, sharesFacade_iff, goodDrives_iff, and_assoc]

/-! ### One clause per event -/

/-- The property is kept by every event of a station whose power and emergency state stay as they are, at the moment the event
is taken. -/
structure Lives (P : State → Prop) : Prop where
  pending : ∀ {s : State} (v : List Instr), P s → P (s.setPending v)
  inbox : ∀ {s : State} (v : List Instr), P s → P (s.setInbox v)
  now : ∀ {s : State} (v : Nat), P s → P (s.setNow v)
  lines : ∀ {s : State} (v : Lines), P s → P (s.setLines v)
  debounce : ∀ {s : State} (v : Timer), P s → P (s.setAlert { s.alert with debounce := v })
  image : ∀ {s : State} (image : Vector Byte 48), s.loader.phase = .reading → P s → P (judgeImage image s)
  unread : ∀ {s : State}, s.loader.phase = .reading → P s → P (takeMode .fallback none .fallback false s)
  character : ∀ {s : State} (symbol : LineSymbol), s.started = true → P s → P (takeCharacter symbol s)
  missed : ∀ {s : State}, s.started = true → P s → P (missCharacter s)
  quiet : ∀ {s : State} (due : Nat), s.started = true → s.bus.quietTimer = some due → P s → P (quietLine s)
  retry : ∀ {s : State}, s.started = true → P s → P (withBus BusPort.retry s)
  second : ∀ {s : State} (due : Nat), s.started = true → P s → P (clockTick due s)
  mark : ∀ {s : State} (minute second : Nat), s.started = true → P s → P (takeMark minute second s)
  booking : ∀ {s : State} (item : Item), s.started = true → P s → P (arrive item s)
  merge : ∀ {s : State} (m : Merge), s.started = true → s.intake.merge = some m → P s → P (completeMerge m.item s)
  beam : ∀ {s : State} (number : Nat) (beam : Beam) (broken : Bool), s.started = true → P s → P (takeBeam number beam broken s)
  block : ∀ {s : State} (number due : Nat), s.started = true → s.counter.blockTimerOf number = some due → P s →
    P (blockDoor number s)
  pulse : ∀ {s : State}, s.started = true → P s → P (takePulse s)
  quietRoom : ∀ {s : State}, s.started = true → P s → P (judgeQuiet s)
  neighbour : ∀ {s : State} (source : Byte) (m : PeerMessage), s.started = true → s.acceptsSource source = true →
    s.loader.settings.Admits m → P s → P (deliver (s.peers.take source m) s)
  sweep : ∀ {s : State} (due : Nat), s.started = true → P s → P (sweep due s)
  guard : ∀ {s : State} (peer : Byte), s.started = true → P s → P (deliver (s.peers.expire peer) s)
  co2 : ∀ {s : State} (ppm : Nat), s.started = true → P s → P (takeCo2 ppm s)
  co2Loss : ∀ {s : State}, s.started = true → P s → P (loseCo2 s)
  rateWindow : ∀ {s : State}, s.started = true → P s → P (closeRateWindow s)
  refresh : ∀ {s : State}, s.started = true → s.air.refreshTimer ≠ none → P s → P (offerFigures s)
  feedback : ∀ {s : State} (permille : Nat), s.started = true → P s →
    P (compareDamper (s.setAir { s.air with feedback := permille }))
  damperFault : ∀ {s : State}, s.started = true → s.air.faultTimer ≠ none → P s →
    P (raiseAlert .damperFault (s.setAir { s.air with faultTimer := none }))
  shortfall : ∀ {s : State}, s.started = true → s.air.shortfallTimer ≠ none → P s →
    P (raiseAlert .shortfall (s.setAir { s.air with shortfallTimer := none }))
  photo : ∀ {s : State} (lux : Nat), s.started = true → P s → P (takePhoto lux s)
  photoLoss : ∀ {s : State}, s.started = true → P s → P (losePhoto s)
  harvest : ∀ {s : State} (due : Nat), s.started = true → P s → P (harvestTick due s)
  fade : ∀ {s : State} (number due : Nat) (g : Group), s.started = true → pick? s.light.groups number = some g →
    g.fade = some due → P s → P (withLight (fun l => { l with groups := put l.groups number (g.step due) }) s)
  warning : ∀ {s : State}, s.started = true → P s → P (withLight Light.goDark s)
  holdRelease : ∀ {s : State}, s.started = true → P s → P (withLight ({ · with hold := .off }) s)
  wallSwitch : ∀ {s : State} (number : Nat) (on : Bool) (g : Group), s.started = true → pick? s.light.groups number = some g →
    g.handSelect = true → P s → P (withLight (fun l => { l with groups := put l.groups number { g with switch := on } }) s)
  sun : ∀ {s : State} (glare klux : Nat), s.started = true → P s → P (takeSun glare klux s)
  sunAge : ∀ {s : State}, s.started = true → P s → P (recomputeGlare (withBlind ({ · with ageTimer := none }) s))
  sunSend : ∀ {s : State}, s.started = true → P s → P (sendSun s)
  glareHold : ∀ {s : State}, s.started = true → P s → P (loseSun s)
  dwell : ∀ {s : State}, s.started = true → P s → P (endDwell s)
  window : ∀ {s : State}, s.started = true → P s → P (closeWindow s)
  backoff : ∀ {s : State} (k : GroupBackoff), s.started = true → k ∈ s.blind.backoffs → P s → P (endBackoff k.group s)
  limit : ∀ {s : State} (number : Nat) (limit : Limit) (active : Bool), s.started = true → P s →
    P (takeLimit number limit active s)
  runTimer : ∀ {s : State} (number goal : Nat), s.started = true → s.blind.runningRun number ≠ none → P s →
    P (endIntermediate number goal s)
  watchdog : ∀ {s : State} (number : Nat), s.started = true → s.blind.runningRun number ≠ none → P s → P (stallDrive number s)
  key : ∀ {s : State} (key : Key), s.started = true → P s → P (pressKey key s)
  blink : ∀ {s : State}, s.started = true → P s → P (withPanel ({ · with blinkTimer := none }) s)
  status : ∀ {s : State} (requester : Byte), s.started = true → P s → P (answerStatus requester s)
  restart : ∀ {s : State}, s.started = true → P s → P (restart s)
  clear : ∀ {s : State}, s.started = true → P s → P (fanOut [.blind, .panel] takeClear s)

/-- The property is kept by every event of the station. -/
structure Endures (P : State → Prop) : Prop extends Lives P where
  powerUp : ∀ {s : State}, P s → P (powerUp s)
  powerOff : ∀ {s : State}, P s → P (blocksOff s)
  emergency : ∀ {s : State}, s.powered = true → P s → P (settleEmergency s)

variable {P : State → Prop}

theorem backoffOf_mem {b : Blind} {number : Nat} {k : GroupBackoff} (h : b.backoffOf number = some k) : k ∈ b.backoffs := by
  unfold Blind.backoffOf at h
  split at h
  · exact nomatch h
  · exact List.mem_of_find?_eq_some h

/-- A command that neither moves the power nor settles the emergency line keeps what its event keeps. -/
theorem Lives.effectOf (h : Lives P) (i : Instr) (hi : i ∉ [Instr.powerOn, .powerLoss, .debounceTimerExpiry]) (s : State)
    (p : P s) : P (effectOf i s) := by
  have started {effect : State → State} (keep : s.started = true → P (effect s)) : P (s.whileStarted effect) :=
    whileStarted_keeps (fun up _ => keep up) p
  have expiry {timer : Timer} {effect : State → State}
      (keep : ∀ due, timer = some due → P (s.setNow (max s.now due)) → P (effect (s.setNow (max s.now due)))) :
      P (s.onExpiry timer effect) := onExpiry_keeps (fun due running => keep due running (h.now _ p)) p
  have message {source dest : Byte} {kind : Bool} {effect : State → State}
      (keep : s.started = true → P (effect s)) : P (s.onMessage source dest kind effect) :=
    onMessage_keeps (fun accepted _ => keep (started_of_accepts accepted)) p
  have neighbour {source dest : Byte} {admitted : Bool} {m : PeerMessage}
      (admits : admitted = true → s.loader.settings.Admits m) :
      P (s.onMessage source dest true (takePeer admitted source m)) :=
    onMessage_keeps (fun accepted _ => by
      unfold takePeer
      split
      next taken => exact h.neighbour _ _ (started_of_accepts accepted) (source_of_accepts accepted) (admits taken) p
      next => exact p) p
  cases i with
  | powerOn => simp at hi
  | powerLoss => simp at hi
  | debounceTimerExpiry => simp at hi
  | readCompletion image =>
    rw [effectOf_readCompletion]
    split
    next reading => exact h.image image reading p
    next => exact p
  | readTimerExpiry =>
    rw [effectOf_readTimerExpiry]
    split
    next reading => exact expiry fun _ _ => h.unread reading
    next => exact p
  | lineCharacter bits =>
    rw [effectOf_lineCharacter]
    exact started fun up => ite_keeps (h.character _ up p) p
  | quietEvent =>
    rw [effectOf_quietEvent]
    exact started fun up => expiry fun due running => h.quiet due up running
  | busBackoffExpiry =>
    rw [effectOf_busBackoffExpiry]
    exact started fun up => expiry fun _ _ => h.retry up
  | clockSecond =>
    rw [effectOf_clockSecond]
    exact started fun up => expiry fun _ _ => h.second _ up
  | timeMark source dest minute second =>
    rw [effectOf_timeMark]
    exact message fun up => h.mark _ _ up p
  | sessionOffer => exact message fun up => h.booking _ up p
  | sessionAmend => exact message fun up => h.booking _ up p
  | sessionCancel => exact message fun up => h.booking _ up p
  | mergeCompletion =>
    rw [effectOf_mergeCompletion]
    refine started fun up => ?_
    split
    next m flying => exact expiry fun _ _ => h.merge m up flying
    next => exact p
  | beamBreak door beam =>
    rw [effectOf_beamBreak]
    exact whileStarted_keeps (fun up => h.beam _ _ _ up) (h.lines _ p)
  | beamClear door beam =>
    rw [effectOf_beamClear]
    exact whileStarted_keeps (fun up => h.beam _ _ _ up) (h.lines _ p)
  | blockTimerExpiry door =>
    rw [effectOf_blockTimerExpiry]
    exact started fun up => expiry fun due running => h.block door due up running
  | motionPulse input =>
    rw [effectOf_motionPulse]
    exact ite_keeps (started fun up => h.pulse up p) p
  | quietTimerExpiry =>
    rw [effectOf_quietTimerExpiry]
    exact started fun up => expiry fun _ _ => h.quietRoom up
  | claim source dest trunk demand minimum claimClass withdraw =>
    rw [effectOf_claim]
    refine neighbour fun admitted => ?_
    obtain ⟨on, -, admits⟩ := (admitsClaim_iff _ _ _ _ _ _).1 admitted
    cases withdraw with
    | true => exact on
    | false =>
      have range := admits.resolve_left Bool.false_ne_true
      exact ⟨on, range⟩
  | sunReading source dest facade glare klux =>
    rw [effectOf_sunReading]
    refine neighbour fun admitted => ?_
    obtain ⟨on, -, range, -⟩ := (admitsSun_iff _ _ _ _).1 admitted
    exact ⟨on, range⟩
  | feederStart source dest facade count duration arrival =>
    rw [effectOf_feederStart]
    refine neighbour fun admitted => ?_
    obtain ⟨on, -, range, -⟩ := (admitsStart_iff _ _ _ _).1 admitted
    exact ⟨on, range⟩
  | feederEnd source dest facade count =>
    rw [effectOf_feederEnd]
    refine neighbour fun admitted => ?_
    obtain ⟨on, -, range⟩ := (admitsEnd_iff _ _ _).1 admitted
    exact ⟨on, range⟩
  | sweepTimerExpiry =>
    rw [effectOf_sweepTimerExpiry]
    exact started fun up => expiry fun _ _ => h.sweep _ up
  | guardExpiry peer =>
    rw [effectOf_guardExpiry]
    exact started fun up => expiry fun _ _ => h.guard peer up
  | co2Reading ppm =>
    rw [effectOf_co2Reading]
    exact started fun up => h.co2 _ up p
  | co2LossTimerExpiry =>
    rw [effectOf_co2LossTimerExpiry]
    exact started fun up => expiry fun _ _ => h.co2Loss up
  | rateWindowExpiry =>
    rw [effectOf_rateWindowExpiry]
    exact started fun up => expiry fun _ _ => h.rateWindow up
  | claimRefreshExpiry =>
    rw [effectOf_claimRefreshExpiry]
    refine started fun up => expiry fun _ running => h.refresh up ?_
    simp [running]
  | damperFeedback permille =>
    rw [effectOf_damperFeedback]
    unfold takeFeedback
    exact whileStarted_keeps (fun up => h.feedback permille up) (h.lines _ p)
  | damperFaultTimerExpiry =>
    rw [effectOf_damperFaultTimerExpiry]
    refine started fun up => expiry fun _ running => h.damperFault up ?_
    simp [running]
  | shortfallTimerExpiry =>
    rw [effectOf_shortfallTimerExpiry]
    refine started fun up => expiry fun _ running => h.shortfall up ?_
    simp [running]
  | photosensorReading lux =>
    rw [effectOf_photosensorReading]
    exact started fun up => h.photo _ up p
  | photosensorLossTimerExpiry =>
    rw [effectOf_photosensorLossTimerExpiry]
    exact started fun up => expiry fun _ _ => h.photoLoss up
  | harvestTimerExpiry =>
    rw [effectOf_harvestTimerExpiry]
    exact started fun up => expiry fun _ _ => h.harvest _ up
  | fadeStep number =>
    rw [effectOf_fadeStep]
    refine started fun up => ?_
    unfold fadeStep
    split
    next => exact p
    next g picked =>
      refine expiry fun due fading q => ?_
      rw [fading]
      exact h.fade number due g up picked fading q
  | vacancyWarningExpiry =>
    rw [effectOf_vacancyWarningExpiry]
    exact started fun up => expiry fun _ _ => h.warning up
  | harvestHoldReleaseExpiry =>
    rw [effectOf_harvestHoldReleaseExpiry]
    exact started fun up => expiry fun _ _ => h.holdRelease up
  | wallSwitch group on =>
    rw [effectOf_wallSwitch]
    unfold turnSwitch
    refine whileStarted_keeps (fun up q => ?_) (h.lines _ p)
    cases picked : pick? s.light.groups group with
    | none =>
      simp only [withLight, State.setLines_light, picked]
      exact q
    | some g =>
      by_cases hand : g.handSelect = true
      · have turned := h.wallSwitch group on g up picked hand q
        simpa only [withLight, State.setLines_light, picked, if_pos hand] using turned
      · simp only [withLight, State.setLines_light, picked, if_neg hand]
        exact q
  | ownSunReading glare klux =>
    rw [effectOf_ownSunReading]
    exact started fun up => h.sun _ _ up p
  | ownReadingAgeExpiry =>
    rw [effectOf_ownReadingAgeExpiry]
    exact started fun up => expiry fun _ _ => h.sunAge up
  | sunSendTimerExpiry =>
    rw [effectOf_sunSendTimerExpiry]
    exact started fun up => expiry fun _ _ => h.sunSend up
  | glareHoldTimerExpiry =>
    rw [effectOf_glareHoldTimerExpiry]
    exact started fun up => expiry fun _ _ => h.glareHold up
  | dwellTimerExpiry =>
    rw [effectOf_dwellTimerExpiry]
    exact started fun up => expiry fun _ _ => h.dwell up
  | settleWindowExpiry =>
    rw [effectOf_settleWindowExpiry]
    exact started fun up => expiry fun _ _ => h.window up
  | feederBackoffExpiry drive =>
    rw [effectOf_feederBackoffExpiry]
    refine started fun up => ?_
    split
    next => exact p
    next k found => exact expiry fun _ _ => h.backoff k up (backoffOf_mem found)
  | limitInput drive limit active =>
    rw [effectOf_limitInput]
    exact whileStarted_keeps (fun up => h.limit _ _ _ up) (h.lines _ p)
  | runTimerExpiry drive =>
    rw [effectOf_runTimerExpiry]
    refine started fun up => ?_
    split
    next running => exact ite_keeps (expiry fun _ _ => h.runTimer _ _ up (Option.ne_none_iff_exists'.2 ⟨_, running⟩)) p
    next => exact p
  | runWatchdogExpiry drive =>
    rw [effectOf_runWatchdogExpiry]
    refine started fun up => ?_
    split
    next running => exact ite_keeps p (expiry fun _ _ => h.watchdog _ up (Option.ne_none_iff_exists'.2 ⟨_, running⟩))
    next => exact p
  | lightPlus | lightMinus | blindUp | blindDown | airPlus | resumeKey => exact started fun up => h.key _ up p
  | blinkTimerExpiry =>
    rw [effectOf_blinkTimerExpiry]
    exact started fun up => expiry fun _ _ => h.blink up
  | emergencyLineChange asserted =>
    rw [effectOf_emergencyLineChange]
    exact ite_keeps (h.debounce _ (h.lines _ p)) (h.lines _ p)
  | statusRequest source dest =>
    rw [effectOf_statusRequest]
    exact message fun up => h.status _ up p
  | serviceRestart source dest =>
    rw [effectOf_serviceRestart]
    exact message fun up => h.restart up p
  | serviceClear source dest =>
    rw [effectOf_serviceClear]
    exact message fun up => h.clear up p
  | characterNotReadBack =>
    rw [effectOf_characterNotReadBack]
    exact started fun up => h.missed up p

/-- A property that every event keeps is kept by every command. -/
theorem Endures.effectOf (h : Endures P) (i : Instr) (s : State) (p : P s) : P (effectOf i s) := by
  by_cases hi : i ∈ [Instr.powerOn, .powerLoss, .debounceTimerExpiry]
  · simp only [List.mem_cons, List.not_mem_nil, or_false] at hi
    rcases hi with rfl | rfl | rfl
    · rw [effectOf_powerOn]
      exact h.powerUp p
    · rw [effectOf_powerLoss]
      exact h.powerOff p
    · rw [effectOf_debounceTimerExpiry]
      split
      next powered => exact onExpiry_keeps (fun _ _ => h.emergency powered (h.now _ p)) p
      next => exact p
  · exact h.toLives.effectOf i hi s p

/-- A property that every event keeps is kept by every step. -/
theorem Endures.step (h : Endures P) {s t : State} (p : P s) (stepped : step s = .next t) : P t :=
  step_keeps (fun _ v => h.pending v) (fun _ v => h.inbox v) (fun _ v => h.now v) h.effectOf p stepped

end Sys2Proof.Machine
end

section
/-!
PROOFS. A property that looks at the Bus Port alone is kept by every step, once the Bus Port's own events and the power keep it; and
so the law of the Bus Port is kept.
-/

namespace Sys2Proof.Machine

/-! ### Properties of the Bus Port -/

/-- Every alert of R177. -/
def everyAlert : List Alert :=
  [.emergency, .configFallback, .damperFault, .driveOut, .shortfall, .co2High, .doorBlocked, .sunLost, .co2Lost,
    .peerTableFull, .clockUnset, .configClamped]

theorem mem_everyAlert (a : Alert) : a ∈ everyAlert := by cases a <;> decide

/-- The property is kept by every change outside the Bus Port and the Loader, and by every offer. -/
structure OffersOnly (P : State → Prop) : Prop extends Closed everyAlert P where
  lines : ∀ {s : State} (v : Lines), P s → P (s.setLines v)
  now : ∀ {s : State} (v : Nat), P s → P (s.setNow v)
  clock : ∀ {s : State} (v : WeekClock), P s → P (s.setClock v)
  counter : ∀ {s : State} (v : Counter), P s → P (s.setCounter v)
  peers : ∀ {s : State} (v : PeerTable), P s → P (s.setPeers v)
  alert : ∀ {s : State} (v : AlertUnit), P s → P (s.setAlert v)

namespace OffersOnly

variable {P : State → Prop} {s : State}

theorem alertIs (h : OffersOnly P) (a : Alert) (c : Bool) (p : P s) : P (alertIs a c s) :=
  ite_keeps (h.alert _ p) (h.alert _ p)

theorem recompute (h : OffersOnly P) (p : P s) : P (recomputeDemand s) :=
  h.toClosed.recomputeDemand (mem_everyAlert _) (mem_everyAlert _) p

theorem glare (h : OffersOnly P) (p : P s) : P (recomputeGlare s) := h.toClosed.recomputeGlare (mem_everyAlert _) p

theorem clockEvent (h : OffersOnly P) (e : ClockEvent) (p : P s) : P (sendClockEvent e s) :=
  h.toClosed.sendClockEvent (mem_everyAlert _) (mem_everyAlert _) e p

theorem occupancy (h : OffersOnly P) (kinds : List OccupancyKind) (before : Nat) (p : P s) :
    P (sendOccupancy kinds before s) := h.toClosed.sendOccupancy (mem_everyAlert _) (mem_everyAlert _) kinds before p

theorem deliver (h : OffersOnly P) (w : TableWork) (p : P s) : P (deliver w s) :=
  h.toClosed.deliver (mem_everyAlert _) (mem_everyAlert _) (mem_everyAlert _) (mem_everyAlert _) w (h.peers _ p)

theorem takeCo2 (h : OffersOnly P) (ppm : Nat) (p : P s) : P (takeCo2 ppm s) := by
  have read : P (setCo2 (clamp 300 5000 ppm)
      (s.setAir { s.air with co2State := .live, co2Timer := s.timer (minutes 15) })) :=
    h.alertIs _ _ (h.air _ (h.air _ p))
  exact h.recompute (ite_keeps (h.alert _ read) read)

theorem loseCo2 (h : OffersOnly P) (p : P s) : P (loseCo2 s) :=
  h.recompute (h.alert _ (h.alertIs _ _ (h.air _ (h.air _ p))))

theorem closeRateWindow (h : OffersOnly P) (p : P s) : P (closeRateWindow s) :=
  ite_keeps (h.toClosed.offerClaim (h.air _ p)) (h.air _ p)

theorem offerFigures (h : OffersOnly P) (p : P s) : P (offerFigures s) := h.offer _ (h.air _ p)

theorem harvestTick (h : OffersOnly P) (due : Nat) (p : P s) : P (harvestTick due s) := by
  unfold Machine.harvestTick
  dsimp only
  split
  · exact h.light _ p
  · exact ite_keeps (h.light _ (h.light _ p)) (h.light _ p)

theorem sendSun (h : OffersOnly P) (p : P s) : P (sendSun s) := by
  unfold Machine.sendSun
  split
  · exact h.toClosed.offerSun _ p
  · exact h.blind _ p

theorem takeMark (h : OffersOnly P) (minute second : Nat) (p : P s) : P (takeMark minute second s) := by
  have quietly (d : Int) : P (adoptQuietly d minute second s) := ite_keeps (h.clockEvent _ (h.clock _ p)) (h.clock _ p)
  exact ite_keeps p (ite_keeps (ite_keeps p (ite_keeps (quietly _) (h.clockEvent _ (h.clock _ p))))
    (h.clockEvent _ (h.alert _ (h.clock _ p))))

theorem clockTick (h : OffersOnly P) (due : Nat) (p : P s) : P (clockTick due s) :=
  ite_keeps (ite_keeps (h.clock _ (h.clock _ p)) (h.clockEvent _ (h.clock _ (h.clock _ p)))) (h.clock _ p)

theorem countPass (h : OffersOnly P) (pass : Option Pass) (p : P s) : P (countPass pass s) := by
  unfold Machine.countPass
  split
  · exact p
  · exact h.occupancy _ _ (h.counter _ p)
  · exact h.occupancy _ _ (h.counter _ p)

theorem takeBeam (h : OffersOnly P) (number : Nat) (beam : Beam) (broken : Bool) (p : P s) :
    P (takeBeam number beam broken s) := by
  unfold Machine.takeBeam
  split
  · exact p
  · refine ite_keeps p ?_
    exact h.countPass _ (ite_keeps (h.alert _ (h.counter _ p)) (h.counter _ p))

theorem blockDoor (h : OffersOnly P) (number : Nat) (p : P s) : P (blockDoor number s) := by
  unfold Machine.blockDoor
  split
  · exact p
  · exact h.alert _ (h.counter _ p)

theorem judgeQuiet (h : OffersOnly P) (p : P s) : P (judgeQuiet s) :=
  ite_keeps (h.occupancy _ _ (h.counter _ p)) (h.counter _ p)

theorem settleEmergency (h : OffersOnly P) (p : P s) : P (settleEmergency s) := by
  unfold Machine.settleEmergency
  dsimp only
  refine ite_keeps (h.alert _ p) (fanOut_keeps P _ (fun b t pt => ?_) _ _ (h.alert _ (h.alert _ p)))
  split
  · exact h.toClosed.takeAssertion (mem_everyAlert _) (mem_everyAlert _) (mem_everyAlert _) b pt
  · exact h.toClosed.takeRelease (mem_everyAlert _) (mem_everyAlert _) (mem_everyAlert _) b pt

theorem takeRestart (h : OffersOnly P) (b : Block) (p : P s) : P (takeRestart b s) := by
  cases b
  case intake => exact h.toClosed.intakeRestart (mem_everyAlert _) (mem_everyAlert _) p
  case peers =>
    exact h.deliver
      { table := { PeerTable.empty with sweepTimer := s.timer (seconds 2) }, full := some false, notices := [.emptied] } p
  case air => exact h.toClosed.airRestart (mem_everyAlert _) (mem_everyAlert _) p
  case light => exact h.light _ p
  case blind => exact h.toClosed.blindRestart p
  case panel => exact h.panel _ (h.toClosed.endIfOn (mem_everyAlert _) (mem_everyAlert _) _ p)
  all_goals exact p

theorem takeStart (h : OffersOnly P) (b : Block) (p : P s) : P (takeStart b s) := by
  cases b
  case clock => exact h.alert _ (h.clock _ p)
  case intake => exact h.intake _ p
  case session => exact h.session _ p
  case counter => exact h.counter _ p
  case peers => exact h.peers _ p
  case air => exact h.toClosed.airStart (mem_everyAlert _) (mem_everyAlert _) p
  case light => exact h.light _ p
  case blind => exact h.toClosed.blindStart p
  case panel => exact h.panel _ p
  case alert => exact ite_keeps (h.alert _ (h.alert _ p)) (h.alert _ p)

end OffersOnly

/-- What the events of the Bus Port and of the Loader must keep. -/
structure LineKeeps (P : State → Prop) : Prop extends OffersOnly P where
  pending : ∀ {s : State} (v : List Instr), P s → P (s.setPending v)
  inbox : ∀ {s : State} (v : List Instr), P s → P (s.setInbox v)
  character : ∀ {s : State} (symbol : LineSymbol), P s → P (takeCharacter symbol s)
  missed : ∀ {s : State}, P s → P (missCharacter s)
  quiet : ∀ {s : State} (due : Nat), s.bus.quietTimer = some due → P s → P (quietLine s)
  retry : ∀ {s : State}, P s → P (withBus BusPort.retry s)
  cut : ∀ {s : State}, P s → P (offerIdentity (busRestart s))
  mode : ∀ {s : State} (phase : Phase) (address : Option Byte) (settings : Settings) (clamped : Bool), P s →
    P (takeMode phase address settings clamped s)
  powerUp : ∀ {s : State}, P s → P (powerUp s)
  powerOff : ∀ {s : State}, P s → P (blocksOff s)

/-- The rest of the station only offers frames to the Bus Port. -/
theorem LineKeeps.endures {P : State → Prop} (h : LineKeeps P) : Endures P where
  pending := h.pending
  inbox := h.inbox
  now := h.now
  lines := h.lines
  debounce _ := h.alert _
  image image _ p := by
    unfold judgeImage
    split <;> exact h.mode _ _ _ _ p
  unread _ := h.mode _ _ _ _
  character symbol _ := h.character symbol
  missed _ := h.missed
  quiet due _ := h.quiet due
  retry _ := h.retry
  second due _ := h.clockTick due
  mark minute second _ := h.takeMark minute second
  booking item _ := h.toClosed.arrive item
  merge _ _ _ := h.toClosed.completeMerge (mem_everyAlert _) (mem_everyAlert _) _
  beam number beam broken _ := h.takeBeam number beam broken
  block number _ _ _ := h.blockDoor number
  pulse _ p := h.occupancy _ _ (h.counter _ p)
  quietRoom _ := h.judgeQuiet
  neighbour _ _ _ _ _ := h.deliver _
  sweep _ _ := h.deliver _
  guard _ _ := h.deliver _
  co2 ppm _ := h.takeCo2 ppm
  co2Loss _ := h.loseCo2
  rateWindow _ := h.closeRateWindow
  refresh _ _ := h.offerFigures
  feedback _ _ p := h.toClosed.compareDamper (mem_everyAlert _) (h.air _ p)
  damperFault _ _ p := h.alert _ (h.air _ p)
  shortfall _ _ p := h.alert _ (h.air _ p)
  photo _ _ := h.light _
  photoLoss _ := h.light _
  harvest due _ := h.harvestTick due
  fade _ _ _ _ _ _ := h.light _
  warning _ := h.light _
  holdRelease _ := h.light _
  wallSwitch _ _ _ _ _ _ := h.light _
  sun glare klux _ := h.toClosed.takeSun (mem_everyAlert _) glare klux
  sunAge _ p := h.glare (h.blind _ p)
  sunSend _ := h.sendSun
  glareHold _ p := h.toClosed.setGlare _ (h.alert _ (h.blind _ p))
  dwell _ := h.toClosed.endDwell
  window _ := h.toClosed.closeWindow
  backoff _ _ _ := h.toClosed.endBackoff _
  limit number limit active _ := h.toClosed.takeLimit number limit active
  runTimer number goal _ _ := h.toClosed.endIntermediate number goal
  watchdog number _ _ := h.toClosed.stallDrive (mem_everyAlert _) number
  key key _ := h.toClosed.pressKey (mem_everyAlert _) (mem_everyAlert _) key
  blink _ := h.panel _
  status _ _ := h.offer _
  restart _ p := fanOut_keeps P _ (fun b _ => h.takeRestart b) _ _ (h.cut p)
  clear _ p := fanOut_keeps P _ (fun b _ => h.toClosed.takeClear (mem_everyAlert _) b) _ _ p
  powerUp := h.powerUp
  powerOff := h.powerOff
  emergency _ := h.settleEmergency

/-! ### The law of the Bus Port -/

/-- The law of the Bus Port, as a property of the state. -/
def busLawful (s : State) : Prop := BusLaw s.bus

theorem busLawful_offersOnly : OffersOnly busLawful where
  offer f p := by
    rcases offerAnswered_cases f _ with ⟨-, e⟩ | ⟨-, e⟩ <;> rw [e]
    · exact p.enqueue.takeHead
    · exact p
  air _ p := p
  light _ p := p
  blind _ p := p
  panel _ p := p
  session _ p := p
  intake _ p := p
  draws _ p := p
  raise _ _ p := p
  clear _ _ p := p
  lines _ p := p
  now _ p := p
  clock _ p := p
  counter _ p := p
  peers _ p := p
  alert _ p := p

theorem busLawful_offerIdentity {s : State} (p : busLawful s) : busLawful (offerIdentity s) := by
  unfold offerIdentity
  split
  · exact p
  · exact ite_keeps (BusLaw.takeHead (p.admitHeld rfl)) p

theorem busLawful_endFrame {s : State} {f : Frame} (sent : Bool) (p : BusLaw.Sending s.bus f) :
    busLawful (endFrame sent f s) :=
  ite_keeps (busLawful_offersOnly.toClosed.feederReport _ _ p.endFrame) p.endFrame

theorem busLawful_collide {s : State} {f : Frame} (p : BusLaw.Sending s.bus f) : busLawful (collide f s) := by
  unfold collide
  dsimp only
  split
  · exact busLawful_endFrame false p
  · next few => exact p.backsOff (by unfold collisionLimit at few; omega) _

theorem busLawful_readBack {s : State} {f : Frame} (next : Nat) (symbol : LineSymbol) (p : BusLaw.Sending s.bus f) :
    busLawful (readBack f next symbol s) :=
  ite_keeps (ite_keeps (busLawful_endFrame true p) (p.goesOn _)) (busLawful_collide p)

theorem busLawful_takeCharacter {s : State} (symbol : LineSymbol) (p : busLawful s) : busLawful (takeCharacter symbol s) := by
  have same : ((s.bus.seeCharacter s.now).collect symbol).transmitter = s.bus.transmitter := by
    unfold BusPort.collect
    split <;> rfl
  unfold takeCharacter withBus
  dsimp only
  rw [State.setBus_bus, same]
  split
  next f next sends => exact busLawful_readBack next symbol ((BusLaw.sendingSeen p sends s.now).collect symbol)
  next idle => exact p.seeCharacter (by rw [idle]; rfl) s.now symbol
  next backs => exact p.seeCharacter (by rw [backs]; rfl) s.now symbol

theorem busLawful_missCharacter {s : State} (p : busLawful s) : busLawful (missCharacter s) := by
  unfold missCharacter
  split
  next f next sends => exact busLawful_collide (BusLaw.sendingSeen p sends s.now)
  all_goals exact p

/-- While the quiet timer runs nothing is sent. -/
theorem BusLaw.silent_of_quietTimer {b : BusPort} (h : BusLaw b) {due : Nat} (running : b.quietTimer = some due) :
    b.transmitter.isSending = false := by
  by_contra sending
  exact nomatch running.symm.trans (h.sending (by simpa using sending)).2

theorem busLawful_busRestart {s : State} (p : busLawful s) : busLawful (busRestart s) where
  queue := Nat.zero_le _
  attempts := Nat.zero_le _
  fresh _ := rfl
  claims := Nat.zero_le _
  suns := Nat.zero_le _
  replies _ := Nat.zero_le _
  hold held := nomatch held
  sending s := nomatch s
  quiet line := by
    have silent : ¬s.bus.transmitter.isSending = true := fun sends => nomatch line.symm.trans (p.sending sends).1
    exact (if_neg silent).trans (p.quiet line)

theorem busLawful_busStart (s : State) : busLawful (busStart s) :=
  { busLaw_off with sending := fun sends => (nomatch sends), quiet := fun line => nomatch line }

theorem busLawful_lineKeeps : LineKeeps busLawful where
  toOffersOnly := busLawful_offersOnly
  pending _ p := p
  inbox _ p := p
  character := busLawful_takeCharacter
  missed := busLawful_missCharacter
  quiet _ running p := p.quietEvent (p.silent_of_quietTimer running) _
  retry p := BusLaw.retry p
  cut p := busLawful_offerIdentity (busLawful_busRestart p)
  mode _ _ _ _ _ := fanOut_keeps busLawful _ (fun b _ => busLawful_offersOnly.takeStart b) _ _
    (busLawful_offerIdentity (busLawful_busStart _))
  powerUp p := by
    unfold powerUp
    split
    · exact busLaw_off
    all_goals exact p
  powerOff _ := busLaw_off

/-- Settles O12: the Bus Port's own commands keep its law, and the rest of the station only offers frames. -/
theorem everyStepKeepsTheBusLaw : Obligations.EveryStepKeepsTheBusLaw := fun _ _ law stepped =>
  busLawful_lineKeeps.endures.step law stepped

end Sys2Proof.Machine
end

section
/-!
PROOFS. The settled values (R1, R5, R187): every field of the image takes the nearest end of its range, and CONFIG_CLAMPED is called
for exactly where some field that is read lies outside it.
-/

namespace Sys2Proof.Machine

/-! ### Clamping -/

theorem clamp_nearestEnd {low high : Nat} (h : low ≤ high) (n : Nat) : NearestEnd low high n (clamp low high n) := by
  unfold NearestEnd clamp
  omega

theorem clamp_range {low high : Nat} (h : low ≤ high) (n : Nat) : low ≤ clamp low high n ∧ clamp low high n ≤ high := by
  unfold clamp
  omega

theorem within_iff (low high n : Nat) : within low high n = true ↔ low ≤ n ∧ n ≤ high := by simp [within]

/-! ### The fields of the settled values -/

section Fields

variable (image : Vector Byte 48)

theorem settle_inRange : (settle image).InRange where
  trunk := (clamp_range (by omega) _).2
  trunkCapacity := clamp_range (by omega) _
  facade := (clamp_range (by omega) _).2
  feederLimit := clamp_range (by omega) _
  area := clamp_range (by omega) _
  areaRate := (clamp_range (by omega) _).2
  personRate := clamp_range (by omega) _
  capacity := clamp_range (by omega) _
  maxFlow := clamp_range (by omega) _
  setpoint := clamp_range (by omega) _
  doors := (clamp_range (by omega) _).2
  groups := by
    rw [settle, List.length_map, List.length_range]
    exact clamp_range (by omega) _
  drives := by
    rw [settle, List.length_map, List.length_range]
    exact (clamp_range (by omega) _).2
  travel t ht := by
    obtain ⟨i, -, rfl⟩ := List.mem_map.1 ht
    exact clamp_range (by omega) _
  vacancyHold := clamp_range (by omega) _
  graceMinutes := clamp_range (by omega) _
  park := (clamp_range (by omega) _).2

theorem settle_groups_length : (settle image).groups.length = clamp 1 6 (byteAt image 18) := by
  rw [settle, List.length_map, List.length_range]

theorem settle_travel_length : (settle image).travel.length = clamp 0 4 (byteAt image 25) := by
  rw [settle, List.length_map, List.length_range]

theorem settle_travel {i t : Nat} (h : (settle image).travel[i]? = some t) : t = clamp 10 120 (byteAt image (26 + i)) := by
  simp only [settle, List.getElem?_map, Option.map_eq_some_iff] at h
  obtain ⟨j, hj, rfl⟩ := h
  obtain ⟨-, rfl⟩ := List.getElem?_eq_some_iff.1 hj
  rw [List.getElem_range]

theorem settle_groups {i : Nat} {g : GroupSetting} (h : (settle image).groups[i]? = some g) : g = groupAt image (i + 1) := by
  simp only [settle, List.getElem?_map, Option.map_eq_some_iff] at h
  obtain ⟨j, hj, rfl⟩ := h
  obtain ⟨-, rfl⟩ := List.getElem?_eq_some_iff.1 hj
  rw [List.getElem_range]

/-- The mask is the upper 12 bits of its field, alert 1 the highest (R187). -/
theorem settle_mask {k : Nat} (h : k < 12) : (settle image).mask.getLsbD k = (wordAt image 33).testBit (15 - k) := by
  have word : wordAt image 33 = (image.toList.getD 33 0 ++ image.toList.getD 34 0 : BitVec 16).toNat := by
    rw [BitVec.toNat_append, ← Nat.shiftLeft_add_eq_or_of_lt (BitVec.isLt _), Nat.shiftLeft_eq]
    rfl
  rw [word, BitVec.testBit_toNat, settle, BitVec.getLsbD_reverse, BitVec.getMsbD_eq_getLsbD, BitVec.getLsbD_extractLsb']
  simp only [h, decide_true, Bool.true_and, show 12 - 1 - k < 12 by omega, show 4 + (12 - 1 - k) = 15 - k by omega]

end Fields

theorem needsClamp_iff (image : Vector Byte 48) : needsClamp image = true ↔
      15 < byteAt image 1 ∨ wordAt image 2 < 100 ∨ 20000 < wordAt image 2 ∨ 7 < byteAt image 4 ∨ byteAt image 6 < 1 ∨
      16 < byteAt image 6 ∨ wordAt image 7 < 10 ∨ 600 < wordAt image 7 ∨ 20 < byteAt image 9 ∨ byteAt image 10 < 50 ∨
      150 < byteAt image 10 ∨ wordAt image 11 < 1 ∨ 400 < wordAt image 11 ∨ wordAt image 13 < 50 ∨ 4000 < wordAt image 13 ∨
      wordAt image 15 < 600 ∨ 1400 < wordAt image 15 ∨ 2 < byteAt image 17 ∨ byteAt image 18 < 1 ∨ 6 < byteAt image 18 ∨
      4 < byteAt image 25 ∨
      (∃ i, i < (settle image).travel.length ∧ (byteAt image (26 + i) < 10 ∨ 120 < byteAt image (26 + i))) ∨
      byteAt image 30 < 5 ∨ 30 < byteAt image 30 ∨ byteAt image 31 < 5 ∨ 30 < byteAt image 31 ∨ 100 < byteAt image 32 := by
  rw [settle_travel_length]
  have travel : (∃ i, i < clamp 0 4 (byteAt image 25) ∧ (byteAt image (26 + i) < 10 ∨ 120 < byteAt image (26 + i))) ↔
      ¬∀ i, i < clamp 0 4 (byteAt image 25) → 10 ≤ byteAt image (26 + i) ∧ byteAt image (26 + i) ≤ 120 := by
    simp only [not_forall, not_and_or, Nat.not_le, exists_prop]
  rw [travel]
  unfold needsClamp
  rw [Bool.not_eq_true', ← Bool.not_eq_true]
  simp only [Bool.and_eq_true, List.all_eq_true, List.mem_range, within_iff, not_and_or, Nat.not_le, Nat.not_lt_zero, false_or,
    or_assoc]

/-- Settles O5: each field is a clamped field of the image, or one of its bits. -/
theorem settledValuesLieInTheirRanges : Obligations.SettledValuesLieInTheirRanges := by
  rintro image c rfl
  refine ⟨settle_inRange image, clamp_nearestEnd (by omega) _, clamp_nearestEnd (by omega) _, clamp_nearestEnd (by omega) _,
    clamp_nearestEnd (by omega) _, clamp_nearestEnd (by omega) _, clamp_nearestEnd (by omega) _, clamp_nearestEnd (by omega) _,
    clamp_nearestEnd (by omega) _, clamp_nearestEnd (by omega) _, clamp_nearestEnd (by omega) _, clamp_nearestEnd (by omega) _,
    ?_, ?_, clamp_nearestEnd (by omega) _, clamp_nearestEnd (by omega) _, clamp_nearestEnd (by omega) _, ?_, ?_, rfl,
    fun k => settle_mask image, needsClamp_iff image⟩
  · rw [settle_groups_length]
    exact clamp_nearestEnd (by omega) _
  · rw [settle_travel_length]
    exact clamp_nearestEnd (by omega) _
  · intro i t ht
    rw [settle_travel image ht]
    exact clamp_nearestEnd (by omega) _
  · intro i g hg
    rw [settle_groups image hg]
    refine ⟨?_, ?_⟩ <;> rw [show 19 + i = 18 + (i + 1) by omega] <;> rfl

end Sys2Proof.Machine
end

section
/-!
PROOFS. Events several blocks take, in whatever order; and the start of the blocks at the settings-ready notice: what it leaves
alone, and what the owners of the room's values hold after it.
-/

namespace Sys2Proof.Machine

/-! ### Events several blocks take -/

/-- Where every block's part keeps a premise, a property that one block's part brings about under the premise, and that the others
keep under it, holds after the event. -/
theorem forEach_brings_under {α : Type} {Q P : State → Prop} {act : α → State → State} (a : α)
    (premise : ∀ b s, Q s → Q (act b s)) (bring : ∀ s, Q s → P (act a s)) (keep : ∀ b s, b ≠ a → Q s → P s → P (act b s)) :
    ∀ (events : List α) (s : State), a ∈ events → Q s → P (forEach events act s) := by
  classical
  have kept : ∀ (events : List α) (s : State), Q s → P s → P (forEach events act s) := by
    intro events
    induction events with
    | nil => exact fun s _ p => p
    | cons b rest ih =>
      intro s q p
      refine ih _ (premise b s q) ?_
      by_cases same : b = a
      · exact same ▸ bring s q
      · exact keep b s same q p
  intro events
  induction events with
  | nil => exact fun s h => absurd h List.not_mem_nil
  | cons b rest ih =>
    intro s h q
    rcases List.mem_cons.1 h with rfl | h
    · exact kept rest _ (premise a s q) (bring s q)
    · exact ih _ h (premise b s q)

theorem fanOut_brings_under {Q P : State → Prop} {act : Block → State → State} (a : Block)
    (premise : ∀ b s, Q s → Q (act b s)) (bring : ∀ s, Q s → P (act a s)) (keep : ∀ b s, b ≠ a → Q s → P s → P (act b s))
    {blocks : List Block} {s : State} (h : a ∈ blocks) (q : Q s) : P (fanOut blocks act s) :=
  forEach_brings_under a premise bring keep _ s (mem_permute.2 h) q

/-- An event that leaves a part of the state alone in every block but one gives that part the value this block gives it, where the
value hangs on what no block touches. -/
theorem fanOut_part {α : Type} {Q : State → Prop} (part : State → α) (value : α) {act : Block → State → State} (a : Block)
    (premise : ∀ b s, Q s → Q (act b s)) (bring : ∀ s, Q s → part (act a s) = value)
    (keep : ∀ b s, b ≠ a → part (act b s) = part s) {blocks : List Block} {s : State} (h : a ∈ blocks) (q : Q s) :
    part (fanOut blocks act s) = value :=
  fanOut_brings_under (P := fun t => part t = value) a premise bring (fun b s other _ p => (keep b s other).trans p) h q

/-! ### The start of the blocks -/

/-- What the start of a block leaves alone. -/
structure StartFrame (s t : State) : Prop where
  pending : t.pending = s.pending
  inbox : t.inbox = s.inbox
  now : t.now = s.now
  draws : t.draws = s.draws
  order : t.order = s.order
  lines : t.lines = s.lines
  loader : t.loader = s.loader
  emergency : t.alert.emergency = s.alert.emergency
  debounce : t.alert.debounce = s.alert.debounce
  receiver : t.bus.receiver = s.bus.receiver
  collected : t.bus.collected = s.bus.collected
  line : s.bus.LineKept t.bus

theorem CoreFrame.toStart {s t : State} (h : CoreFrame s t) : StartFrame s t := { h with }

theorem StartFrame.refl (s : State) : StartFrame s s := (CoreFrame.refl s).toStart

theorem StartFrame.trans {s t u : State} (h : StartFrame s t) (k : StartFrame t u) : StartFrame s u where
  pending := k.pending.trans h.pending
  inbox := k.inbox.trans h.inbox
  now := k.now.trans h.now
  draws := k.draws.trans h.draws
  order := k.order.trans h.order
  lines := k.lines.trans h.lines
  loader := k.loader.trans h.loader
  emergency := k.emergency.trans h.emergency
  debounce := k.debounce.trans h.debounce
  receiver := k.receiver.trans h.receiver
  collected := k.collected.trans h.collected
  line := h.line.trans k.line

/-- The values of R142 at the settings-ready notice, before a target is applied. -/
def State.blindAtStart (s : State) : Blind :=
  { Blind.idle with
    sendTimer := if s.loader.settings.takesSun then s.timer (seconds 60) else none
    holdTimer := if s.loader.settings.facade = 0 then none else s.timer (minutes 15)
    emergency := s.alert.emergency
    drives := startDrives s.loader.settings.travel s.lines.limits }

theorem blindStart_eq (s : State) :
    blindStart s =
      if s.alert.emergency then s.setBlind s.blindAtStart else reapply (s.setBlind s.blindAtStart) := rfl

theorem blindStart_frame (s : State) : BlindFrame (s.setBlind s.blindAtStart) (blindStart s) := by
  rw [blindStart_eq]
  split
  · exact .refl _
  · exact reapply_frame _

theorem takeStart_frame (b : Block) (s : State) : StartFrame s (takeStart b s) := by
  cases b
  case air => exact (CoreFrame.setAir s _).toStart.trans (airStart_frame s).toCoreFrame.toStart
  case blind => exact (CoreFrame.setBlind s _).toStart.trans (blindStart_frame s).toCoreFrame.toStart
  case alert =>
    show StartFrame s (alertStart s)
    unfold alertStart
    exact ite_keeps (P := StartFrame s) (.trans (t := s.setAlert { s.alert with mask := s.loader.settings.mask })
      { StartFrame.refl s with } (CoreFrame.setRaised _ _).toStart) { StartFrame.refl s with }
  all_goals exact { StartFrame.refl s with }

theorem takeStarts_frame (s : State) : StartFrame s (fanOut otherBlocks takeStart s) :=
  fanOut_rel StartFrame StartFrame.refl StartFrame.trans _ takeStart_frame _ s

theorem alertStart_alert (s : State) : alertStart s = s.setAlert (alertStart s).alert := by
  unfold alertStart
  dsimp only
  split <;> rfl

theorem takeStart_session (b : Block) (s : State) (h : b ≠ .session) : (takeStart b s).session = s.session := by
  cases b
  case air => exact (airStart_frame s).session
  case blind => exact (blindStart_frame s).session
  case alert => exact (congrArg State.session (alertStart_alert s) :)
  case session => exact absurd rfl h
  all_goals rfl

theorem takeStart_counter (b : Block) (s : State) (h : b ≠ .counter) : (takeStart b s).counter = s.counter := by
  cases b
  case air => exact (airStart_frame s).counter
  case blind => exact (blindStart_frame s).counter
  case alert => exact (congrArg State.counter (alertStart_alert s) :)
  case counter => exact absurd rfl h
  all_goals rfl

theorem takeStart_peers (b : Block) (s : State) (h : b ≠ .peers) : (takeStart b s).peers = s.peers := by
  cases b
  case air => exact (airStart_frame s).peers
  case blind => exact (blindStart_frame s).peers
  case alert => exact (congrArg State.peers (alertStart_alert s) :)
  case peers => exact absurd rfl h
  all_goals rfl

theorem mem_otherBlocks (b : Block) : b ∈ otherBlocks := by cases b <;> decide

/-- The state in which the blocks are started: the mode taken, its alerts set, the Bus Port started and the IDENTITY queued. -/
def modeTaken (phase : Phase) (address : Option Byte) (settings : Settings) (clamped : Bool) (s : State) : State :=
  offerIdentity (busStart (alertIs .configClamped clamped (alertIs .configFallback (phase == .fallback)
    (s.setLoader { phase := phase, readTimer := none, address := address, settings := settings }))))

theorem busStart_frame {s t : State} (h : QuietFrame s t) : QuietFrame (busStart s) (busStart t) := by
  have timer : t.timer 2 = s.timer 2 := congrArg (fun n => some (n + 2)) h.now
  unfold busStart
  rw [timer]
  exact { h with receiver := rfl, collected := rfl, line := .refl _ }

section Mode

variable (phase : Phase) (address : Option Byte) (settings : Settings) (clamped : Bool) (s : State)

theorem takeMode_eq :
    takeMode phase address settings clamped s =
      fanOut otherBlocks takeStart (modeTaken phase address settings clamped s) := rfl

theorem modeTaken_frame :
    QuietFrame (busStart (s.setLoader { phase := phase, readTimer := none, address := address, settings := settings }))
      (modeTaken phase address settings clamped s) :=
  (busStart_frame ((alertIs_frame .configFallback (phase == .fallback) _).trans (alertIs_frame .configClamped clamped _))).trans
    (offerIdentity_frame _)

theorem takeMode_loader :
    (takeMode phase address settings clamped s).loader =
      { phase := phase, readTimer := none, address := address, settings := settings } :=
  (takeStarts_frame _).loader.trans (modeTaken_frame phase address settings clamped s).loader

theorem takeMode_session : (takeMode phase address settings clamped s).session = SessionEngine.empty :=
  fanOut_part (Q := fun _ => True) State.session _ .session (fun _ _ _ => trivial) (fun _ _ => rfl) takeStart_session
    (mem_otherBlocks _) trivial

/-- The Counter as its start finds the station (R78, R86). -/
def State.counterAtStart (s : State) (c : Settings) : Counter :=
  { doors := (s.lines.beams.take c.doors).map (startDoor · s.now), count := 0, vacant := false
    quietTimer := some (s.now + c.hold) }

theorem takeMode_counter : (takeMode phase address settings clamped s).counter = s.counterAtStart settings := by
  have frame := modeTaken_frame phase address settings clamped s
  refine fanOut_part (Q := StartFrame (modeTaken phase address settings clamped s)) State.counter _ .counter
    (fun b t kept => kept.trans (takeStart_frame b t)) (fun t kept => ?_) takeStart_counter (mem_otherBlocks _) (.refl _)
  show (counterStart t).counter = _
  rw [counterStart, State.setCounter_counter, State.timer, kept.lines, kept.loader, kept.now, frame.lines, frame.loader, frame.now]
  rfl

theorem takeMode_peers :
    (takeMode phase address settings clamped s).peers = { PeerTable.empty with sweepTimer := some (s.now + 2000) } := by
  have frame := modeTaken_frame phase address settings clamped s
  refine fanOut_part (Q := StartFrame (modeTaken phase address settings clamped s)) State.peers _ .peers
    (fun b t kept => kept.trans (takeStart_frame b t)) (fun t kept => ?_) takeStart_peers (mem_otherBlocks _) (.refl _)
  show (peersStart t).peers = _
  rw [peersStart, State.setPeers_peers, State.timer, kept.now, frame.now]
  rfl

end Mode

end Sys2Proof.Machine
end

section
/-!
PROOFS. Numbered things; and the law of the headcount and the doors through every change of the Counter (R72 to R83).
-/

namespace Sys2Proof.Machine

/-! ### Numbered things -/

section Numbered

variable {α : Type} {xs : List α} {n : Nat} {x y : α}

theorem pick?_eq_some_iff : pick? xs n = some x ↔ 1 ≤ n ∧ xs[n - 1]? = some x := by
  cases n with
  | zero => simp [pick?]
  | succ n => simp [pick?]

theorem mem_of_pick? (h : pick? xs n = some x) : x ∈ xs := List.mem_of_getElem? (pick?_eq_some_iff.1 h).2

theorem mem_put (h : y ∈ put xs n x) : y = x ∨ y ∈ xs := by
  cases n with
  | zero => exact .inr h
  | succ n => exact (List.mem_or_eq_of_mem_set h).symm

@[simp] theorem length_put : (put xs n x).length = xs.length := by
  cases n with
  | zero => rfl
  | succ n => exact List.length_set

theorem pick?_put_same (h : pick? xs n = some y) : pick? (put xs n x) n = some x := by
  cases n with
  | zero => exact nomatch h
  | succ n =>
    obtain ⟨inside, -⟩ := List.getElem?_eq_some_iff.1 h
    exact List.getElem?_set_self inside

theorem pick?_put_other {m : Nat} (h : m ≠ n) : pick? (put xs n x) m = pick? xs m := by
  cases n with
  | zero => rfl
  | succ n =>
    cases m with
    | zero => rfl
    | succ m => exact List.getElem?_set_ne (by omega)

end Numbered

/-! ### The doors -/

theorem startDoor_lawful (levels : BeamLevels) (now : Nat) : DoorLaw (startDoor levels now) := by
  have clear : DoorLaw { state := .clear, beams := { a := false, b := false }, blockTimer := none } := by
    constructor <;> simp
  obtain ⟨a, b⟩ := levels
  unfold startDoor
  cases a <;> cases b
  · exact clear
  · exact Door.take_lawful now clear (beam := .b) (broken := true) (by simp [BeamLevels.get])
  · exact Door.take_lawful now clear (beam := .a) (broken := true) (by simp [BeamLevels.get])
  · have outer := Door.take_lawful now clear (beam := .a) (broken := true) (by simp [BeamLevels.get])
    refine Door.take_lawful now outer (beam := .b) (broken := true) ?_
    rw [if_pos rfl, Door.take_beams]
    simp [BeamLevels.get, BeamLevels.set]

theorem blocked_lawful {d : Door} : DoorLaw { d with state := .blocked, blockTimer := none } := by
  constructor <;> simp

/-! ### The headcount -/

theorem CounterLaw.of_same {s t : State} (law : CounterLaw s) (loader : t.loader = s.loader) (counter : t.counter = s.counter) :
    CounterLaw t where
  capacity := loader ▸ law.capacity
  count := loader ▸ counter ▸ law.count
  vacant := counter ▸ law.vacant
  quiet up := counter ▸ law.quiet (by rwa [State.started, loader] at up)
  doors := counter ▸ law.doors

section Changes

variable {s : State} (law : CounterLaw s)

include law

theorem CounterLaw.setDoors {doors : List Door} (h : ∀ d ∈ doors, DoorLaw d) :
    CounterLaw (s.setCounter { s.counter with doors := doors }) :=
  { law with doors := h }

theorem CounterLaw.putDoor (number : Nat) {d : Door} (h : DoorLaw d) :
    CounterLaw (s.setCounter { s.counter with doors := put s.counter.doors number d }) := by
  refine law.setDoors fun e he => ?_
  rcases mem_put he with rfl | old
  · exact h
  · exact law.doors e old

theorem CounterLaw.present {n : Nat} (h : n ≤ s.loader.settings.capacity) (due : Nat) :
    CounterLaw (s.setCounter { s.counter with count := n, vacant := false, quietTimer := some due }) :=
  { law with
    count := h
    vacant := fun v => nomatch v
    quiet := fun _ => ⟨(nomatch ·), (nomatch ·)⟩ }

theorem CounterLaw.left {n : Nat} (h : n ≤ s.counter.count) : CounterLaw (s.setCounter { s.counter with count := n }) :=
  { law with
    count := h.trans law.count
    vacant := fun v => Nat.le_zero.1 (h.trans (law.vacant v).le) }

theorem CounterLaw.empty : CounterLaw (s.setCounter { s.counter with count := 0, vacant := true, quietTimer := none }) :=
  { law with
    count := Nat.zero_le _
    vacant := fun _ => rfl
    quiet := fun _ => ⟨fun _ => rfl, fun _ => rfl⟩ }

end Changes

/-- The Counter as it starts meets its law. -/
theorem counterAtStart_lawful {s t : State} {c : Settings} (settings : t.loader.settings = c) (capacity : 1 ≤ c.capacity)
    (counter : t.counter = s.counterAtStart c) : CounterLaw t where
  capacity := settings ▸ capacity
  count := by rw [counter]; exact Nat.zero_le _
  vacant v := by rw [counter] at v; exact nomatch v
  quiet _ := by rw [counter]; exact ⟨(nomatch ·), (nomatch ·)⟩
  doors d hd := by
    rw [counter] at hd
    obtain ⟨levels, -, rfl⟩ := List.mem_map.1 hd
    exact startDoor_lawful levels s.now

end Sys2Proof.Machine
end

section
/-!
PROOFS. The Peer Table: finding an entry, writing a slot, and its law through every change of the table (R89 to R98).
-/

namespace Sys2Proof.Machine

/-! ### Finding an entry -/

/-- A slot holds an entry of an address. -/
def holdsAddress (address : Byte) (slot : Option Peer) : Bool := (slot.map (·.address == address)).getD false

@[simp] theorem holdsAddress_none (address : Byte) : holdsAddress address none = false := rfl

@[simp] theorem holdsAddress_some (address : Byte) (p : Peer) : holdsAddress address (some p) = (p.address == address) := rfl

namespace PeerTable

variable {t : PeerTable} {address : Byte} {i : Nat} {p : Peer}

theorem slotOf_eq : t.slotOf address = t.slots.findIdx? (holdsAddress address) := rfl

theorem entryAt_eq_some_iff : t.entryAt i = some p ↔ t.slots[i]? = some (some p) := by
  unfold entryAt
  cases h : t.slots[i]? <;> simp

theorem slotOf_eq_some (h : t.slotOf address = some i) : ∃ p, t.slots[i]? = some (some p) ∧ p.address = address := by
  rw [slotOf_eq, List.findIdx?_eq_some_iff_getElem] at h
  obtain ⟨inside, holds, -⟩ := h
  cases slot : t.slots[i] with
  | none => simp [slot] at holds
  | some p => exact ⟨p, by rw [List.getElem?_eq_getElem inside, slot], by simpa [slot] using holds⟩

theorem slotOf_eq_none_iff : t.slotOf address = none ↔ ∀ p, some p ∈ t.slots → p.address ≠ address := by
  rw [slotOf_eq, List.findIdx?_eq_none_iff]
  constructor
  · intro h p hp
    simpa using h _ hp
  · intro h slot hslot
    cases slot with
    | none => rfl
    | some p => simpa using h p hslot

theorem find_eq_some_iff : t.find address = some p ↔ ∃ i, t.slotOf address = some i ∧ t.slots[i]? = some (some p) := by
  simp [find, Option.bind_eq_some_iff, entryAt_eq_some_iff]

theorem find_address (h : t.find address = some p) : p.address = address := by
  obtain ⟨i, slot, at_i⟩ := find_eq_some_iff.1 h
  obtain ⟨q, at_i', held⟩ := slotOf_eq_some slot
  simp only [at_i, Option.some.injEq] at at_i'
  exact at_i' ▸ held

theorem find_eq_none_iff : t.find address = none ↔ t.slotOf address = none := by
  cases slot : t.slotOf address with
  | none => simp [find, slot]
  | some i =>
    obtain ⟨p, at_i, -⟩ := slotOf_eq_some slot
    simp [find, slot, entryAt_eq_some_iff.2 at_i]

/-- The table with one slot written. -/
def write (t : PeerTable) (i : Nat) (slot : Option Peer) : PeerTable := { t with slots := t.slots.set i slot }

theorem slotOf_write {old new : Option Peer} (at_i : t.slots[i]? = some old)
    (same : holdsAddress address new = holdsAddress address old) : (t.write i new).slotOf address = t.slotOf address := by
  have marks : (t.slots.set i new).map (holdsAddress address) = t.slots.map (holdsAddress address) := by
    rw [List.map_set, same]
    refine List.ext_getElem? fun j => ?_
    by_cases h : i = j
    · subst h
      obtain ⟨inside, held⟩ := List.getElem?_eq_some_iff.1 at_i
      rw [List.getElem?_set_self (by simpa using inside), List.getElem?_map, at_i]
      rfl
    · rw [List.getElem?_set_ne h]
  have seen (xs : List (Option Peer)) : xs.findIdx? (holdsAddress address) = (xs.map (holdsAddress address)).findIdx? id := by
    rw [List.findIdx?_map]
    rfl
  rw [slotOf_eq, slotOf_eq, write, seen, seen, marks]

/-- Writing a slot changes what is found under the address it holds alone. -/
theorem find_write_other {old new : Option Peer} (at_i : t.slots[i]? = some old) (hold : holdsAddress address old = false)
    (hnew : holdsAddress address new = false) : (t.write i new).find address = t.find address := by
  unfold find
  rw [slotOf_write at_i (hnew.trans hold.symm)]
  cases slot : t.slotOf address with
  | none => rfl
  | some j =>
    have apart : i ≠ j := by
      rintro rfl
      obtain ⟨p, at_i', held⟩ := slotOf_eq_some slot
      rw [at_i, Option.some.injEq] at at_i'
      simp [at_i', held] at hold
    simp only [Option.bind_some, entryAt, write, List.getElem?_set_ne apart]

/-- A rewritten entry is found under its address. -/
theorem find_write_same {q : Peer} (slot : t.slotOf address = some i) (h : q.address = address) :
    (t.write i (some q)).find address = some q := by
  obtain ⟨p, at_i, held⟩ := slotOf_eq_some slot
  obtain ⟨inside, -⟩ := List.getElem?_eq_some_iff.1 at_i
  refine find_eq_some_iff.2 ⟨i, ?_, List.getElem?_set_self inside⟩
  rw [slotOf_write at_i (by simp [h, held]), slot]

/-- An entry made in a slot is found under its address, where no entry was. -/
theorem find_write_new {q : Peer} (none : t.slotOf address = none) (inside : i < t.slots.length) (h : q.address = address) :
    (t.write i (some q)).find address = some q := by
  refine find_eq_some_iff.2 ⟨i, ?_, List.getElem?_set_self inside⟩
  rw [slotOf_eq, List.findIdx?_eq_some_iff_getElem]
  refine ⟨by simpa [write] using inside, by simp [write, h], fun j hj => ?_⟩
  have other : (t.write i (some q)).slots[j]'(by simp [write]; omega) = t.slots[j] := List.getElem_set_ne (by omega) _
  rw [other]
  cases slot : t.slots[j] with
  | none => simp
  | some p => simpa using slotOf_eq_none_iff.1 none p (slot ▸ List.getElem_mem _)

/-- All the taking of a message can do to the table (R92). -/
theorem take_cases (t : PeerTable) (address : Byte) (m : PeerMessage) :
    (∃ i p, t.slotOf address = some i ∧ t.slots[i]? = some (some p) ∧
        t.take address m = { table := t.write i (some (p.record m).1), full := none, notices := (p.record m).2 }) ∨
      (t.slotOf address = none ∧ m.adds = false ∧
        t.take address m = { table := t, full := none, notices := m.heard address }) ∨
      (∃ i, t.slotOf address = none ∧ m.adds = true ∧ t.freeSlot = some i ∧
        t.take address m = { table := t.write i (some ((Peer.new address).record m).1), full := none
                             notices := ((Peer.new address).record m).2 }) ∨
      (∃ i, t.slotOf address = none ∧ m.adds = true ∧ t.freeSlot = none ∧ t.replaceable = some i ∧
        t.take address m = { table := t.write i (some ((Peer.new address).record m).1), full := some false
                             notices := ((t.entryAt i).map Peer.removal).getD [] ++ ((Peer.new address).record m).2 }) ∨
      (t.slotOf address = none ∧ m.adds = true ∧ t.freeSlot = none ∧ t.replaceable = none ∧
        t.take address m = { table := t, full := some true, notices := m.heard address }) := by
  cases slot : t.slotOf address with
  | some i =>
    obtain ⟨p, at_i, -⟩ := slotOf_eq_some slot
    refine .inl ⟨i, p, rfl, at_i, ?_⟩
    simp only [take, slot, Option.bind_some, entryAt_eq_some_iff.2 at_i, Option.map_some]
    rfl
  | none =>
    refine .inr ?_
    cases adds : m.adds with
    | false => exact .inl ⟨rfl, rfl, by simp [take, slot, adds]⟩
    | true =>
      refine .inr ?_
      cases free : t.freeSlot with
      | some i => exact .inl ⟨i, rfl, rfl, rfl, by simp [take, slot, adds, free, create, write]⟩
      | none =>
        refine .inr ?_
        cases oldest : t.replaceable with
        | some i => exact .inl ⟨i, rfl, rfl, rfl, rfl, by simp [take, slot, adds, free, oldest, create, write]⟩
        | none => exact .inr ⟨rfl, rfl, rfl, rfl, by simp [take, slot, adds, free, oldest]⟩

end PeerTable

/-! ### What an entry may hold -/

theorem peerNew_inRange (c : Settings) {address : Byte} (h : 1 ≤ address.toNat ∧ address.toNat ≤ 254) :
    PeerInRange c (Peer.new address) where
  address := h
  age := Nat.zero_le _
  claim _ h := nomatch h
  sun _ h := nomatch h
  feeder _ h := nomatch h

@[simp] theorem Peer.record_address (p : Peer) (m : PeerMessage) : (p.record m).1.address = p.address := by
  unfold Peer.record Peer.take
  dsimp only
  repeat' split
  all_goals rfl

theorem PeerInRange.fresh {c : Settings} {p : Peer} (h : PeerInRange c p) : PeerInRange c { p with age := 0 } :=
  { h with age := Nat.zero_le _ }

theorem PeerInRange.take {c : Settings} {p : Peer} {m : PeerMessage} (h : PeerInRange c p) (admits : c.Admits m) :
    PeerInRange c (p.take m).1 := by
  cases m with
  | claim f =>
    have recorded : PeerInRange c { p with claim := some f } := { h with claim := fun _ e => Option.some.inj e ▸ admits }
    unfold Peer.take
    dsimp only
    split
    · exact recorded
    · split
      · exact h
      · exact recorded
  | withdraw =>
    unfold Peer.take
    dsimp only
    split
    · exact { h with claim := fun _ e => nomatch e }
    · exact h
  | sun glare => exact { h with sun := fun _ e => Option.some.inj e ▸ admits }
  | start drives guard arrival =>
    obtain ⟨on, low, high⟩ := admits
    refine { h with feeder := fun f e => ?_ }
    obtain rfl := Option.some.inj e
    refine ⟨on, ?_⟩
    unfold startedFeeder
    split
    · exact ⟨low, high⟩
    · show 1 ≤ min _ 4 ∧ min _ 4 ≤ 4
      omega
  | stop drives =>
    unfold Peer.take
    dsimp only
    split
    · exact h
    next held feeder =>
      refine { h with feeder := fun f e => ?_ }
      obtain ⟨on, -, high⟩ := h.feeder held feeder
      unfold endedFeeder at e
      split at e
      next fewer =>
        obtain rfl := Option.some.inj e
        refine ⟨on, ?_⟩
        show 1 ≤ held.drives - drives ∧ held.drives - drives ≤ 4
        omega
      next => exact nomatch e

theorem PeerInRange.record {c : Settings} {p : Peer} {m : PeerMessage} (h : PeerInRange c p) (admits : c.Admits m) :
    PeerInRange c (p.record m).1 := h.fresh.take admits

/-! ### The law of the table -/

theorem PeerLaw.of_same {s t : State} (law : PeerLaw s) (loader : t.loader = s.loader) (peers : t.peers = s.peers) :
    PeerLaw t where
  slots := peers ▸ law.slots
  pointer := peers ▸ law.pointer
  entries := peers ▸ loader ▸ law.entries
  distinct := peers ▸ law.distinct
  empty off := peers ▸ law.empty (by rwa [State.started, loader] at off)

section Changes

variable {s : State} (law : PeerLaw s)

include law

/-- The sweep's pointer and timer move. -/
theorem PeerLaw.sweeps {pointer : Nat} (h : pointer < 32) (timer : Timer) :
    PeerLaw (s.setPeers { s.peers with pointer := pointer, sweepTimer := timer }) :=
  { law with pointer := h }

/-- A slot is written with an entry that fits, whose address no other slot holds. -/
theorem PeerLaw.write (up : s.started = true) {i : Nat} {slot : Option Peer}
    (fits : ∀ p, slot = some p → PeerInRange s.loader.settings p ∧ s.loader.address ≠ some p.address)
    (alone : ∀ p, slot = some p → ∀ (j : Nat) (q : Peer), s.peers.slots[j]? = some (some q) → q.address = p.address → j = i) :
    PeerLaw (s.setPeers (s.peers.write i slot)) where
  slots := List.length_set.trans law.slots
  pointer := law.pointer
  entries p hp := by
    rcases List.mem_or_eq_of_mem_set hp with old | new
    · exact law.entries p old
    · exact fits p new.symm
  distinct j k p q hj hk same := by
    replace hj : (s.peers.slots.set i slot)[j]? = some (some p) := hj
    replace hk : (s.peers.slots.set i slot)[k]? = some (some q) := hk
    rw [List.getElem?_set] at hj hk
    split at hj <;> split at hk
    · omega
    next h _ =>
      split at hj
      · exact h ▸ (alone p (Option.some.inj hj) k q hk same.symm).symm
      · exact nomatch hj
    next _ h =>
      split at hk
      · exact h ▸ alone q (Option.some.inj hk) j p hj same
      · exact nomatch hk
    · exact law.distinct j k p q hj hk same
  empty off := nomatch up.symm.trans off

theorem PeerLaw.take (up : s.started = true) {source : Byte} {m : PeerMessage} (accepts : s.acceptsSource source = true)
    (admits : s.loader.settings.Admits m) : PeerLaw (s.setPeers (s.peers.take source m).table) := by
  have range : (1 ≤ source.toNat ∧ source.toNat ≤ 254) ∧ s.loader.address ≠ some source := by
    simpa [State.acceptsSource, and_assoc] using accepts
  have made (i : Nat) (none : s.peers.slotOf source = none) :
      PeerLaw (s.setPeers (s.peers.write i (some ((Peer.new source).record m).1))) := by
    refine law.write up (fun p h => ?_) (fun p h j q hq same => ?_) <;> obtain rfl := Option.some.inj h
    · exact ⟨(peerNew_inRange _ range.1).record admits, by rw [Peer.record_address]; exact range.2⟩
    · exact absurd (same.trans (Peer.record_address _ m)) (PeerTable.slotOf_eq_none_iff.1 none q (List.mem_of_getElem? hq))
  rcases s.peers.take_cases source m with ⟨i, p, slot, at_i, e⟩ | ⟨-, -, e⟩ | ⟨i, none, -, -, e⟩ | ⟨i, none, -, -, -, e⟩ |
    ⟨-, -, -, -, e⟩ <;> rw [e]
  · obtain ⟨fits, foreign⟩ := law.entries p (List.mem_of_getElem? at_i)
    refine law.write up (fun q h => ?_) (fun q h j r hr same => ?_) <;> obtain rfl := Option.some.inj h
    · exact ⟨fits.record admits, by simpa using foreign⟩
    · exact law.distinct j i r p hr at_i (same.trans (Peer.record_address p m))
  · exact law
  · exact made i none
  · exact made i none
  · exact law

theorem PeerLaw.expire (up : s.started = true) (address : Byte) : PeerLaw (s.setPeers (s.peers.expire address).table) := by
  unfold PeerTable.expire
  split
  next i p found =>
    simp only [Option.bind_eq_some_iff, Option.map_eq_some_iff, Prod.mk.injEq, PeerTable.entryAt_eq_some_iff] at found
    obtain ⟨j, -, q, at_i, rfl, rfl⟩ := found
    obtain ⟨fits, foreign⟩ := law.entries q (List.mem_of_getElem? at_i)
    refine law.write up (fun r h => ?_) (fun r h k x hx same => ?_) <;> obtain rfl := Option.some.inj h
    · exact ⟨{ fits with feeder := fun _ e => nomatch e }, foreign⟩
    · exact law.distinct k j x q hx at_i same
  next => exact law

theorem PeerLaw.visit (up : s.started = true) : PeerLaw (s.setPeers s.peers.visit.table) := by
  have moved : (s.peers.pointer + 1) % 32 < 32 := Nat.mod_lt _ (by omega)
  unfold PeerTable.visit
  dsimp only
  split
  next => exact law.sweeps moved _
  next p entry =>
    have at_i := PeerTable.entryAt_eq_some_iff.1 entry
    split
    next young =>
      obtain ⟨fits, foreign⟩ := law.entries p (List.mem_of_getElem? at_i)
      have aged : PeerLaw (s.setPeers (s.peers.write s.peers.pointer (some { p with age := p.age + 1 }))) := by
        refine law.write up (fun r h => ?_) (fun r h k x hx same => ?_) <;> obtain rfl := Option.some.inj h
        · exact ⟨{ fits with age := by show p.age + 1 ≤ 2; omega }, foreign⟩
        · exact law.distinct k _ x p hx at_i same
      exact aged.sweeps moved _
    next =>
      have removed : PeerLaw (s.setPeers (s.peers.write s.peers.pointer none)) :=
        law.write up (fun _ h => nomatch h) (fun _ h => nomatch h)
      exact removed.sweeps moved _

end Changes

/-- An empty table meets its law. -/
theorem emptyTable_lawful {s : State} {timer : Timer} (h : s.peers = { PeerTable.empty with sweepTimer := timer }) :
    PeerLaw s where
  slots := by rw [h]; rfl
  pointer := by rw [h]; exact Nat.zero_lt_succ _
  entries p hp := by rw [h] at hp; exact absurd hp (emptyTable_slots p)
  distinct i j p q hp := by rw [h] at hp; exact absurd (List.mem_of_getElem? hp) (emptyTable_slots p)
  empty _ := by rw [h]; exact emptyTable_slots

end Sys2Proof.Machine
end

section
/-!
PROOFS. The laws of the blocks that own what the room's blocks copy: the Loader, the Session Engine, the Occupancy Counter and the
Peer Table.
-/

namespace Sys2Proof.Machine

/-! ### The Loader -/

theorem fallback_loaderLaw {phase : Phase} (h : phase = .fallback) {address : Option Byte}
    (range : ∀ a, address = some a → 1 ≤ a.toNat ∧ a.toNat ≤ 254) :
    LoaderLaw { phase := phase, readTimer := none, address := address, settings := .fallback } where
  settings := fallback_inRange
  fallback _ := rfl
  address := range
  normal h' := by simp [h] at h'
  silent h' := by simp [h] at h'

theorem imageAddress_range {image : Vector Byte 48} {a : Byte} (h : imageAddress image = some a) :
    1 ≤ a.toNat ∧ a.toNat ≤ 254 := by
  unfold imageAddress at h
  split at h
  next range => exact Option.some.inj h ▸ range
  next => exact nomatch h

/-- The image gives one of two modes, under a law that either meets (R4). -/
theorem judgeImage_elim {P : State → Prop} (image : Vector Byte 48) (s : State)
    (taken : ∀ (phase : Phase) (address : Option Byte) (settings : Settings) (clamped : Bool),
      LoaderLaw { phase := phase, readTimer := none, address := address, settings := settings } →
      phase = .normal ∨ phase = .fallback → P (takeMode phase address settings clamped s)) : P (judgeImage image s) := by
  unfold judgeImage
  split
  next address _ found =>
    refine taken _ _ _ _ ?_ (.inl rfl)
    exact {
      settings := settle_inRange image
      fallback := fun h => absurd rfl h
      address := fun a h => imageAddress_range (found.trans h)
      normal := fun _ => rfl
      silent := fun h => by simp at h }
  next => exact taken _ _ _ _ (fallback_loaderLaw rfl (fun _ h => nomatch h)) (.inr rfl)
  next => exact taken _ _ _ _ (fallback_loaderLaw rfl (fun _ h => imageAddress_range h)) (.inr rfl)

/-- The station as power on finds it: READING, with everything else at its value without power (R2, R175). -/
def poweredUp (s : State) : State :=
  ((blocksOff s).setLoader { Loader.off with phase := .reading, readTimer := some (s.now + 1000) }).setAlert
    { AlertUnit.clear with debounce := some (s.now + 50) }

theorem powerUp_cases (s : State) : powerUp s = s ∨ powerUp s = poweredUp s := by
  unfold powerUp
  split
  next off => exact .inr rfl
  all_goals exact .inl rfl

theorem poweredUp_loaderLaw (s : State) : LoaderLaw (poweredUp s).loader where
  settings := fallback_inRange
  fallback _ := rfl
  address _ h := nomatch h
  normal h := nomatch h
  silent _ := rfl

/-! ### What looks at the owners alone -/

/-- The owners hold what they held. -/
structure OwnersSame (s t : State) : Prop where
  loader : t.loader = s.loader
  session : t.session = s.session
  counter : t.counter = s.counter
  peers : t.peers = s.peers

theorem EmergencyFrame.owners {s t : State} (h : EmergencyFrame s t) : OwnersSame s t := ⟨h.loader, h.session, h.counter, h.peers⟩

theorem RoomFrame.owners {s t : State} (h : RoomFrame s t) : OwnersSame s t := h.toEmergency.owners

theorem IntakeOnly.owners {s t : State} (h : IntakeOnly s t) : OwnersSame s t := by
  obtain ⟨i, d, h⟩ := h
  exact ⟨h.loader, h.session, h.counter, h.peers⟩

/-- The property looks at what the Loader, the Session Engine, the Counter and the Peer Table hold, and is kept by what changes
them. -/
structure OwnersKeep (P : State → Prop) : Prop where
  same : ∀ {s t : State}, OwnersSame s t → P s → P t
  mode : ∀ {s : State} (phase : Phase) (address : Option Byte) (settings : Settings) (clamped : Bool),
    LoaderLaw { phase := phase, readTimer := none, address := address, settings := settings } →
    phase = .normal ∨ phase = .fallback → P s → P (takeMode phase address settings clamped s)
  powerUp : ∀ {s : State}, P s → P (poweredUp s)
  powerOff : ∀ {s : State}, P s → P (blocksOff s)
  clockEvent : ∀ {s : State} (e : ClockEvent), P s → P (takeClockEvent e s)
  catchUp : ∀ {s : State}, P s → P (catchUp s)
  occupancy : ∀ {s : State} (e : OccupancyEvent), P s → P (sessionOccupancy e s)
  item : ∀ {s : State} (item : Item), P s → P (settleItem item s)
  counter : ∀ {s : State} (c : Counter), (CounterLaw s → CounterLaw (s.setCounter c)) → P s → P (s.setCounter c)
  peers : ∀ {s : State} (t : PeerTable), (PeerLaw s → PeerLaw (s.setPeers t)) → P s → P (s.setPeers t)

namespace OwnersKeep

variable {P : State → Prop} {s : State}

theorem elsewhere (h : OwnersKeep P) {t : State} (p : P s) (loader : t.loader = s.loader) (session : t.session = s.session)
    (counter : t.counter = s.counter) (peers : t.peers = s.peers) : P t := h.same ⟨loader, session, counter, peers⟩ p

theorem room (h : OwnersKeep P) {t : State} (frame : RoomFrame s t) (p : P s) : P t := h.same frame.owners p

theorem air (h : OwnersKeep P) {t : State} (frame : AirFrame s t) (p : P s) : P t := h.room frame.toRoomFrame p

theorem blind (h : OwnersKeep P) {t : State} (frame : BlindFrame s t) (p : P s) : P t := h.room frame.toRoomFrame p

theorem quietly (h : OwnersKeep P) {t : State} (frame : QuietFrame s t) (p : P s) : P t := h.room frame.toRoomFrame p

theorem light (h : OwnersKeep P) {t : State} (only : LightOnly s t) (p : P s) : P t := h.room only.toRoom p

theorem sendClockEvent (h : OwnersKeep P) (e : ClockEvent) (p : P s) : P (sendClockEvent e s) := by
  rcases sendClockEvent_cases e s with ⟨-, sent⟩ | ⟨-, sent⟩ <;> rw [sent]
  · exact h.elsewhere p rfl rfl rfl rfl
  · exact h.clockEvent e p

theorem setClock (h : OwnersKeep P) (v : WeekClock) (p : P s) : P (s.setClock v) := h.elsewhere p rfl rfl rfl rfl

theorem setIntake (h : OwnersKeep P) (v : Intake) (p : P s) : P (s.setIntake v) := h.elsewhere p rfl rfl rfl rfl

theorem setBus (h : OwnersKeep P) (v : BusPort) (p : P s) : P (s.setBus v) := h.elsewhere p rfl rfl rfl rfl

theorem takeMark (h : OwnersKeep P) (minute second : Nat) (p : P s) : P (takeMark minute second s) := by
  have quietly (d : Int) : P (adoptQuietly d minute second s) :=
    ite_keeps (h.sendClockEvent _ (h.setClock _ p)) (h.setClock _ p)
  have first : P (adoptFirst minute second s) :=
    h.sendClockEvent _ (h.quietly (clearAlert_frame _ _) (h.setClock _ p))
  exact ite_keeps p (ite_keeps (ite_keeps p (ite_keeps (quietly _) (h.sendClockEvent _ (h.setClock _ p)))) first)

theorem clockTick (h : OwnersKeep P) (due : Nat) (p : P s) : P (clockTick due s) :=
  ite_keeps (ite_keeps (h.setClock _ (h.setClock _ p)) (h.sendClockEvent _ (h.setClock _ (h.setClock _ p))))
    (h.setClock _ p)

theorem releaseHeld (h : OwnersKeep P) (p : P s) : P (releaseHeld s) :=
  forEach_keeps P _ (fun e _ => h.clockEvent e) _ _ (h.catchUp (h.setIntake _ p))

theorem completeMerge (h : OwnersKeep P) (item : Item) (p : P s) : P (completeMerge item s) :=
  h.same (beginMerge_only _).owners (h.setIntake _ (h.releaseHeld (h.item item p)))

theorem sendOccupancy (h : OwnersKeep P) (kinds : List OccupancyKind) (before : Nat) (p : P s) :
    P (sendOccupancy kinds before s) := by
  refine forEach_keeps P _ (fun kind t p => fanOut_keeps P _ (fun b t p => ?_) _ _ p) _ _ p
  cases b
  case session => exact h.occupancy _ p
  case air => exact h.air (airOccupancy_frame _ t) p
  case light => exact h.light (lightOccupancy_only _ t) p
  case blind => exact h.blind (blindOccupancy_frame _ t) p
  case panel => exact h.room (panelOccupancy_frame _ t) p
  all_goals exact p

theorem countPass (h : OwnersKeep P) (pass : Option Pass) (p : P s) : P (countPass pass s) := by
  unfold Machine.countPass
  split
  · exact p
  · exact h.sendOccupancy _ _ (h.counter _ (fun law => law.present (Nat.min_le_right _ _) _) p)
  · exact h.sendOccupancy _ _ (h.counter _ (fun law => law.left (Nat.sub_le _ _)) p)

theorem takeBeam (h : OwnersKeep P) (number : Nat) (beam : Beam) (broken : Bool) (p : P s) :
    P (takeBeam number beam broken s) := by
  unfold Machine.takeBeam
  split
  · exact p
  next d picked =>
    split
    · exact p
    next changes =>
      have moved := h.counter { s.counter with doors := put s.counter.doors number (d.take beam broken s.now).1 }
        (fun law => law.putDoor number (Door.take_lawful _ (law.doors d (mem_of_pick? picked)) changes)) p
      exact h.countPass _ (ite_keeps (h.quietly (clearAlert_frame _ _) moved) moved)

theorem blockDoor (h : OwnersKeep P) (number : Nat) (p : P s) : P (blockDoor number s) := by
  unfold Machine.blockDoor
  split
  · exact p
  next d _ =>
    refine h.quietly (raiseAlert_frame _ _) (h.counter _ (fun law => ?_) p)
    exact law.putDoor (d := { d with state := .blocked, blockTimer := none }) number blocked_lawful

theorem takePulse (h : OwnersKeep P) (p : P s) : P (takePulse s) :=
  h.sendOccupancy _ _ (h.counter _ (fun law => law.present (max_le law.capacity law.count) _) p)

theorem judgeQuiet (h : OwnersKeep P) (p : P s) : P (judgeQuiet s) := by
  unfold Machine.judgeQuiet
  dsimp only
  split
  next few => exact h.sendOccupancy _ _ (h.counter _ (fun law => law.empty) p)
  next many =>
    refine h.counter _ (fun law => ?_) p
    have occupied : s.counter.vacant = false := by
      by_contra vacant
      have := law.vacant (by simpa using vacant)
      omega
    exact { law with quiet := fun _ => by simp [occupied, State.timer] }

theorem deliver (h : OwnersKeep P) (w : TableWork) (law : PeerLaw s → PeerLaw (s.setPeers w.table)) (p : P s) :
    P (deliver w s) := h.room (deliver_frame w s) (h.peers _ law p)

theorem restart (h : OwnersKeep P) (p : P s) : P (restart s) := by
  refine fanOut_keeps P _ (fun b t p => ?_) _ _ (h.quietly (offerIdentity_frame _) (h.setBus _ p))
  cases b
  case intake => exact h.setIntake _ (h.releaseHeld (h.setIntake _ p))
  case peers =>
    exact h.deliver
      { table := { PeerTable.empty with sweepTimer := t.timer (seconds 2) }, full := some false, notices := [.emptied] }
      (fun _ => emptyTable_lawful (timer := t.timer (seconds 2)) rfl) p
  case air => exact h.air (airRestart_frame t) p
  case light => exact h.light (lightRestart_only t) p
  case blind => exact h.blind (blindRestart_frame t) p
  case panel => exact h.room (panelRestart_frame t) p
  all_goals exact p

theorem withBus (h : OwnersKeep P) (change : BusPort → BusPort) (p : P s) : P (withBus change s) := h.setBus _ p

theorem collide (h : OwnersKeep P) (f : Frame) (p : P s) : P (collide f s) :=
  ite_keeps (h.blind (endFrame_frame false f s) p) (h.elsewhere p rfl rfl rfl rfl)

theorem takeCharacter (h : OwnersKeep P) (symbol : LineSymbol) (p : P s) : P (takeCharacter symbol s) := by
  have seen := h.withBus (fun b => (b.seeCharacter s.now).collect symbol) p
  unfold Machine.takeCharacter
  dsimp only
  split
  · exact ite_keeps (ite_keeps (h.blind (endFrame_frame true _ _) seen) (h.withBus _ seen)) (h.collide _ seen)
  all_goals exact seen

theorem missCharacter (h : OwnersKeep P) (p : P s) : P (missCharacter s) := by
  unfold Machine.missCharacter
  split
  · exact h.collide _ (h.withBus _ p)
  all_goals exact p

/-- Every event keeps a property of the owners that their own changes keep. -/
theorem endures (h : OwnersKeep P) : Endures P where
  pending _ p := h.elsewhere p rfl rfl rfl rfl
  inbox _ p := h.elsewhere p rfl rfl rfl rfl
  now _ p := h.elsewhere p rfl rfl rfl rfl
  lines _ p := h.elsewhere p rfl rfl rfl rfl
  debounce _ p := h.elsewhere p rfl rfl rfl rfl
  image image _ p := judgeImage_elim image _ fun _ _ _ _ law mode => h.mode _ _ _ _ law mode p
  unread _ := h.mode _ _ _ _ (fallback_loaderLaw rfl (fun _ e => nomatch e)) (.inr rfl)
  character symbol _ := h.takeCharacter symbol
  missed _ := h.missCharacter
  quiet _ _ _ p := h.elsewhere p rfl rfl rfl rfl
  retry _ := h.withBus _
  second due _ := h.clockTick due
  mark minute second _ := h.takeMark minute second
  booking item _ := h.same (arrive_only item _).owners
  merge m _ _ := h.completeMerge m.item
  beam number beam broken _ := h.takeBeam number beam broken
  block number _ _ _ := h.blockDoor number
  pulse _ := h.takePulse
  quietRoom _ := h.judgeQuiet
  neighbour _ _ up accepts admits := h.deliver _ fun law => law.take up accepts admits
  sweep due up := h.deliver _ fun law => (law.sweeps law.pointer (some (due + seconds 2))).visit up
  guard peer up := h.deliver _ fun law => law.expire up peer
  co2 ppm _ := h.air (takeCo2_frame ppm _)
  co2Loss _ := h.air (loseCo2_frame _)
  rateWindow _ := h.air (closeRateWindow_frame _)
  refresh _ _ := h.air (offerFigures_frame _)
  feedback permille _ := h.air ((AirFrame.setAir _ { State.air _ with feedback := permille } rfl).trans (compareDamper_frame _))
  damperFault _ _ p := h.elsewhere p rfl rfl rfl rfl
  shortfall _ _ p := h.elsewhere p rfl rfl rfl rfl
  photo _ _ p := h.elsewhere p rfl rfl rfl rfl
  photoLoss _ p := h.elsewhere p rfl rfl rfl rfl
  harvest due _ := h.light (harvestTick_only due _)
  fade _ _ _ _ _ _ p := h.elsewhere p rfl rfl rfl rfl
  warning _ p := h.elsewhere p rfl rfl rfl rfl
  holdRelease _ p := h.elsewhere p rfl rfl rfl rfl
  wallSwitch _ _ _ _ _ _ p := h.elsewhere p rfl rfl rfl rfl
  sun glare klux _ := h.blind (takeSun_frame glare klux _)
  sunAge _ := h.blind ((withBlind_frame _ _ rfl).trans (recomputeGlare_frame _))
  sunSend _ := h.blind (sendSun_frame _)
  glareHold _ := h.blind (loseSun_frame _)
  dwell _ := h.blind (endDwell_frame _)
  window _ := h.blind (closeWindow_frame _)
  backoff _ _ _ := h.blind (endBackoff_frame _ _)
  limit number limit active _ := h.blind (takeLimit_frame number limit active _)
  runTimer number goal _ _ := h.blind (endIntermediate_frame number goal _)
  watchdog number _ _ := h.blind (stallDrive_frame number _)
  key key _ := h.room (pressKey_frame key _)
  blink _ p := h.elsewhere p rfl rfl rfl rfl
  status _ _ := h.quietly (offer_frame _ _)
  restart _ := h.restart
  clear _ := h.room (fanOut_rel RoomFrame RoomFrame.refl RoomFrame.trans _ takeClear_frame _ _)
  powerUp {s} p := by
    rcases powerUp_cases s with e | e <;> rw [e]
    · exact p
    · exact h.powerUp p
  powerOff := h.powerOff
  emergency {s} _ p := h.same (settleEmergency_frame s).owners (h.elsewhere p rfl rfl rfl rfl)

end OwnersKeep

/-! ### The Counter and the Peer Table -/

/-- What the Session Engine does leaves the other owners alone. -/
theorem settleItem_others (item : Item) (s : State) :
    (settleItem item s).loader = s.loader ∧ (settleItem item s).counter = s.counter ∧ (settleItem item s).peers = s.peers := by
  obtain ⟨i, d, frame⟩ := settleItem_frame item s
  exact ⟨frame.loader, frame.counter, frame.peers⟩

theorem counterLaw_ownersKeep : OwnersKeep CounterLaw where
  same same law := law.of_same same.loader same.counter
  mode phase address settings clamped loader _ _ :=
    counterAtStart_lawful (congrArg Loader.settings (takeMode_loader phase address settings clamped _)) loader.settings.capacity.1
      (takeMode_counter phase address settings clamped _)
  powerUp _ := { counterLaw_reset with quiet := fun up => nomatch up }
  powerOff _ := counterLaw_reset.of_same rfl rfl
  clockEvent e law := law.of_same (takeClockEvent_frame e _).loader (takeClockEvent_frame e _).counter
  catchUp law := law.of_same (catchUp_frame _).loader (catchUp_frame _).counter
  occupancy e law := law.of_same (sessionOccupancy_frame e _).loader (sessionOccupancy_frame e _).counter
  item item law := law.of_same (settleItem_others item _).1 (settleItem_others item _).2.1
  counter _ keeps := keeps
  peers _ _ law := law.of_same rfl rfl

/-- Settles O28: every change of N, of the vacant flag and of a door keeps the law, and no other block touches them. -/
theorem everyStepKeepsTheCounterLaw : Obligations.EveryStepKeepsTheCounterLaw :=
  fun _ _ law stepped => counterLaw_ownersKeep.endures.step law stepped

theorem peerLaw_ownersKeep : OwnersKeep PeerLaw where
  same same law := law.of_same same.loader same.peers
  mode phase address settings clamped _ _ _ := emptyTable_lawful (takeMode_peers phase address settings clamped _)
  powerUp _ := emptyTable_lawful (timer := none) rfl
  powerOff _ := peerLaw_reset.of_same rfl rfl
  clockEvent e law := law.of_same (takeClockEvent_frame e _).loader (takeClockEvent_frame e _).peers
  catchUp law := law.of_same (catchUp_frame _).loader (catchUp_frame _).peers
  occupancy e law := law.of_same (sessionOccupancy_frame e _).loader (sessionOccupancy_frame e _).peers
  item item law := law.of_same (settleItem_others item _).1 (settleItem_others item _).2.2
  counter _ _ law := law.of_same rfl rfl
  peers _ keeps := keeps

/-- Settles O32: every message, sweep visit and guard expiry keeps the law of the table, and no other block touches it. -/
theorem everyStepKeepsThePeerLaw : Obligations.EveryStepKeepsThePeerLaw :=
  fun _ _ law stepped => peerLaw_ownersKeep.endures.step law stepped

end Sys2Proof.Machine
end

section
/-!
PROOFS. The regime follows the entry states (R66, R67): what a derivation gives, and that nothing else moves the states.
-/

namespace Sys2Proof.Machine

/-! ### The entry whose start comes first (R66) -/

/-- The nearer of a start held and one more entry. -/
def nearer (minute : Nat) (best : Option Entry) (e : Entry) : Option Entry :=
  match best with
  | none => some e
  | some b => if e.ahead minute < b.ahead minute then some e else some b

theorem nearer_spec (minute : Nat) (best : Option Entry) (e : Entry) :
    ∃ x, nearer minute best e = some x ∧ (x = e ∨ best = some x) ∧ x.ahead minute ≤ e.ahead minute ∧
      ∀ b, best = some b → x.ahead minute ≤ b.ahead minute := by
  unfold nearer
  split
  · exact ⟨e, rfl, .inl rfl, le_rfl, fun _ h => nomatch h⟩
  next b =>
    split
    next closer => exact ⟨e, rfl, .inl rfl, le_rfl, fun _ h => Option.some.inj h ▸ closer.le⟩
    next further => exact ⟨b, rfl, .inr rfl, Nat.le_of_not_lt further, fun _ h => Option.some.inj h ▸ le_rfl⟩

theorem foldl_nearer (minute : Nat) (entries : List Entry) (best : Option Entry) :
    (entries.foldl (nearer minute) best = none ↔ best = none ∧ entries = []) ∧
      ∀ x, entries.foldl (nearer minute) best = some x → (x ∈ entries ∨ best = some x) ∧
        (∀ e ∈ entries, x.ahead minute ≤ e.ahead minute) ∧ ∀ b, best = some b → x.ahead minute ≤ b.ahead minute := by
  induction entries generalizing best with
  | nil => exact ⟨by simp, fun x h => ⟨.inr h, by simp, fun b hb => by simp_all⟩⟩
  | cons e rest ih =>
    obtain ⟨y, step, origin, near, nearBest⟩ := nearer_spec minute best e
    have ih := ih (nearer minute best e)
    rw [step] at ih
    rw [List.foldl_cons, step]
    refine ⟨by simp [ih.1], fun x h => ?_⟩
    obtain ⟨member, all, held⟩ := ih.2 x h
    have first := held y rfl
    refine ⟨?_, ?_, fun b hb => first.trans (nearBest b hb)⟩
    · rcases member with inside | held
      · exact .inl (List.mem_cons_of_mem _ inside)
      · obtain rfl := Option.some.inj held
        exact origin.imp_left (by simp +contextual)
    · exact List.forall_mem_cons.2 ⟨first.trans near, all⟩

theorem nearest_eq_none_iff (minute : Nat) (entries : List Entry) : nearest minute entries = none ↔ entries = [] :=
  (foldl_nearer minute entries none).1.trans (by simp)

theorem nearest_spec {minute : Nat} {entries : List Entry} {x : Entry} (h : nearest minute entries = some x) :
    x ∈ entries ∧ ∀ e ∈ entries, x.ahead minute ≤ e.ahead minute := by
  obtain ⟨member, all, -⟩ := (foldl_nearer minute entries none).2 x h
  exact ⟨member.resolve_right (fun h => nomatch h), all⟩

/-! ### A derivation (R66) -/

/-- All a derivation can give: the ACTIVE entry's regime, else that of the entry in PRECONDITION whose start comes first, else
STANDBY. -/
theorem deriveRegime_cases (minute : Nat) (entries : List Entry) :
    (∃ x ∈ entries, x.state = .active ∧
        deriveRegime minute entries = { regime := .inSession, mode := some x.mode, preparing := none, head := 0 }) ∨
      (∃ x ∈ entries, x.state = .precondition ∧ (∀ e ∈ entries, e.state ≠ .active) ∧
        (∀ e ∈ entries, e.state = .precondition → x.ahead minute ≤ e.ahead minute) ∧
        deriveRegime minute entries =
          { regime := .prepare, mode := some x.mode, preparing := some x.id, head := x.expected }) ∨
      ((∀ e ∈ entries, e.state ≠ .active ∧ e.state ≠ .precondition) ∧
        deriveRegime minute entries = { regime := .standby, mode := none, preparing := none, head := 0 }) := by
  unfold deriveRegime
  split
  next x found =>
    exact .inl ⟨x, List.mem_of_find?_eq_some found, by simpa using List.find?_some found, rfl⟩
  next noneActive =>
    have inactive : ∀ e ∈ entries, e.state ≠ .active := by simpa using noneActive
    split
    next x first =>
      obtain ⟨member, all⟩ := nearest_spec first
      simp only [List.mem_filter, decide_eq_true_eq] at member all
      exact .inr (.inl ⟨x, member.1, member.2, inactive, fun e he preparing => all e ⟨he, preparing⟩, rfl⟩)
    next noneFirst =>
      rw [nearest_eq_none_iff, List.filter_eq_nil_iff] at noneFirst
      exact .inr (.inr ⟨fun e he => ⟨inactive e he, by simpa using noneFirst e he⟩, rfl⟩)

/-- The Session Engine after a derivation over its list. -/
def SessionEngine.derived (e : SessionEngine) (minute : Nat) (entries : List Entry) : SessionEngine :=
  { e with
      entries := entries
      regime := (deriveRegime minute entries).regime
      mode := (deriveRegime minute entries).mode
      preparing := (deriveRegime minute entries).preparing
      preparingHead := (deriveRegime minute entries).head }

theorem finishWork_derived (minute : Nat) (w : EngineWork) (s : State) :
    (finishWork minute w s).session = s.session.derived minute w.entries := finishWork_session minute w s

theorem derived_regimeLaw (e : SessionEngine) (minute : Nat) (entries : List Entry) : RegimeLaw (e.derived minute entries) := by
  rcases deriveRegime_cases minute entries with ⟨x, mem, active, d⟩ | ⟨x, mem, preparing, inactive, -, d⟩ | ⟨idle, d⟩
  all_goals constructor <;> simp only [SessionEngine.derived, d]
  · exact ⟨fun _ => ⟨x, mem, active⟩, fun _ => trivial⟩
  · exact ⟨(nomatch ·), fun h => absurd active (h x mem).1⟩
  · exact fun _ => ⟨x, mem, active, rfl⟩
  · exact fun h => nomatch h
  · exact ⟨(nomatch ·), fun _ => trivial⟩
  · exact ⟨(nomatch ·), fun ⟨y, hy, active⟩ => absurd active (inactive y hy)⟩
  · exact ⟨(nomatch ·), fun h => absurd preparing (h x mem).2⟩
  · exact fun h => nomatch h
  · exact fun _ => ⟨x, mem, preparing, rfl, rfl, rfl⟩
  · exact ⟨fun h => (nomatch h), fun h => absurd rfl h⟩
  · exact ⟨(nomatch ·), fun ⟨y, hy, active⟩ => absurd active (idle y hy).1⟩
  · exact ⟨fun _ => idle, fun _ => trivial⟩
  · exact fun h => nomatch h
  · exact fun h => nomatch h
  · exact ⟨fun _ => trivial, fun _ => trivial⟩

/-- A derivation gives the regime of the entry states (R66). -/
theorem derived_regimeAt (e : SessionEngine) (minute : Nat) (entries : List Entry) : RegimeAt minute (e.derived minute entries) := by
  refine ⟨fun x mem active alone => ?_, fun idle => ?_, fun inactive x mem preparing first => ?_⟩ <;>
    rcases deriveRegime_cases minute entries with ⟨y, mem', active', d⟩ | ⟨y, mem', preparing', inactive', near, d⟩ | ⟨idle', d⟩ <;>
    simp only [SessionEngine.derived, d]
  · rw [alone y mem' active']
    exact ⟨trivial, rfl, trivial⟩
  · exact absurd active (inactive' x mem)
  · exact absurd active (idle' x mem).1
  · exact absurd active' (idle y mem').1
  · exact absurd preparing' (idle y mem').2
  · exact ⟨trivial, trivial, trivial⟩
  · exact absurd active' (inactive y mem')
  · have same : y = x := by
      by_contra other
      exact Nat.lt_irrefl _ ((first y mem' preparing' other).trans_le (near x mem preparing))
    rw [same]
    exact ⟨trivial, rfl, rfl, rfl⟩
  · exact absurd preparing (idle' x mem).2

/-! ### What leaves the states alone -/

/-- A change of the list that leaves what the regime is derived from keeps the law. -/
theorem RegimeLaw.map {e : SessionEngine} (law : RegimeLaw e) {f : Entry → Entry}
    (same : ∀ x, (f x).state = x.state ∧ (f x).mode = x.mode ∧ (f x).id = x.id ∧ (f x).expected = x.expected) :
    RegimeLaw { e with entries := e.entries.map f } where
  inSession := by simpa [same] using law.inSession
  standby := by simpa [same] using law.standby
  teaching := by simpa [same] using law.teaching
  preparing := by simpa [same] using law.preparing
  absent := law.absent

theorem Entry.mark_same (count : Nat) (became : Bool) (e : Entry) :
    (e.mark count became).state = e.state ∧ (e.mark count became).mode = e.mode ∧ (e.mark count became).id = e.id ∧
      (e.mark count became).expected = e.expected := by
  unfold Entry.mark
  split <;> exact ⟨rfl, rfl, rfl, rfl⟩

theorem regimeLaw_finishWork (minute : Nat) (w : EngineWork) (s : State) : RegimeLaw (finishWork minute w s).session := by
  rw [finishWork_derived]
  exact derived_regimeLaw _ _ _

theorem regimeLaw_releaseEarly (minute : Nat) {s : State} (law : RegimeLaw s.session) :
    RegimeLaw (releaseEarly minute s).session :=
  ite_keeps (P := fun t => RegimeLaw t.session) (regimeLaw_finishWork _ _ _) law

theorem regimeLaw_markEntries (count : Nat) (became : Bool) {s : State} (law : RegimeLaw s.session) :
    RegimeLaw (markEntries count became s).session := law.map (Entry.mark_same count became)

theorem regimeLaw_ownersKeep : OwnersKeep (fun s => RegimeLaw s.session) where
  same same law := same.session ▸ law
  mode phase address settings clamped _ _ _ := (takeMode_session phase address settings clamped _) ▸ regimeLaw_empty
  powerUp _ := regimeLaw_empty
  powerOff _ := regimeLaw_empty
  clockEvent e _ := by
    cases e with
    | minute m => exact regimeLaw_finishWork _ _ _
    | jump => exact regimeLaw_finishWork _ _ _
  catchUp {s} law := by
    have told : RegimeLaw (s.setSession { s.session with catchUp := false }).session := { law with }
    have marked := ite_keeps (P := fun t => RegimeLaw t.session) (c := 0 < s.counter.count)
      (regimeLaw_markEntries s.counter.count true told) told
    exact ite_keeps (P := fun t => RegimeLaw t.session)
      (ite_keeps (P := fun t => RegimeLaw t.session) (regimeLaw_releaseEarly _ marked) marked) told
  occupancy {s} e law := by
    have marks : RegimeLaw
        (if e.count = e.before ∨ e.count = 0 then s else markEntries e.count (decide (e.before = 0)) s).session :=
      ite_keeps (P := fun t => RegimeLaw t.session) law (regimeLaw_markEntries _ _ law)
    show RegimeLaw (sessionOccupancy e s).session
    unfold sessionOccupancy
    split
    · exact { law with }
    · split
      · exact regimeLaw_releaseEarly _ law
      all_goals exact marks
  item {s} item law := by
    unfold settleItem
    rw [(giveResult_only _ _ _).session]
    exact ite_keeps (P := fun t => RegimeLaw t.session) (regimeLaw_finishWork _ _ _) law
  counter _ _ law := law
  peers _ _ law := law

/-- Settles O23: every change of the list derives the regime anew, and what only marks an entry leaves its state. -/
theorem everyStepKeepsTheRegimeLaw : Obligations.EveryStepKeepsTheRegimeLaw :=
  fun _ _ law stepped => regimeLaw_ownersKeep.endures.step law stepped

end Sys2Proof.Machine
end

section
/-!
PROOFS. The laws of the settings and of the session list: what an entry keeps through every turn the engine gives it (R33, R34,
R43 to R48, R54 to R65), and how the list keeps its order, its ids and its size.
-/

namespace Sys2Proof.Machine

/-! ### The law of the list, entry by entry -/

/-- What the law of the list says of one entry. -/
structure EntryLaw (capacity : Nat) (e : Entry) : Prop where
  id : e.id ≠ 0
  start : e.start < 10080
  stop : e.stop ≤ 10080
  shortest : e.start + 10 ≤ e.stop
  longest : e.stop ≤ e.start + 600
  expected : e.expected ≤ capacity
  lead : e.lead ≤ 60
  amendments : e.amendments ≤ 4
  streak : e.streak ≤ 2
  grace : e.grace.isSome = true ↔ e.state = .active
  repeating : e.state = .dormant ∨ e.skip = true → e.weekly = true

/-- What the law of the list says of an entry and one behind it. -/
def Entry.Before (a b : Entry) : Prop := a.id ≠ b.id ∧ a.stop ≤ b.start

theorem listLaw_iff {capacity : Nat} {entries : List Entry} :
    ListLaw capacity entries ↔ entries.length ≤ 24 ∧ entries.Pairwise Entry.Before ∧ ∀ e ∈ entries, EntryLaw capacity e := by
  constructor
  · intro law
    refine ⟨law.size, List.Pairwise.and (List.pairwise_map.1 law.ids) law.inOrder, fun e mem => ?_⟩
    obtain ⟨id, start, stop, shortest, longest⟩ := law.booked e mem
    obtain ⟨expected, lead, amendments, streak⟩ := law.bounds e mem
    exact ⟨id, start, stop, shortest, longest, expected, lead, amendments, streak, law.grace e mem, law.repeating e mem⟩
  · rintro ⟨size, apart, each⟩
    exact {
      size := size
      ids := List.pairwise_map.2 (apart.imp And.left)
      inOrder := apart.imp And.right
      booked := fun e mem => ⟨(each e mem).id, (each e mem).start, (each e mem).stop, (each e mem).shortest, (each e mem).longest⟩
      bounds := fun e mem => ⟨(each e mem).expected, (each e mem).lead, (each e mem).amendments, (each e mem).streak⟩
      grace := fun e mem => (each e mem).grace
      repeating := fun e mem => (each e mem).repeating }

/-- A turn keeps an entry lawful, and in its place. -/
def Turn.Lawful (capacity : Nat) (e : Entry) (t : Turn) : Prop :=
  ∀ k, t.kept = some k → k.id = e.id ∧ k.start = e.start ∧ k.stop = e.stop ∧ EntryLaw capacity k

theorem Turn.lawful_keep {capacity : Nat} {e k : Entry} (law : EntryLaw capacity k) (id : k.id = e.id) (start : k.start = e.start)
    (stop : k.stop = e.stop) : (Turn.keep k).Lawful capacity e := by
  intro _ same
  obtain rfl := Option.some.inj same
  exact ⟨id, start, stop, law⟩

theorem Turn.lawful_ite {capacity : Nat} {e : Entry} {c : Prop} [Decidable c] {t u : Turn} (ht : t.Lawful capacity e)
    (hu : u.Lawful capacity e) : (if c then t else u).Lawful capacity e := by
  split
  · exact ht
  · exact hu

theorem ListLaw.filterMap {capacity : Nat} {entries : List Entry} (law : ListLaw capacity entries) {f : Entry → Option Entry}
    (lawful : ∀ e k, e ∈ entries → f e = some k → k.id = e.id ∧ k.start = e.start ∧ k.stop = e.stop ∧ EntryLaw capacity k) :
    ListLaw capacity (entries.filterMap f) := by
  obtain ⟨size, apart, -⟩ := listLaw_iff.1 law
  refine listLaw_iff.2 ⟨(List.length_filterMap_le _ _).trans size, ?_, fun k mem => ?_⟩
  · refine List.pairwise_filterMap.2 (apart.imp_of_mem ?_)
    rintro a b memA memB ⟨ids, order⟩ a' keptA b' keptB
    obtain ⟨idA, -, stopA, -⟩ := lawful a a' memA keptA
    obtain ⟨idB, startB, -, -⟩ := lawful b b' memB keptB
    rw [Entry.Before, idA, idB, stopA, startB]
    exact ⟨ids, order⟩
  · obtain ⟨e, inList, kept⟩ := List.mem_filterMap.1 mem
    exact (lawful e k inList kept).2.2.2

theorem ListLaw.each {capacity : Nat} {w : EngineWork} (law : ListLaw capacity w.entries) {take : Entry → Turn}
    (lawful : ∀ e, EntryLaw capacity e → (take e).Lawful capacity e) : ListLaw capacity (w.each take).entries :=
  law.filterMap fun e k mem kept => lawful e ((listLaw_iff.1 law).2.2 e mem) k kept

theorem ListLaw.only {capacity : Nat} {w : EngineWork} (law : ListLaw capacity w.entries) (id : Nat) {take : Entry → Turn}
    (lawful : ∀ e, EntryLaw capacity e → (take e).Lawful capacity e) : ListLaw capacity (w.only id take).entries :=
  law.each fun e lawfulEntry => by
    split
    · exact lawful e lawfulEntry
    · exact Turn.lawful_keep lawfulEntry rfl rfl rfl

theorem ListLaw.map {capacity : Nat} {entries : List Entry} (law : ListLaw capacity entries) {f : Entry → Entry}
    (lawful : ∀ e, EntryLaw capacity e → (f e).id = e.id ∧ (f e).start = e.start ∧ (f e).stop = e.stop ∧ EntryLaw capacity (f e)) :
    ListLaw capacity (entries.map f) := by
  rw [← List.filterMap_eq_map]
  refine law.filterMap fun e k mem kept => ?_
  obtain rfl := Option.some.inj kept
  exact lawful e ((listLaw_iff.1 law).2.2 e mem)

/-! ### The turns of the engine (R53 to R65) -/

section Turns

variable {capacity : Nat} {e : Entry}

theorem EntryLaw.idle (law : EntryLaw capacity e) (h : e.state ≠ .active) : e.grace.isSome = false := by
  simpa [h] using law.grace

theorem settledStreak_le (cause : EndCause) (h : e.streak ≤ 2) : e.settledStreak cause ≤ 2 := by
  unfold Entry.settledStreak
  cases cause with
  | missed => exact h
  | noShow => dsimp only; split <;> simp_all
  | ended | earlyRelease | cancelled | timeJump => dsimp only; split <;> omega

theorem EntryLaw.finish (law : EntryLaw capacity e) (cause : EndCause) : (e.finish cause).Lawful capacity e := by
  intro k kept
  simp only [Entry.finish] at kept
  split at kept
  next weekly =>
    obtain rfl := Option.some.inj kept
    exact ⟨rfl, rfl, rfl, { law with
      streak := settledStreak_le cause law.streak
      grace := ⟨(nomatch ·), (nomatch ·)⟩
      repeating := fun _ => weekly }⟩
  next => exact nomatch kept

theorem EntryLaw.activate (law : EntryLaw capacity e) (m count graceMinutes : Nat) (byJump : Bool) :
    EntryLaw capacity (e.activate m count graceMinutes byJump) := by
  have skips : EntryState.active = .dormant ∨ e.skip = true → e.weekly = true :=
    fun h => law.repeating (.inr (h.resolve_left (nomatch ·)))
  unfold Entry.activate
  dsimp only
  split
  · exact { law with grace := ⟨fun _ => rfl, fun _ => rfl⟩, repeating := skips }
  · exact { law with grace := ⟨fun _ => rfl, fun _ => rfl⟩, repeating := skips }

/-- A move between states outside ACTIVE, where DORMANT asks for a repeating entry. -/
theorem EntryLaw.moves (law : EntryLaw capacity e) {k : Entry}
    (same : k = { e with state := k.state, skip := k.skip, carried := k.carried, grace := k.grace })
    (outside : k.state ≠ .active) (deadline : k.grace.isSome = false)
    (repeats : k.state = .dormant ∨ k.skip = true → e.weekly = true) :
    EntryLaw capacity k := by
  rw [same]
  exact { law with grace := by simp [outside, deadline], repeating := repeats }

theorem EntryLaw.evaluate (law : EntryLaw capacity e) (m count graceMinutes : Nat) (byJump : Bool) :
    (e.evaluate m count graceMinutes byJump).Lawful capacity e := by
  have kept : (Turn.keep e).Lawful capacity e := Turn.lawful_keep law rfl rfl rfl
  have opened : Turn.Lawful capacity e
      { kept := some (e.activate m count graceMinutes byJump), reports := [], boundaries := 1 } := by
    refine Turn.lawful_keep (law.activate m count graceMinutes byJump) ?_ ?_ ?_ <;>
      (unfold Entry.activate; dsimp only; split <;> rfl)
  have moved (h : e.state ≠ .active) (k : Entry)
      (same : k = { e with state := k.state, skip := k.skip, carried := k.carried, grace := k.grace })
      (grace : k.grace = e.grace) (outside : k.state ≠ .active)
      (repeats : k.state = .dormant ∨ k.skip = true → e.weekly = true) : (Turn.keep k).Lawful capacity e :=
    Turn.lawful_keep (law.moves same outside (grace ▸ law.idle h) repeats) (same ▸ rfl) (same ▸ rfl) (same ▸ rfl)
  have skips : e.skip = true → e.weekly = true := fun h => law.repeating (.inr h)
  unfold Entry.evaluate
  dsimp only
  split
  next pending =>
    have out : e.state ≠ .active := by simp [pending]
    split
    next skipped =>
      exact moved out _ rfl rfl (nomatch ·) fun _ => skips (Bool.and_eq_true _ _ ▸ skipped).1
    · split
      · exact moved out _ rfl rfl (nomatch ·) fun h => skips (h.resolve_left (nomatch ·))
      · exact Turn.lawful_ite opened kept
  next preparing =>
    have out : e.state ≠ .active := by simp [preparing]
    split
    · exact opened
    · split
      · exact moved out _ rfl rfl (nomatch ·) fun h => skips (h.resolve_left (nomatch ·))
      · exact kept
  next active =>
    exact Turn.lawful_ite (law.finish _) (Turn.lawful_ite (law.finish _) kept)
  next dormant =>
    have out : e.state ≠ .active := by simp [dormant]
    split
    · exact moved out _ rfl rfl (nomatch ·) fun h => skips (h.resolve_left (nomatch ·))
    · exact kept

theorem EntryLaw.passEnd (law : EntryLaw capacity e) (old new graceMinutes : Nat) :
    (e.passEnd old new graceMinutes).Lawful capacity e := by
  have kept : (Turn.keep e).Lawful capacity e := Turn.lawful_keep law rfl rfl rfl
  unfold Entry.passEnd
  split
  next active =>
    refine Turn.lawful_ite (law.finish _) (Turn.lawful_ite ?_ kept)
    exact Turn.lawful_keep { law with grace := ⟨fun _ => active, fun _ => rfl⟩ } rfl rfl rfl
  · exact kept

theorem EntryLaw.passOccurrence (law : EntryLaw capacity e) (old new : Nat) : (e.passOccurrence old new).Lawful capacity e := by
  have kept : (Turn.keep e).Lawful capacity e := Turn.lawful_keep law rfl rfl rfl
  have waits (h : e.state ≠ .active) : EntryLaw capacity { e with state := .pending, skip := false, carried := false } :=
    law.moves rfl (nomatch ·) (law.idle h) fun h => by simp at h
  unfold Entry.passOccurrence
  split
  next pending =>
    exact Turn.lawful_ite
      (Turn.lawful_ite (Turn.lawful_keep (waits (by simp [pending])) rfl rfl rfl) (law.finish _)) kept
  next preparing =>
    exact Turn.lawful_ite
      (Turn.lawful_ite (Turn.lawful_keep (waits (by simp [preparing])) rfl rfl rfl) (law.finish _)) kept
  next dormant =>
    refine Turn.lawful_ite kept (Turn.lawful_keep ?_ rfl rfl rfl)
    exact law.moves rfl (nomatch ·) (law.idle (by simp [dormant])) fun _ => law.repeating (.inl dormant)
  next => exact kept

theorem EntryLaw.evaluateBack (law : EntryLaw capacity e) (new count graceMinutes : Nat) :
    (e.evaluateBack new count graceMinutes).Lawful capacity e :=
  Turn.lawful_ite (law.evaluate _ _ _ _)
    (EntryLaw.evaluate (e := { e with carried := false }) { law with } _ _ _ _)

theorem EntryLaw.takeBack (law : EntryLaw capacity e) (new count graceMinutes : Nat) :
    (e.takeBack new count graceMinutes).Lawful capacity e := by
  unfold Entry.takeBack
  split
  next active =>
    refine Turn.lawful_ite (Turn.lawful_keep law rfl rfl rfl) ?_
    refine Turn.lawful_keep (law.moves rfl ?_ rfl ?_) rfl rfl rfl
    · show (if e.inLead new then EntryState.precondition else .pending) ≠ .active
      split <;> exact (nomatch ·)
    · rintro (h | h)
      · exact absurd h (by show (if e.inLead new then EntryState.precondition else .pending) ≠ .dormant; split <;> exact (nomatch ·))
      · exact law.repeating (.inr h)
  · exact law.evaluateBack _ _ _

theorem EntryLaw.tally (law : EntryLaw capacity e) (occupied short : Bool) :
    (e.tally occupied short).id = e.id ∧ (e.tally occupied short).start = e.start ∧ (e.tally occupied short).stop = e.stop ∧
      EntryLaw capacity (e.tally occupied short) := by
  unfold Entry.tally
  split <;> exact ⟨rfl, rfl, rfl, { law with }⟩

theorem EntryLaw.mark (law : EntryLaw capacity e) (count : Nat) (became : Bool) :
    (e.mark count became).id = e.id ∧ (e.mark count became).start = e.start ∧ (e.mark count became).stop = e.stop ∧
      EntryLaw capacity (e.mark count became) := by
  unfold Entry.mark
  split <;> exact ⟨rfl, rfl, rfl, { law with }⟩

theorem EntryLaw.release (law : EntryLaw capacity e) : e.release.Lawful capacity e :=
  Turn.lawful_ite (law.finish _) (Turn.lawful_keep law rfl rfl rfl)

/-! ### The turns of an item (R46 to R49) -/

theorem EntryLaw.atOnce (law : EntryLaw capacity e) (now : AtOnce) : (now.evaluate e).Lawful capacity e := by
  unfold AtOnce.evaluate
  split
  · exact law.evaluate _ _ _ _
  · exact Turn.lawful_keep law rfl rfl rfl

theorem EntryLaw.amendTurn (law : EntryLaw capacity e) (now : AtOnce) (newEnd : Bool) : (now.amend newEnd e).Lawful capacity e := by
  unfold AtOnce.amend
  split
  · exact Turn.lawful_ite (law.finish _) (Turn.lawful_keep law rfl rfl rfl)
  all_goals exact law.atOnce now

theorem Turn.remove_lawful : Turn.remove.Lawful capacity e := fun _ h => nomatch h

theorem EntryLaw.cancelOccurrence (law : EntryLaw capacity e) : e.cancelOccurrence.Lawful capacity e := by
  have skipped (weekly : e.weekly = true) : (Turn.keep { e with skip := true }).Lawful capacity e :=
    Turn.lawful_keep { law with repeating := fun _ => weekly } rfl rfl rfl
  unfold Entry.cancelOccurrence
  split
  · exact law.finish _
  next weekly preparing =>
    exact Turn.lawful_keep (law.moves rfl (nomatch ·) (law.idle (by simp [preparing])) fun _ => weekly) rfl rfl rfl
  next weekly _ => exact skipped weekly
  next weekly _ => exact skipped weekly
  next => exact Turn.remove_lawful

theorem EntryLaw.cancelSeries : e.cancelSeries.Lawful capacity e := by
  unfold Entry.cancelSeries
  split <;> exact fun _ h => nomatch h

end Turns

/-! ### Items written into the list (R43 to R46) -/

theorem goodEnd_iff (stop : Nat) : goodEnd stop = true ↔ 1 ≤ stop ∧ stop ≤ 10080 := by simp [goodEnd]

theorem goodDuration_iff (start stop : Nat) : goodDuration start stop = true ↔ start + 10 ≤ stop ∧ stop ≤ start + 600 := by
  simp [goodDuration]

theorem overlapsAny_iff (start stop : Nat) (entries : List Entry) :
    overlapsAny start stop entries = true ↔ ∃ e ∈ entries, start < e.stop ∧ e.start < stop := by
  simp [overlapsAny, sharesMinute]

/-- An OFFER that is accepted is in range, of a new id, free of every entry, and finds room (R43). -/
theorem offerVerdict_accepts {capacity id start stop expected lead : Nat} {entries : List Entry}
    (h : (offerVerdict capacity entries id start stop expected lead).accepts = true) :
    (id ≠ 0 ∧ start < 10080 ∧ stop ≤ 10080 ∧ start + 10 ≤ stop ∧ stop ≤ start + 600) ∧ (∀ e ∈ entries, e.id ≠ id) ∧
      (∀ e ∈ entries, e.stop ≤ start ∨ stop ≤ e.start) ∧ entries.length < 24 := by
  unfold offerVerdict at h
  split at h
  · exact nomatch h
  next times =>
    split at h
    · exact nomatch h
    next fresh =>
      split at h
      · exact nomatch h
      next apart =>
        split at h
        · exact nomatch h
        next room =>
          simp only [not_or, Bool.not_eq_false, goodEnd_iff, goodDuration_iff] at times
          refine ⟨by omega, by simpa using fresh, fun e mem => ?_, Nat.lt_of_not_le room⟩
          rw [overlapsAny_iff] at apart
          by_contra neither
          exact apart ⟨e, mem, by omega, by omega⟩

/-- An entry is put behind those that start no later (R34). -/
theorem insertEntry_eq (e : Entry) (entries : List Entry) :
    insertEntry e entries =
      entries.takeWhile (fun x => decide (x.start ≤ e.start)) ++ e :: entries.dropWhile (fun x => decide (x.start ≤ e.start)) := by
  induction entries with
  | nil => rfl
  | cons x xs ih =>
    unfold insertEntry
    split
    next earlier => simp [Nat.not_le.2 earlier]
    next later => simp [Nat.not_lt.1 later, ih]

theorem mem_insertEntry {e x : Entry} {entries : List Entry} : x ∈ insertEntry e entries ↔ x = e ∨ x ∈ entries := by
  rw [insertEntry_eq, List.mem_append, List.mem_cons, or_left_comm, ← List.mem_append, List.takeWhile_append_dropWhile]

theorem ListLaw.insert {capacity : Nat} {entries : List Entry} (law : ListLaw capacity entries) {e : Entry}
    (lawful : EntryLaw capacity e) (fresh : ∀ x ∈ entries, x.id ≠ e.id)
    (apart : ∀ x ∈ entries, x.stop ≤ e.start ∨ e.stop ≤ x.start) (room : entries.length < 24) :
    ListLaw capacity (insertEntry e entries) := by
  obtain ⟨-, ordered, each⟩ := listLaw_iff.1 law
  refine listLaw_iff.2 ⟨?_, ?_, fun x mem => ?_⟩
  · have split := congrArg List.length (List.takeWhile_append_dropWhile (p := fun x => decide (x.start ≤ e.start)) (l := entries))
    rw [List.length_append] at split
    rw [insertEntry_eq, List.length_append, List.length_cons]
    omega
  · clear room law
    induction entries with
    | nil => exact List.pairwise_singleton _ _
    | cons y ys ih =>
      rw [List.pairwise_cons] at ordered
      rw [List.forall_mem_cons] at fresh apart each
      have sized := each.1.shortest
      unfold insertEntry
      split
      next earlier =>
        have short : e.stop ≤ y.start := by omega
        refine List.pairwise_cons.2 ⟨?_, List.pairwise_cons.2 ordered⟩
        refine List.forall_mem_cons.2 ⟨⟨fresh.1.symm, short⟩, fun x mem => ⟨(fresh.2 x mem).symm, ?_⟩⟩
        have := (ordered.1 x mem).2
        omega
      next later =>
        refine List.pairwise_cons.2 ⟨fun x mem => ?_, ih fresh.2 apart.2 ordered.2 each.2⟩
        rcases mem_insertEntry.1 mem with rfl | inside
        · have := lawful.shortest
          exact ⟨fresh.1, by omega⟩
        · exact ordered.1 x inside
  · rcases mem_insertEntry.1 mem with rfl | inside
    · exact lawful
    · exact each x inside

theorem offeredEntry_lawful {capacity id start stop : Nat} (sender : Byte) (mode : Mode) (weekly report : Bool)
    (expected lead : Nat) (booked : id ≠ 0 ∧ start < 10080 ∧ stop ≤ 10080 ∧ start + 10 ≤ stop ∧ stop ≤ start + 600) :
    EntryLaw capacity (offeredEntry capacity sender id start stop mode weekly report expected lead) where
  id := booked.1
  start := booked.2.1
  stop := booked.2.2.1
  shortest := booked.2.2.2.1
  longest := booked.2.2.2.2
  expected := Nat.min_le_right _ _
  lead := Nat.min_le_right _ _
  amendments := Nat.zero_le _
  streak := Nat.zero_le _
  grace := ⟨(nomatch ·), (nomatch ·)⟩
  repeating h := by simp [offeredEntry] at h

/-- An AMEND that is accepted names an entry it may amend, and a new end is in range and free of every other entry (R44). -/
theorem amendVerdict_accepts {capacity id : Nat} {entries : List Entry} {stop expected : Option Nat} {mode : Option Mode}
    {lead : Option Nat} (h : (amendVerdict capacity entries id stop expected mode lead).accepts = true) :
    ∃ x, findEntry id entries = some x ∧ x.amendments < 4 ∧ ∀ e, stop = some e →
      (e ≤ 10080 ∧ x.start + 10 ≤ e ∧ e ≤ x.start + 600) ∧ ∀ y ∈ entries, y.id ≠ x.id → y.stop ≤ x.start ∨ e ≤ y.start := by
  unfold amendVerdict at h
  dsimp only at h
  split at h
  · exact nomatch h
  next times =>
    split at h
    · exact nomatch h
    next apart =>
      split at h
      · exact nomatch h
      next x found =>
        split at h
        · exact nomatch h
        next few =>
          refine ⟨x, found, Nat.lt_of_not_le few, ?_⟩
          rintro e rfl
          simp only [amendBadTimes, found, Option.map_some, Option.getD_some, Bool.or_eq_true, Bool.not_eq_true', not_or,
            Bool.not_eq_false, goodEnd_iff, goodDuration_iff] at times
          rw [found, amendOverlap, overlapsAny_iff] at apart
          refine ⟨by omega, fun y mem other => ?_⟩
          by_contra neither
          exact apart ⟨y, List.mem_filter.2 ⟨mem, by simpa using other⟩, by omega, by omega⟩

theorem mem_of_findEntry {id : Nat} {entries : List Entry} {x : Entry} (h : findEntry id entries = some x) :
    x ∈ entries ∧ x.id = id := ⟨List.mem_of_find?_eq_some h, by simpa using List.find?_some h⟩

/-- Of entries of distinct ids, the one an id names is the one the search finds. -/
theorem findEntry_unique {id : Nat} {entries : List Entry} {x y : Entry} (ids : (entries.map (·.id)).Nodup)
    (h : findEntry id entries = some x) (mem : y ∈ entries) (named : y.id = id) : y = x := by
  obtain ⟨inside, same⟩ := mem_of_findEntry h
  exact List.inj_on_of_nodup_map ids mem inside (named.trans same.symm)

theorem ListLaw.amend {capacity id : Nat} {entries : List Entry} (law : ListLaw capacity entries) {stop expected : Option Nat}
    {mode : Option Mode} {lead : Option Nat}
    (h : (amendVerdict capacity entries id stop expected mode lead).accepts = true) :
    ListLaw capacity (entries.map fun e => if e.id = id then e.amended capacity stop expected mode lead else e) := by
  obtain ⟨size, ordered, each⟩ := listLaw_iff.1 law
  obtain ⟨x, found, few, free⟩ := amendVerdict_accepts h
  obtain ⟨inside, rfl⟩ := mem_of_findEntry found
  have named {y : Entry} (mem : y ∈ entries) (same : y.id = x.id) : y = x := findEntry_unique law.ids found mem same
  refine listLaw_iff.2 ⟨by simpa using size, List.pairwise_map.2 (ordered.imp_of_mem ?_), ?_⟩
  · rintro a b memA memB ⟨ids, order⟩
    have idOf (e : Entry) : (if e.id = x.id then e.amended capacity stop expected mode lead else e).id = e.id := by split <;> rfl
    have startOf (e : Entry) : (if e.id = x.id then e.amended capacity stop expected mode lead else e).start = e.start := by
      split <;> rfl
    rw [Entry.Before, idOf, idOf, startOf]
    refine ⟨ids, ?_⟩
    split
    next same =>
      obtain rfl := named memA same
      show stop.getD a.stop ≤ b.start
      cases stop with
      | none => exact order
      | some e =>
        have := (each a memA).shortest
        have := (each b memB).shortest
        have := (free e rfl).2 b memB ids.symm
        simp only [Option.getD_some]
        omega
    next => exact order
  · intro k mem
    obtain ⟨e, memE, rfl⟩ := List.mem_map.1 mem
    split
    next same =>
      obtain rfl := named memE same
      have own := each e memE
      have ended : stop.getD e.stop ≤ 10080 ∧ e.start + 10 ≤ stop.getD e.stop ∧ stop.getD e.stop ≤ e.start + 600 := by
        cases stop with
        | none => exact ⟨own.stop, own.shortest, own.longest⟩
        | some s => exact (free s rfl).1
      exact { own with
        stop := ended.1
        shortest := ended.2.1
        longest := ended.2.2
        expected := by
          cases expected with
          | none => exact own.expected
          | some _ => exact Nat.min_le_right _ _
        lead := by
          cases lead with
          | none => exact own.lead
          | some _ => exact Nat.min_le_right _ _
        amendments := few }
    next => exact each e memE

/-- The turn of an amended entry is the turn of the list with the amended entry in it. -/
theorem only_amended (w : EngineWork) (id : Nat) (f : Entry → Entry) (take : Entry → Turn) (ids : ∀ e, (f e).id = e.id) :
    (w.only id fun e => take (f e)).entries =
      ({ w with entries := w.entries.map fun e : Entry => if e.id = id then f e else e }.only id take).entries := by
  show w.entries.filterMap _ = (w.entries.map _).filterMap _
  rw [List.filterMap_map]
  refine List.filterMap_congr fun e _ => ?_
  by_cases named : e.id = id
  · simp [named, ids]
  · simp [named]

/-- An accepted item keeps the law of the list (R45 to R49). -/
theorem ListLaw.applyItem {capacity : Nat} {w : EngineWork} (law : ListLaw capacity w.entries) (now : AtOnce) {item : Item}
    (accepted : (judgeItem capacity w.entries item).accepts = true) :
    ListLaw capacity (applyItem capacity now item w).entries := by
  obtain ⟨sender, id, request⟩ := item
  cases request with
  | offer start stop mode weekly report expected lead =>
    obtain ⟨booked, fresh, apart, room⟩ := offerVerdict_accepts accepted
    have inserted := law.insert (offeredEntry_lawful sender mode weekly report expected lead booked) fresh apart room
    exact ListLaw.only (w := { w with entries := insertEntry _ w.entries }) inserted id fun _ lawful => lawful.atOnce now
  | amend stop expected mode lead =>
    have amended := law.amend accepted
    show ListLaw capacity (w.only id fun e => now.amend stop.isSome (e.amended capacity stop expected mode lead)).entries
    rw [only_amended w id (·.amended capacity stop expected mode lead) (now.amend stop.isSome) fun _ => rfl]
    exact ListLaw.only (w := { w with entries := w.entries.map _ }) amended id fun _ lawful => lawful.amendTurn now _
  | cancel scope =>
    cases scope with
    | occurrence => exact law.only id fun _ lawful => lawful.cancelOccurrence
    | series => exact law.only id fun _ _ => EntryLaw.cancelSeries

/-! ### The laws through every event -/

/-- The session list of a station obeys its law under the station's capacity. -/
def State.ListLawful (s : State) : Prop := ListLaw s.loader.settings.capacity s.session.entries

theorem State.ListLawful.of_same {s t : State} (law : s.ListLawful) (loader : t.loader = s.loader)
    (entries : t.session.entries = s.session.entries) : t.ListLawful := by
  rw [State.ListLawful, loader, entries]
  exact law

theorem finishWork_listLawful {s : State} {w : EngineWork} (minute : Nat)
    (law : ListLaw s.loader.settings.capacity w.entries) : (finishWork minute w s).ListLawful := by
  rw [State.ListLawful, (finishWork_frame minute w s).loader, finishWork_derived]
  exact law

theorem takeMinute_listLawful (m : Nat) {s : State} (law : s.ListLawful) : (takeMinute m s).ListLawful := by
  have taken : (s.setSession { s.session with lastMinute := some m }).ListLawful := law
  have counted : (addTallies (s.setSession { s.session with lastMinute := some m })).ListLawful :=
    State.ListLawful.of_same (s := s.setSession { s.session with entries := s.session.entries.map _ })
      (ListLaw.map law fun _ lawful => lawful.tally _ _) (addTallies_frame _).loader rfl
  have both := ite_keeps (P := State.ListLawful) (c := s.session.lastMinute ≠ some m) counted taken
  exact finishWork_listLawful m (ListLaw.each (w := SessionEngine.work _) both fun _ lawful => lawful.evaluate _ _ _ _)

theorem takeClockEvent_listLawful (e : ClockEvent) {s : State} (law : s.ListLawful) : (takeClockEvent e s).ListLawful := by
  cases e with
  | minute m => exact takeMinute_listLawful m law
  | jump old oldSecond new newSecond isForward =>
    refine finishWork_listLawful new ?_
    show ListLaw s.loader.settings.capacity _
    split
    · exact ((ListLaw.each (w := s.session.work) law fun _ lawful => lawful.passEnd _ _ _).each fun _ lawful =>
        lawful.passOccurrence _ _).each fun _ lawful => lawful.evaluate _ _ _ _
    · exact ListLaw.each (w := s.session.work) law fun _ lawful => lawful.takeBack _ _ _

theorem releaseEarly_listLawful (minute : Nat) {s : State} (law : s.ListLawful) : (releaseEarly minute s).ListLawful :=
  ite_keeps (P := State.ListLawful)
    (finishWork_listLawful minute (ListLaw.each (w := s.session.work) law fun _ lawful => lawful.release)) law

theorem markEntries_listLawful (count : Nat) (became : Bool) {s : State} (law : s.ListLawful) :
    (markEntries count became s).ListLawful := ListLaw.map law fun _ lawful => lawful.mark count became

theorem listLaw_ownersKeep : OwnersKeep State.ListLawful where
  same same law := law.of_same same.loader (congrArg SessionEngine.entries same.session)
  mode phase address settings clamped _ _ _ := by
    rw [State.ListLawful, takeMode_session]
    exact listLaw_empty _
  powerUp _ := listLaw_empty _
  powerOff _ := listLaw_empty _
  clockEvent e law := takeClockEvent_listLawful e law
  catchUp {s} law := by
    have told : (s.setSession { s.session with catchUp := false }).ListLawful := law
    have marked := ite_keeps (P := State.ListLawful) (c := 0 < s.counter.count)
      (markEntries_listLawful s.counter.count true told) told
    exact ite_keeps (P := State.ListLawful)
      (ite_keeps (P := State.ListLawful) (releaseEarly_listLawful _ marked) marked) told
  occupancy {s} e law := by
    have marks := ite_keeps (P := State.ListLawful) (c := e.count = e.before ∨ e.count = 0) law
      (markEntries_listLawful e.count (decide (e.before = 0)) law)
    unfold sessionOccupancy
    split
    · exact law
    · split
      · exact releaseEarly_listLawful _ law
      all_goals exact marks
  item {s} item law := by
    unfold settleItem
    refine State.ListLawful.of_same ?_ (giveResult_only _ _ _).owners.loader
      (congrArg SessionEngine.entries (giveResult_only _ _ _).session)
    split
    next accepted => exact finishWork_listLawful _ (ListLaw.applyItem (w := s.session.work) law _ accepted)
    next => exact law
  counter _ _ law := law
  peers _ _ law := law

theorem loaderLaw_ownersKeep : OwnersKeep (fun s => LoaderLaw s.loader) where
  same same law := same.loader ▸ law
  mode phase address settings clamped law _ _ := by
    rw [takeMode_loader]
    exact law
  powerUp _ := poweredUp_loaderLaw _
  powerOff _ := loaderLaw_off
  clockEvent {s} e law := by rwa [(takeClockEvent_frame e s).loader]
  catchUp {s} law := by rwa [(catchUp_frame s).loader]
  occupancy {s} e law := by rwa [(sessionOccupancy_frame e s).loader]
  item {s} item law := by rwa [(settleItem_others item s).1]
  counter _ _ law := law
  peers _ _ law := law

/-- Settles O19: a mode is taken with settled values, and every turn keeps an entry lawful and in its place. -/
theorem everyStepKeepsTheSessionListLaw : Obligations.EveryStepKeepsTheSessionListLaw :=
  fun _ _ law stepped =>
    ⟨loaderLaw_ownersKeep.endures.step law stepped, fun list => listLaw_ownersKeep.endures.step list stepped⟩

end Sys2Proof.Machine
end

section
/-!
PROOFS. Commands behind the gate of a started station; the Light Controller's commands and outputs (R128 to R138), the limit inputs
(R150), the keys that are ignored (R168), and the debounce of the emergency line (R175).
-/

namespace Sys2Proof.Machine

/-! ### The gates of a started station -/

theorem exec_of_started {i : Instr} {s : State} {effect : State → State} (gate : effectOf i s = s.whileStarted effect)
    (up : s.started = true) : exec i s = .next (effect s) := by
  rw [exec_eq_effectOf, gate, whileStarted_of up]

theorem exec_of_expiry {i : Instr} {s : State} {timer : State → Timer} {effect : State → State → State} {due : Nat}
    (gate : effectOf i s = s.whileStarted fun u => u.onExpiry (timer u) (effect u)) (up : s.started = true)
    (runs : timer s = some due) : exec i s = .next (effect s (s.setNow (max s.now due))) := by
  rw [exec_of_started gate up, runs, onExpiry_some]

/-! ### Scenes (R128, R129, R134) -/

theorem Scene.lit_iff {scene : Scene} : scene.lit = true ↔ scene ≠ .off := by simp [Scene.lit]

theorem Light.rescene_scene (l : Light) (now : Nat) : (l.rescene now).scene = sceneOf l.regime l.mode l.vacant := by
  unfold Light.rescene
  dsimp only
  split
  next held => exact held.symm
  next => split <;> (try split) <;> rfl

theorem Light.rescene_of_held {l : Light} (now : Nat) (held : sceneOf l.regime l.mode l.vacant = l.scene) : l.rescene now = l :=
  if_pos held

theorem Light.rescene_of_asserted {l : Light} (now : Nat) (change : sceneOf l.regime l.mode l.vacant ≠ l.scene)
    (asserted : l.emergency = true) : l.rescene now = { l with scene := sceneOf l.regime l.mode l.vacant } := by
  unfold Light.rescene
  rw [if_neg change]
  exact if_pos asserted

theorem Light.rescene_of_lit {l : Light} (now : Nat) (change : sceneOf l.regime l.mode l.vacant ≠ l.scene)
    (released : l.emergency = false) (lit : sceneOf l.regime l.mode l.vacant ≠ .off) :
    l.rescene now = Light.fadeAll { l with scene := sceneOf l.regime l.mode l.vacant, warning := none }
      (sceneOf l.regime l.mode l.vacant).innerLevel now := by
  unfold Light.rescene
  rw [if_neg change]
  dsimp only
  rw [if_neg (by simp [released]), if_pos (Scene.lit_iff.2 lit)]

theorem Light.rescene_of_off {l : Light} (now : Nat) (change : sceneOf l.regime l.mode l.vacant ≠ l.scene)
    (released : l.emergency = false) (dark : sceneOf l.regime l.mode l.vacant = .off) :
    l.rescene now = Light.mapFollowing { l with scene := .off, warning := some (now + 60000) } Group.stopFade := by
  unfold Light.rescene
  rw [if_neg change]
  dsimp only
  rw [if_neg (by simp [released]), dark]
  rfl

/-- Settles O38: the table row by row, and each kind of change by its equation. -/
theorem scenesFollowTheRegime : Obligations.ScenesFollowTheRegime := by
  rintro l now scene rfl
  exact ⟨fun _ => ⟨rfl, rfl, rfl, rfl⟩, fun _ => ⟨rfl, rfl, rfl, rfl⟩, rfl, rfl, l.rescene_scene now, l.rescene_of_held now,
    l.rescene_of_asserted now, l.rescene_of_lit now,
    fun change released dark => dark ▸ l.rescene_of_off now change released dark⟩

/-! ### The photosensor (R131, R132) -/

theorem Light.pin_eq (l : Light) (now : Nat) :
    l.pin now = { l with
      groups := if l.scene ≠ .off then
          l.groups.map (fun g => if g.window && !g.handSelect then g.fadeTo l.scene.innerLevel now else g)
        else l.groups } := by
  unfold Light.pin
  by_cases dark : l.scene = .off
  · rw [if_neg (by simp [dark, Scene.lit]), if_neg (by simp [dark])]
  · rw [if_pos (Scene.lit_iff.2 dark), if_pos dark]
    unfold Light.mapFollowing
    congr 1
    refine List.map_congr_left fun g _ => ?_
    by_cases window : g.window = true <;> simp [window]
    split <;> simp_all

/-- The controller steps its groups exactly where the conditions of R132 hold, with the lux target and the reading. -/
theorem Light.harvestPair_of {l : Light} {lux reading : Nat} (target : l.scene.luxTarget = some lux)
    (read : l.reading = some reading) (warning : l.warning = none) (released : l.emergency = false) (hold : l.hold = .off)
    (live : l.photoState = .live) : l.harvestPair = some (lux, reading) := by
  simp [harvestPair, target, read, warning, released, hold, live]

theorem Light.harvestPair_eq_none {l : Light} (h : l.scene = .off ∨ l.reading = none ∨ l.warning ≠ none ∨ l.emergency = true ∨
    l.hold ≠ .off ∨ l.photoState ≠ .live) : l.harvestPair = none := by
  unfold harvestPair
  split
  next conditions =>
    simp only [Bool.and_eq_true, Option.isNone_iff_eq_none, Bool.not_eq_true', beq_iff_eq] at conditions
    obtain ⟨⟨⟨warning, released⟩, hold⟩, live⟩ := conditions
    simp only [warning, released, hold, live, ne_eq, not_true_eq_false, Bool.false_eq_true, or_false] at h
    split
    next lux reading target read =>
      rcases h with dark | unread
      · simp [dark, Scene.luxTarget] at target
      · exact nomatch unread.symm.trans read
    next => rfl
  next => rfl

theorem harvestTick_of_step {s : State} {lux reading : Nat} (due : Nat) (pair : s.light.harvestPair = some (lux, reading))
    (normal : s.isNormal = true) :
    harvestTick due s = s.setLight { s.light with
      harvestTimer := some (due + seconds 10)
      groups := s.light.groups.map fun g => if g.mayHarvest then { g with level := harvested g.level lux reading } else g } := by
  have same : Light.harvestPair { s.light with harvestTimer := some (due + seconds 10) } = some (lux, reading) := pair
  simp only [harvestTick, withLight, State.setLight_light]
  rw [same]
  exact if_pos normal

theorem harvestTick_of_none {s : State} (due : Nat) (blocked : s.isNormal = false ∨ s.light.harvestPair = none) :
    harvestTick due s = s.setLight { s.light with harvestTimer := some (due + seconds 10) } := by
  have same : Light.harvestPair { s.light with harvestTimer := some (due + seconds 10) } = s.light.harvestPair := rfl
  simp only [harvestTick, withLight, State.setLight_light]
  rw [same]
  split
  · rfl
  next pair =>
    rcases blocked with fallback | none
    · exact if_neg fun (normal : s.isNormal = true) => by simp [fallback] at normal
    · exact nomatch none.symm.trans pair

/-- Settles O39: the reading and the pin by their equations, the tick by the conditions of a step. -/
theorem photosensorStepsTheWindowGroups : Obligations.PhotosensorStepsTheWindowGroups := by
  refine ⟨fun s up => ⟨fun lux => exec_of_started (effectOf_photosensorReading lux s) up, ?_⟩,
    fun s due up runs => ⟨?_, fun blocked => ?_⟩⟩
  · rintro due n runs rfl
    rw [exec_of_expiry (effectOf_photosensorLossTimerExpiry s) up runs]
    exact congrArg (fun l => Host.Outcome.next ((s.setNow _).setLight l))
      (Light.pin_eq { s.light with photoState := .lost, photoTimer := none } _)
  · intro lux reading normal target read warning released hold live
    rw [exec_of_expiry (timer := (·.light.harvestTimer)) (effectOf_harvestTimerExpiry s) up runs, runs]
    exact congrArg Host.Outcome.next
      (harvestTick_of_step due (Light.harvestPair_of target read warning released hold live) normal)
  · rw [exec_of_expiry (timer := (·.light.harvestTimer)) (effectOf_harvestTimerExpiry s) up runs, runs]
    refine congrArg Host.Outcome.next (harvestTick_of_none due ?_)
    exact blocked.imp (by simpa [State.isNormal] using ·) Light.harvestPair_eq_none

/-! ### Fades, timers and switches (R130, R133, R135, R137) -/

theorem effectOf_fadeStep_running {s : State} {number due : Nat} {g : Group} (fitted : pick? s.light.groups number = some g)
    (runs : g.fade = some due) :
    fadeStep number s = (s.setNow (max s.now due)).setLight { s.light with groups := put s.light.groups number (g.step due) } := by
  simp [fadeStep, fitted, runs, withLight]

/-- Settles O40: each expiry by its equation, a switch by whether a hand-select group takes it. -/
theorem fadesTimersAndSwitchesMoveGroups : Obligations.FadesTimersAndSwitchesMoveGroups := by
  refine ⟨fun s due n up at_n => ?_, fun s u number on up turned => ?_⟩
  · subst at_n
    refine ⟨fun number g fitted runs => ⟨(g.step due).level, ?_, ?_⟩, fun runs => ?_, fun runs => ?_⟩
    · rw [exec_of_started (effectOf_fadeStep number s) up, effectOf_fadeStep_running fitted runs]
      rfl
    · unfold Group.step
      dsimp only
      refine ⟨fun below => by rw [if_pos below], fun above => ?_, fun there => ?_⟩
      · rw [if_neg (by omega), if_pos above]
        omega
      · rw [if_neg (by omega), if_neg (by omega)]
    · rw [exec_of_expiry (timer := (·.light.warning)) (effectOf_vacancyWarningExpiry s) up runs]
      rfl
    · rw [exec_of_expiry (timer := (·.light.hold.timer)) (effectOf_harvestHoldReleaseExpiry s) up (by rw [runs]; rfl)]
      rfl
  · subst turned
    have moved : exec (.wallSwitch number on) s = .next (turnSwitch number on s) := exec_eq_effectOf _ _
    rw [moved]
    unfold turnSwitch
    dsimp only
    rw [whileStarted_of (s := s.setLines { s.lines with switches := put s.lines.switches number on }) up]
    refine ⟨fun g fitted hand => ?_, fun others => ?_⟩
    · simp [withLight, fitted, hand]
    · unfold withLight
      simp only [State.setLines_light]
      split
      · rfl
      next g fitted =>
        rw [if_neg (by simp [others g fitted])]
        rfl

/-! ### Outputs (R136, R176, R178) -/

theorem groupOutput_of_started {s : State} {position : Nat} {g : Group} (up : s.started = true)
    (fitted : pick? s.light.groups position = some g) : s.groupOutput position = s.light.output g := by
  unfold State.started at up
  unfold State.groupOutput
  cases phase : s.loader.phase <;> simp_all

theorem clampInt_toNat (n : Int) : (((clampInt 0 1000 n).toNat : Nat) : Int) = clampInt 0 1000 n := by
  unfold clampInt
  omega

theorem top_of_emergency {u : AlertUnit} (raised : u.raised.getLsbD 0 = true) (unmasked : u.mask.getLsbD 0 = false) : u.top = 1 := by
  have first : (List.range 12).find? (fun i => u.raised.getLsbD i && !u.mask.getLsbD i) = some 0 := by
    rw [List.range_succ_eq_map, List.find?_cons_of_pos (by rw [raised, unmasked]; rfl)]
  rw [AlertUnit.top, first]

theorem motorOutput_of_stopped {s : State} (stopped : ∀ d ∈ s.blind.drives, d.state = .stopped) (number : Nat) :
    s.motorOutput number = .off := by
  unfold State.motorOutput
  split
  · cases fitted : pick? s.blind.drives number with
    | none => rfl
    | some d => simp [Drive.motor, stopped d (mem_of_pick? fitted)]
  · rfl

/-- Settles O41: the rows of R136 in order, and the outputs of an asserted station from its law. -/
theorem outputsFollowTheFirstRow : Obligations.OutputsFollowTheFirstRow := by
  refine ⟨fun s position g up fitted => ?_, fun s law up asserted => ?_⟩
  · rw [groupOutput_of_started up fitted]
    unfold Light.output
    refine ⟨fun asserted => if_pos asserted, fun released hand => ?_, fun released follows =>
      ⟨fun warns => ?_, fun quiet dark => ?_, fun quiet lit => ?_⟩⟩
    · rw [if_neg (by simp [released]), if_pos hand]
    · rw [if_neg (by simp [released]), if_neg (by simp [follows]), if_pos (Option.isSome_iff_ne_none.2 warns)]
    · rw [if_neg (by simp [released]), if_neg (by simp [follows]), if_neg (by simp [quiet]), if_pos dark]
    · rw [if_neg (by simp [released]), if_neg (by simp [follows]), if_neg (by simp [quiet]), if_neg lit]
      exact clampInt_toNat _
  · obtain ⟨-, light, -, -⟩ := law.copies up
    refine ⟨fun position g fitted => ?_, ?_, motorOutput_of_stopped (law.blind up asserted).2.2, ?_, fun unmasked => ?_⟩
    · rw [groupOutput_of_started up fitted]
      exact if_pos (light.trans asserted)
    · rw [State.damperOutput, if_pos up]
      exact (law.air up asserted).2.1
    · rw [State.overrideLamp, if_pos up, law.panel up asserted]
      cases s.panel.blinkTimer.isSome <;> exact (nomatch ·)
    · have top := top_of_emergency (law.alert.trans asserted) unmasked
      exact ⟨top, by simp [State.alertLamp, up, top]⟩

/-! ### Limit inputs (R150) -/

theorem mapDrive_of_fitted {b : Blind} {number : Nat} {d : Drive} (fitted : pick? b.drives number = some d) (change : Drive → Drive) :
    b.mapDrive number change = { b with drives := put b.drives number (change d) } := by
  simp [Blind.mapDrive, fitted]

/-- Settles O47: a level that stops no run is recorded and nothing else. -/
theorem limitsAreRecorded : Obligations.LimitsAreRecorded := by
  intro s number limit active levels d up line fitted harmless
  rw [exec_eq_effectOf, effectOf_limitInput]
  unfold moveLimit
  dsimp only
  rw [line, Option.getD_some,
    whileStarted_of (s := s.setLines { s.lines with limits := put s.lines.limits number (levels.set limit active) }) up]
  unfold takeLimit
  simp only [State.setLines_blind, fitted]
  rw [if_neg]
  · exact congrArg (fun b => Host.Outcome.next ((s.setLines _).setBlind b)) (mapDrive_of_fitted fitted _)
  · rintro ⟨became, running, directed⟩
    rw [Bool.and_eq_true, Bool.not_eq_true'] at became
    obtain ⟨r, run, toward⟩ := Option.map_eq_some_iff.1 directed
    rcases harmless with inactive | held | stopped | other
    · simp [inactive] at became
    · simp [held] at became
    · exact stopped running
    · exact other r run toward.symm

/-! ### Keys that are ignored (R166, R168) -/

theorem effectOf_key {i : Instr} {key : Key} (h : keyOf i = some key) (s : State) : effectOf i s = s.whileStarted (pressKey key) := by
  cases i <;> simp only [keyOf, Option.some.injEq, reduceCtorEq] at h <;> subst h <;> rfl

/-- Settles O52: a key that cannot enter override leaves it OFF. -/
theorem keysAreIgnoredOutsideTheConditions : Obligations.KeysAreIgnoredOutsideTheConditions := by
  intro s up
  refine ⟨fun off => ?_, fun i key named other off barred => ?_, fun due runs => ?_⟩
  · rw [exec_of_started (effectOf_resumeKey s) up, pressKey, if_neg (by simp [off]), if_pos rfl]
  · rw [exec_of_started (effectOf_key named s) up, pressKey, if_neg (by simp [off]), if_neg other, if_neg]
    · rfl
    · simp only [State.mayEnterOverride, Bool.and_eq_true, Bool.or_eq_true, beq_iff_eq, Bool.not_eq_true', not_and]
      rintro ⟨session | present, released⟩ normal <;> simp_all
  · rw [exec_of_expiry (timer := (·.panel.blinkTimer)) (effectOf_blinkTimerExpiry s) up runs]
    rfl

/-! ### The debounce of the emergency line (R175) -/

@[simp] theorem fanOut_singleton (b : Block) (act : Block → State → State) (s : State) : fanOut [b] act s = act b s := by
  simp [fanOut, permute, insertNth, forEach]

theorem settleEmergency_of_same {s : State} (same : s.lines.emergency = s.alert.emergency) :
    settleEmergency s = s.setAlert { s.alert with debounce := none } := if_pos same

theorem settleEmergency_of_differs {s : State} (differs : s.lines.emergency ≠ s.alert.emergency) :
    settleEmergency s = fanOut s.emergencyBlocks (if s.lines.emergency then takeAssertion else takeRelease)
      (s.setAlert { s.alert with debounce := none, emergency := s.lines.emergency }) := if_neg differs

theorem settleEmergency_of_unstarted {s : State} (differs : s.lines.emergency ≠ s.alert.emergency) (waits : s.started = false) :
    settleEmergency s = (if s.lines.emergency then takeAssertion else takeRelease) .alert
      (s.setAlert { s.alert with debounce := none, emergency := s.lines.emergency }) := by
  rw [settleEmergency_of_differs differs, State.emergencyBlocks, if_neg (by simp [waits]), fanOut_singleton]

theorem groupOutput_of_reading {s : State} (reading : s.loader.phase = .reading) {position : Nat} (first : 1 ≤ position)
    (last : position ≤ 6) : s.groupOutput position = if s.alert.emergency then 1000 else 0 := by
  simp [State.groupOutput, reading, first, last]

theorem started_of_reading {s : State} (reading : s.loader.phase = .reading) : s.started = false := by
  simp [State.started, reading]

/-- Settles O53: the raw level restarts the debounce, and its expiry reaches the Alert Unit alone before the start. -/
theorem emergencyLineIsDebounced : Obligations.EmergencyLineIsDebounced := by
  rintro s asserted due n rfl
  refine ⟨fun change powered => ?_, fun still => ?_, fun powered runs => ?_, fun reading => ?_⟩
  · rw [exec_eq_effectOf, effectOf_emergencyLineChange, moveEmergencyLine]
    exact congrArg Host.Outcome.next (if_pos (by simpa [change, State.powered] using powered))
  · rw [exec_eq_effectOf, effectOf_emergencyLineChange, moveEmergencyLine]
    refine congrArg Host.Outcome.next (if_neg ?_)
    rcases still with same | off
    · simp [same]
    · simpa [State.powered] using fun _ => off
  · have expires : exec .debounceTimerExpiry s = .next (settleEmergency (s.setNow (max s.now due))) := by
      rw [exec_eq_effectOf, effectOf_debounceTimerExpiry, if_pos powered, runs, onExpiry_some]
    rw [expires]
    refine ⟨fun same => congrArg Host.Outcome.next (settleEmergency_of_same same), fun differs waits => ⟨_, rfl, ?_⟩⟩
    rw [settleEmergency_of_unstarted (s := s.setNow (max s.now due)) differs waits]
    cases level : s.lines.emergency with
    | true =>
      simp only [State.setNow_lines, level, if_true]
      refine ⟨rfl, rfl, rfl, rfl, by simp [takeAssertion, isRaised_raise], fun a other => ?_⟩
      have others : Alert.emergency ≠ a := fun same => other (by simp [same])
      rw [takeAssertion, isRaised_raise, decide_eq_false others, Bool.or_false]
      rfl
    | false =>
      simp only [State.setNow_lines, level]
      refine ⟨rfl, rfl, rfl, rfl, by simp [takeRelease, isRaised_clear], fun a other => ?_⟩
      have others : Alert.emergency ≠ a := fun same => other (by simp [same])
      exact (isRaised_clear _ _ _).trans (by rw [decide_eq_false others, Bool.not_false, Bool.and_true]; rfl)
  · refine ⟨fun position => groupOutput_of_reading reading, ?_, fun number => ?_⟩
    · rw [State.damperOutput, started_of_reading reading]
      rfl
    · rw [State.motorOutput, started_of_reading reading]
      rfl

end Sys2Proof.Machine
end

section
/-!
PROOFS. The seconds of the Week Clock (R28, R29), the Air Controller's timers and triggers (R112 to R115, R120, R121, R123), and the
beams of the doors (R72 to R77).
-/

namespace Sys2Proof.Machine

/-! ### Seconds (R28, R29) -/

theorem clockTick_of_unset {s : State} (due : Nat) (unset : s.clock.running = false) :
    clockTick due s = s.setClock { s.clock with tick := some (due + 1000) } := if_neg (by simp [unset])

theorem clockTick_of_set {s : State} (due : Nat) (set : s.clock.running = true) :
    clockTick due s = countSecond (s.setClock { s.clock with tick := some (due + 1000) }) := if_pos set

theorem countSecond_of_within {s : State} (within : s.clock.second < 59) :
    countSecond s = s.setClock { s.clock with second := s.clock.second + 1 } := if_pos (by omega)

theorem countSecond_of_end {s : State} (ends : 59 ≤ s.clock.second) :
    countSecond s = sendClockEvent (.minute ((s.clock.minute + 1) % 10080))
      (s.setClock { s.clock with minute := (s.clock.minute + 1) % 10080, second := 0 }) := if_neg (by omega)

/-- Settles O13: the clock counts within the minute, and sends an event at its end. -/
theorem secondsAreCounted : Obligations.SecondsAreCounted := by
  rintro s due n up runs rfl
  rw [exec_of_expiry (timer := (·.clock.tick)) (effectOf_clockSecond s) up runs, runs, Option.getD_some]
  refine ⟨fun unset => ?_, fun set within => ?_, fun set ends => ⟨_, rfl, ?_⟩⟩
  · rw [clockTick_of_unset (s := s.setNow (max s.now due)) due unset]
    rfl
  · rw [clockTick_of_set (s := s.setNow (max s.now due)) due set, countSecond_of_within (by exact within)]
    rfl
  · rw [clockTick_of_set (s := s.setNow (max s.now due)) due set, countSecond_of_end (by exact ends), ← set]
    exact eventSent_sendClockEvent _ _

/-! ### The Air Controller's timers (R112 to R115, R120, R121) -/

theorem offerFigures_eq (s : State) :
    offerFigures s = offer (s.claimFrame s.air.figures false) (s.setAir { s.air with
      record := some s.air.figures, rateWindow := some (s.now + 2000), refreshTimer := some (s.now + 30000) }) := rfl

theorem offerWithdrawal_eq (s : State) :
    offerWithdrawal s = offer (s.claimFrame { demand := 0, minimum := 0, claimClass := 0 } true)
      (s.setAir { s.air with rateWindow := some (s.now + 2000) }) := rfl

theorem offerClaim_of_released {s : State} (released : s.air.emergency = false) : offerClaim s = offerFigures s :=
  if_neg (by simp [released])

theorem offerClaim_of_asserted {s : State} (asserted : s.air.emergency = true) : offerClaim s = offerWithdrawal s := if_pos asserted

theorem claims_iff (s : State) : s.claims = true ↔ s.loader.settings.trunk ≠ 0 ∧ s.isNormal = true := by
  simp [State.claims]

theorem triggerClaim_of_silent {s : State} (silent : s.claims = false) : triggerClaim s = s := if_neg (by simp [silent])

theorem triggerClaim_of_closed {s : State} (claims : s.claims = true) (closed : s.air.rateWindow = none) :
    triggerClaim s = offerClaim s := by
  rw [triggerClaim, if_pos claims, closed]

theorem triggerClaim_of_open {s : State} (claims : s.claims = true) (opened : s.air.rateWindow ≠ none) :
    triggerClaim s = s.setAir { s.air with pendingTrigger := true } := by
  rw [triggerClaim, if_pos claims]
  split
  next closed => exact absurd closed opened
  next => rfl

theorem damperFar_iff (a : Air) : a.damperFar = true ↔ a.feedback + 100 < a.command ∨ a.command + 100 < a.feedback := by
  simp only [Air.damperFar, decide_eq_true_eq]
  omega

theorem compareDamper_of_near {s : State} (near : s.air.damperFar = false) :
    compareDamper s = clearAlert .damperFault (s.setAir { s.air with faultTimer := none }) := if_neg (by simp [near])

theorem compareDamper_of_far {s : State} (far : s.air.damperFar = true) :
    compareDamper s = s.setAir { s.air with faultTimer := some (s.air.faultTimer.getD (s.now + 90000)) } := by
  rw [compareDamper, if_pos far]
  split
  next stopped => rw [stopped]; rfl
  next due runs => rw [runs, Option.getD_some, ← runs]; rfl

theorem triggerTest_of_unrecorded {a : Air} (fresh : a.record = none) : a.triggerTest = true := by
  rw [Air.triggerTest, fresh]

theorem triggerTest_iff {a : Air} {r : ClaimFigures} (recorded : a.record = some r) :
    a.triggerTest = true ↔ a.claimClass ≠ r.claimClass ∨ a.minimum ≠ r.minimum ∨
      r.demand + max 10 (r.demand / 20) ≤ a.demand ∨ a.demand + max 10 (r.demand / 20) ≤ r.demand := by
  simp only [Air.triggerTest, recorded, Bool.or_eq_true, bne_iff_ne, decide_eq_true_iff, or_assoc]
  refine or_congr_right (or_congr_right ?_)
  unfold demandStep
  omega

/-- Settles O36: each expiry and each trigger by its equation. -/
theorem airTimersAndDamperAct : Obligations.AirTimersAndDamperAct := by
  refine ⟨?_, ?_, fun a => ⟨triggerTest_of_unrecorded, fun _ => triggerTest_iff⟩, fun s => ⟨fun idle => ?_, ?_⟩⟩
  · rintro s due n up rfl
    refine ⟨fun runs => ?_, fun runs => ?_⟩
    · rw [exec_of_expiry (timer := (·.air.rateWindow)) (effectOf_rateWindowExpiry s) up runs, closeRateWindow]
      refine ⟨fun idle => ?_, fun pending released => ?_, fun pending asserted => ?_⟩
      · exact congrArg Host.Outcome.next (if_neg (by simp [idle]))
      · refine congrArg Host.Outcome.next ((if_pos pending).trans ?_)
        exact (offerClaim_of_released (by exact released)).trans (offerFigures_eq _)
      · refine congrArg Host.Outcome.next ((if_pos pending).trans ?_)
        exact (offerClaim_of_asserted (by exact asserted)).trans (offerWithdrawal_eq _)
    · rw [exec_of_expiry (timer := (·.air.refreshTimer)) (effectOf_claimRefreshExpiry s) up runs, offerFigures_eq]
      rfl
  · rintro s u permille due up rfl
    have takes : exec (.damperFeedback permille) s = .next (compareDamper
        ((s.setLines { s.lines with damper := permille }).setAir { s.air with feedback := permille })) := by
      rw [exec_eq_effectOf, effectOf_damperFeedback, takeFeedback]
      exact congrArg Host.Outcome.next (whileStarted_of (s := s.setLines { s.lines with damper := permille }) up _)
    refine ⟨fun low high => ?_, fun far => ?_, fun runs => ?_, fun runs => ?_⟩
    · rw [takes, compareDamper_of_near]
      · rfl
      · rw [Bool.eq_false_iff, ne_eq, damperFar_iff]
        show ¬ (permille + 100 < s.air.command ∨ s.air.command + 100 < permille)
        omega
    · rw [takes, compareDamper_of_far ((damperFar_iff _).2 far)]
      rfl
    · exact exec_of_expiry (timer := (·.air.faultTimer)) (effectOf_damperFaultTimerExpiry s) up runs
    · exact exec_of_expiry (timer := (·.air.shortfallTimer)) (effectOf_shortfallTimerExpiry s) up runs
  · unfold testTrigger
    rcases idle with untested | asserted | alone | fallback
    · simp [untested]
    · simp [asserted]
    · rw [triggerClaim_of_silent (by simp [State.claims, alone]), ite_self]
    · rw [triggerClaim_of_silent (by simp [State.claims, fallback]), ite_self]
  · intro tested released trunk normal
    have claims := (claims_iff s).2 ⟨trunk, normal⟩
    have tests : testTrigger s = triggerClaim s := by simp [testTrigger, tested, released]
    rw [tests]
    refine ⟨fun closed => ?_, triggerClaim_of_open claims⟩
    rw [triggerClaim_of_closed claims closed, offerClaim_of_released released, offerFigures_eq]

/-! ### The beams of the doors (R72 to R77) -/

theorem beam_exec {i : Instr} {door : Nat} {beam : Beam} {broken : Bool} (named : i = if broken then .beamBreak door beam else
    .beamClear door beam) {s : State} (up : s.started = true) {levels : BeamLevels}
    (line : pick? s.lines.beams door = some levels) :
    exec i s = .next (takeBeam door beam broken
      (s.setLines { s.lines with beams := put s.lines.beams door (levels.set beam broken) })) := by
  have moves : effectOf i s = moveBeam door beam broken s := by
    rw [named]
    cases broken <;> rfl
  rw [exec_eq_effectOf, moves, moveBeam, line, Option.getD_some]
  exact congrArg Host.Outcome.next
    (whileStarted_of (s := s.setLines { s.lines with beams := put s.lines.beams door (levels.set beam broken) }) up _)

theorem takeBeam_of_repeat {s : State} {door : Nat} {beam : Beam} {broken : Bool} {d : Door}
    (fitted : pick? s.counter.doors door = some d) (same : d.beams.get beam = broken) : takeBeam door beam broken s = s := by
  rw [takeBeam, fitted]
  exact if_pos same

theorem takeBeam_of_change {s : State} {door : Nat} {beam : Beam} {broken : Bool} {d e : Door} {pass : Option Pass}
    (fitted : pick? s.counter.doors door = some d) (change : d.beams.get beam ≠ broken)
    (takes : d.take beam broken s.now = (e, pass)) :
    takeBeam door beam broken s = countPass pass (clearBlocked (decide (d.state = .blocked))
      (s.setCounter { s.counter with doors := put s.counter.doors door e })) := by
  rw [takeBeam, fitted]
  dsimp only
  rw [if_neg change, takes]

theorem clearBlocked_of_open {s : State} : clearBlocked false s = s := rfl

theorem clearBlocked_frame (wasBlocked : Bool) (s : State) : QuietFrame s (clearBlocked wasBlocked s) := by
  unfold clearBlocked
  split
  · exact clearAlert_frame _ s
  · exact QuietFrame.refl s

theorem isRaised_clearBlocked (s : State) :
    (clearBlocked true s).isRaised .doorBlocked = (s.isRaised .doorBlocked && s.counter.anyBlocked) := by
  unfold clearBlocked
  cases any : s.counter.anyBlocked with
  | true => simp
  | false => simp [isRaised_clear]

theorem clearBlocked_alertsKept (wasBlocked : Bool) (s : State) : AlertsKept [.doorBlocked] s (clearBlocked wasBlocked s) := by
  unfold clearBlocked
  split
  · exact (alertsKept_closed [.doorBlocked] s).clear _ (by simp) (AlertsKept.refl _ s)
  · exact AlertsKept.refl _ s

theorem blockDoor_of_fitted {s : State} {door : Nat} {d : Door} (fitted : pick? s.counter.doors door = some d) :
    blockDoor door s = raiseAlert .doorBlocked (s.setCounter { s.counter with
      doors := put s.counter.doors door { d with state := .blocked, blockTimer := none } }) := by
  rw [blockDoor, fitted]

/-- Settles O26: a repeat, a move without a count, a BLOCKED door, and each count by the equation of its transition. -/
theorem beamEventsAreCounted : Obligations.BeamEventsAreCounted := by
  refine ⟨?_, fun s door due d up fitted runs => ?_⟩
  · rintro s u i door beam broken levels d e pass named up line fitted takes rfl
    rw [beam_exec named up line]
    refine ⟨fun same => congrArg Host.Outcome.next (takeBeam_of_repeat fitted same), fun change => ?_⟩
    rw [takeBeam_of_change (s := s.setLines { s.lines with beams := put s.lines.beams door (levels.set beam broken) })
      fitted change takes]
    refine ⟨?_, ?_, ?_, ?_⟩
    · rintro rfl free
      rw [decide_eq_false free]
      rfl
    · rintro rfl blocked
      rw [decide_eq_true blocked]
      have frame := clearBlocked_frame true ((s.setLines { s.lines with
        beams := put s.lines.beams door (levels.set beam broken) }).setCounter { s.counter with doors := put s.counter.doors door e })
      refine ⟨clearBlocked true _, rfl, frame.counter, clearBlocked_alertsKept true _, frame.counter ▸ frame, ?_, ?_⟩
      · unfold clearBlocked
        split <;> rfl
      · exact frame.counter ▸ isRaised_clearBlocked _
    · rintro rfl free
      rw [decide_eq_false free, clearBlocked_of_open]
      have frame := sendOccupancy_frame (withVacancyLeft .entry s.counter.vacant) s.counter.count ((s.setLines { s.lines with
        beams := put s.lines.beams door (levels.set beam broken) }).setCounter
          { doors := put s.counter.doors door e, count := min (s.counter.count + 1) s.loader.settings.capacity
            vacant := false, quietTimer := some (s.now + s.loader.settings.vacancyHold * 60000) })
      exact ⟨_, rfl, frame.counter ▸ frame, frame.counter⟩
    · rintro rfl free
      rw [decide_eq_false free, clearBlocked_of_open]
      have frame := sendOccupancy_frame [.exit] s.counter.count ((s.setLines { s.lines with
        beams := put s.lines.beams door (levels.set beam broken) }).setCounter
          { s.counter with doors := put s.counter.doors door e, count := s.counter.count - 1 })
      exact ⟨_, rfl, frame.counter ▸ frame, frame.counter⟩
  · rw [exec_of_expiry (timer := (·.counter.blockTimerOf door)) (effectOf_blockTimerExpiry door s) up
      (by simpa [Counter.blockTimerOf, fitted] using runs)]
    exact congrArg Host.Outcome.next (blockDoor_of_fitted (s := s.setNow (max s.now due)) fitted)

end Sys2Proof.Machine
end

section
/-!
PROOFS. Neighbours' messages: recorded in their entries, turned away, or given the place of another entry; the sweep and the guards
(R91 to R100).
-/

namespace Sys2Proof.Machine

theorem exec_of_message {i : Instr} {s : State} {source dest : Byte} {kind : Bool} {effect : State → State}
    (gate : effectOf i s = s.onMessage source dest kind effect) (accepts : s.accepts source dest kind = true) :
    exec i s = .next (effect s) := by
  rw [exec_eq_effectOf, gate, onMessage_of accepts]

/-- A message that is not accepted, or whose effect is none, changes nothing. -/
theorem exec_of_ignored {i : Instr} {s : State} {source dest : Byte} {kind : Bool} {effect : State → State}
    (gate : effectOf i s = s.onMessage source dest kind effect)
    (ignored : s.accepts source dest kind = false ∨ effect s = s) : exec i s = .next s := by
  rw [exec_eq_effectOf, gate, State.onMessage]
  rcases ignored with dropped | idle
  · rw [if_neg (by simp [dropped])]
  · rw [idle, ite_self]

theorem takePeer_of_admitted {admitted : Bool} (h : admitted = true) (source : Byte) (m : PeerMessage) (s : State) :
    takePeer admitted source m s = deliver (s.peers.take source m) s := if_pos h

theorem takePeer_of_barred {admitted : Bool} (h : admitted = false) (source : Byte) (m : PeerMessage) (s : State) :
    takePeer admitted source m s = s := if_neg (by simp [h])

/-! ### The delivery of the table's changes (R101) -/

/-- PEER_TABLE_FULL stands after a delivery as the table's work says (R92, R100). -/
theorem isRaised_deliver {w : TableWork} {full : Bool} (h : w.full = some full) (s : State) :
    (deliver w s).isRaised .peerTableFull = full := by
  let told := alertIs .peerTableFull full (s.setPeers w.table)
  have kept : AlertsKept [.damperFault, .shortfall, .sunLost] told (deliver w s) := by
    have closed := alertsKept_closed [.damperFault, .shortfall, .sunLost] told
    unfold deliver
    rw [h]
    exact forEach_keeps _ _ (fun n _ => fanOut_keeps _ _
      (fun b _ => closed.takeNotice (by simp) (by simp) (by simp) n b) _ _) _ _ (AlertsKept.refl _ _)
  rw [kept _ (by simp), isRaised_alertIs, if_pos rfl]

/-- What a delivery leaves: the room alone hears of it, and the table is as the event left it. -/
theorem deliver_roomFrame (w : TableWork) (s : State) : RoomFrame (s.setPeers (deliver w s).peers) (deliver w s) :=
  (deliver_peers w s).symm ▸ deliver_frame w s

/-! ### Recorded messages (R92 to R96) -/

namespace PeerTable

variable {t : PeerTable} {address : Byte} {p : Peer}

/-- There is an entry of the message's source, or a free slot for one (R92). -/
def HasPlace (t : PeerTable) (address : Byte) (m : PeerMessage) (p : Peer) : Prop :=
  t.find address = some p ∨ (t.find address = none ∧ (∃ i, t.freeSlot = some i) ∧ p = Peer.new address ∧ m.adds = true)

theorem freeSlot_spec {i : Nat} (h : t.freeSlot = some i) : t.slots[i]? = some none := by
  rw [freeSlot, List.findIdx?_eq_some_iff_getElem] at h
  obtain ⟨inside, empty, -⟩ := h
  rw [List.getElem?_eq_getElem inside, Option.isNone_iff_eq_none.1 empty]

theorem find_write_self_other {i : Nat} {old : Option Peer} (at_i : t.slots[i]? = some old) {q : Peer}
    (held : ∀ r, old = some r → r.address = address) (h : q.address = address) {a : Byte} (other : a ≠ address) :
    (t.write i (some q)).find a = t.find a := by
  refine find_write_other at_i ?_ (by simp [h, other.symm])
  cases old with
  | none => rfl
  | some r => simp [held r rfl, other.symm]

/-- A message with a place is recorded in its entry, and leaves every other entry, the pointer and the sweep timer (R92). -/
theorem take_of_place {m : PeerMessage} (place : t.HasPlace address m p) :
    (t.take address m).table.find address = some (p.record m).1 ∧
      (∀ a, a ≠ address → (t.take address m).table.find a = t.find a) ∧
      (t.take address m).table.pointer = t.pointer ∧ (t.take address m).table.sweepTimer = t.sweepTimer := by
  rcases place with found | ⟨absent, ⟨i, free⟩, rfl, adds⟩
  · obtain ⟨i, slot, at_i⟩ := find_eq_some_iff.1 found
    have held := find_address found
    have recorded : t.take address m = { table := t.write i (some (p.record m).1), full := none, notices := (p.record m).2 } := by
      rcases t.take_cases address m with ⟨j, q, slot', at_j, e⟩ | ⟨none, -⟩ | ⟨j, none, -⟩ | ⟨j, none, -⟩ | ⟨none, -⟩
      · obtain rfl : i = j := Option.some.inj (slot.symm.trans slot')
        obtain rfl : p = q := Option.some.inj (Option.some.inj (at_i.symm.trans at_j))
        exact e
      all_goals exact nomatch none.symm.trans slot
    rw [recorded]
    exact ⟨find_write_same slot (by simpa using held), fun a other =>
      find_write_self_other at_i (fun r same => Option.some.inj same ▸ held) (by simpa using held) other, rfl, rfl⟩
  · have none := find_eq_none_iff.1 absent
    have at_i := freeSlot_spec free
    have made : t.take address m = { table := t.write i (some ((Peer.new address).record m).1), full := .none
                                     notices := ((Peer.new address).record m).2 } := by
      rcases t.take_cases address m with ⟨j, q, slot, -⟩ | ⟨-, idle, -⟩ | ⟨j, -, -, free', e⟩ | ⟨j, -, -, full, -⟩ | ⟨-, -, full, -⟩
      · exact nomatch none.symm.trans slot
      · simp [adds] at idle
      · obtain rfl : i = j := Option.some.inj (free.symm.trans free')
        exact e
      all_goals exact nomatch free.symm.trans full
    rw [made]
    have own : ((Peer.new address).record m).1.address = address := Peer.record_address _ m
    exact ⟨find_write_new none (List.getElem?_eq_some_iff.1 at_i).1 own, fun a other =>
      find_write_self_other at_i (fun _ h => nomatch h) own other, rfl, rfl⟩

end PeerTable

/-- What an accepted and admitted message with a place leaves (R92). -/
def Recorded (source : Byte) (entry : Peer) (s t : State) : Prop :=
  RoomFrame (s.setPeers t.peers) t ∧ t.peers.find source = some entry ∧ (∀ a, a ≠ source → t.peers.find a = s.peers.find a) ∧
    t.peers.pointer = s.peers.pointer ∧ t.peers.sweepTimer = s.peers.sweepTimer

theorem recorded_of_place {s : State} {source : Byte} {m : PeerMessage} {p : Peer} (place : s.peers.HasPlace source m p) :
    Recorded source (p.record m).1 s (deliver (s.peers.take source m) s) := by
  have facts := PeerTable.take_of_place place
  rw [← deliver_peers (s.peers.take source m) s] at facts
  exact ⟨deliver_roomFrame _ s, facts⟩

theorem Peer.record_claim (p : Peer) (f : ClaimFigures) : (p.record (.claim f)).1 = { p with age := 0, claim := some f } := by
  unfold record take
  dsimp only
  split
  · rfl
  next held claims =>
    split
    next same => rw [← same, ← claims]
    next => rfl

theorem Peer.record_withdraw (p : Peer) : (p.record .withdraw).1 = { p with age := 0, claim := none } := by
  unfold record take
  dsimp only
  split
  · rfl
  next none => rw [← Option.not_isSome_iff_eq_none.1 none]

theorem Peer.record_sun (p : Peer) (glare : Nat) : (p.record (.sun glare)).1 = { p with age := 0, sun := some glare } := rfl

theorem Peer.record_start (p : Peer) (drives guard arrival : Nat) :
    (p.record (.start drives guard arrival)).1 = { p with age := 0, feeder := some (startedFeeder p.feeder drives guard) } := rfl

theorem Peer.record_stop (p : Peer) (drives : Nat) :
    (p.record (.stop drives)).1 = { p with age := 0, feeder := p.feeder.bind (endedFeeder · drives) } := by
  unfold record take
  dsimp only
  split
  next none => rw [none, Option.bind_none, ← none]
  next held feeder => rw [feeder, Option.bind_some]

/-- Settles O29: each kind is recorded by its row of R93 to R96. -/
theorem messagesAreRecorded : Obligations.MessagesAreRecorded := by
  intro s source dest p accepts found
  have place (m : PeerMessage) (adds : m.adds = true) : s.peers.HasPlace source m p :=
    found.imp_right fun ⟨absent, free, new⟩ => ⟨absent, free, new, adds⟩
  refine ⟨fun trunk claimClass demand minimum on same low high grade => ?_, fun facade glare klux on same low high => ?_,
    fun facade count duration arrival on same one four first last => ?_, fun facade count on same one four entry => ?_,
    fun trunk claimClass demand minimum on same entry => ?_⟩
  · refine ⟨_, (exec_of_message (effectOf_claim source dest trunk demand minimum claimClass false s) accepts).trans
      (congrArg _ (takePeer_of_admitted ((admitsClaim_iff _ _ _ _ _ _).2 ⟨on, same, .inr ⟨low, high, grade⟩⟩) _ _ s)), ?_⟩
    rw [← Peer.record_claim]
    exact recorded_of_place (place _ rfl)
  · refine ⟨_, (exec_of_message (effectOf_sunReading source dest facade glare klux s) accepts).trans
      (congrArg _ (takePeer_of_admitted ((admitsSun_iff _ _ _ _).2 ⟨on, same, low, high⟩) _ _ s)), ?_⟩
    rw [← Peer.record_sun]
    exact recorded_of_place (place _ rfl)
  · refine ⟨_, (exec_of_message (effectOf_feederStart source dest facade count duration arrival s) accepts).trans
      (congrArg _ (takePeer_of_admitted ((admitsStart_iff _ _ _ _).2 ⟨on, same, ⟨one, four⟩, first, last⟩) _ _ s)), ?_⟩
    have recorded := recorded_of_place
      (place (.start count.toNat (arrival + seconds (duration.toNat + 5)) arrival) rfl)
    rw [Peer.record_start] at recorded
    unfold startedFeeder at recorded
    exact recorded
  · refine ⟨_, (exec_of_message (effectOf_feederEnd source dest facade count s) accepts).trans
      (congrArg _ (takePeer_of_admitted ((admitsEnd_iff _ _ _).2 ⟨on, same, one, four⟩) _ _ s)), ?_⟩
    have recorded := recorded_of_place (m := .stop count.toNat) (.inl entry)
    rw [Peer.record_stop] at recorded
    cases feeder : p.feeder with
    | none => rwa [feeder] at recorded
    | some f => rwa [feeder] at recorded
  · refine ⟨_, (exec_of_message (effectOf_claim source dest trunk demand minimum claimClass true s) accepts).trans
      (congrArg _ (takePeer_of_admitted ((admitsClaim_iff _ _ _ _ _ _).2 ⟨on, same, .inl rfl⟩) _ _ s)), ?_⟩
    rw [← Peer.record_withdraw]
    exact recorded_of_place (.inl entry)

/-! ### Messages that find no place (R92, R100) -/

/-- A slot holds an entry of an age. -/
def holdsAge (age : Nat) (slot : Option Peer) : Bool := (slot.map (·.age == age)).getD false

theorem holdsAge_iff {age : Nat} {slot : Option Peer} : holdsAge age slot = true ↔ ∃ p, slot = some p ∧ p.age = age := by
  cases slot <;> simp [holdsAge]

namespace PeerTable

variable {t : PeerTable} {i : Nat} {p : Peer}

theorem slotOfAge_eq : t.slotOfAge n = t.slots.findIdx? (holdsAge n) := rfl

theorem slotOfAge_eq_some (at_i : t.slots[i]? = some (some p))
    (first : ∀ (j : Nat) (q : Peer), t.slots[j]? = some (some q) → q.age = p.age → i ≤ j) : t.slotOfAge p.age = some i := by
  obtain ⟨inside, held⟩ := List.getElem?_eq_some_iff.1 at_i
  rw [slotOfAge_eq, List.findIdx?_eq_some_iff_getElem]
  refine ⟨inside, holdsAge_iff.2 ⟨p, held, rfl⟩, fun j before holds => ?_⟩
  obtain ⟨q, at_j, same⟩ := holdsAge_iff.1 holds
  have := first j q (List.getElem?_eq_some_iff.2 ⟨by omega, at_j⟩) same
  omega

theorem slotOfAge_eq_none {n : Nat} (none : ∀ (j : Nat) (q : Peer), t.slots[j]? = some (some q) → q.age ≠ n) :
    t.slotOfAge n = .none := by
  rw [slotOfAge_eq, List.findIdx?_eq_none_iff]
  refine fun slot mem => Bool.eq_false_iff.2 fun holds => ?_
  obtain ⟨q, rfl, age⟩ := holdsAge_iff.1 holds
  obtain ⟨j, at_j⟩ := List.getElem?_of_mem mem
  exact none j q at_j age

/-- The entry to replace is the oldest, of age 1 or more, at the lowest slot. -/
theorem replaceable_of_oldest (at_i : t.slots[i]? = some (some p)) (low : 1 ≤ p.age) (high : p.age ≤ 2)
    (oldest : ∀ (j : Nat) (q : Peer), t.slots[j]? = some (some q) → q.age ≤ p.age ∧ (q.age = p.age → i ≤ j)) :
    t.replaceable = some i := by
  have first := slotOfAge_eq_some at_i fun j q at_j => (oldest j q at_j).2
  unfold replaceable
  rcases (by omega : p.age = 2 ∨ p.age = 1) with two | one
  · rw [← two, first]
  · rw [slotOfAge_eq_none (n := 2) fun j q at_j => by have := (oldest j q at_j).1; omega, ← one, first]

theorem replaceable_of_young (young : ∀ (j : Nat) (q : Peer), t.slots[j]? = some (some q) → q.age = 0) :
    t.replaceable = none := by
  unfold replaceable
  rw [slotOfAge_eq_none (n := 2) fun j q at_j => by simp [young j q at_j],
    slotOfAge_eq_none (n := 1) fun j q at_j => by simp [young j q at_j]]

/-- In a full table, an adding message takes the place of the oldest entry (R92). -/
theorem take_of_replaced {address : Byte} {m : PeerMessage} (absent : t.find address = none) (adds : m.adds = true)
    (full : t.freeSlot = none) (at_i : t.slots[i]? = some (some p)) (oldest : t.replaceable = some i) :
    t.take address m = { table := { t with slots := t.slots.set i (some ((Peer.new address).record m).1) }, full := some false
                         notices := p.removal ++ ((Peer.new address).record m).2 } := by
  have none := find_eq_none_iff.1 absent
  simp only [take, none, Option.bind_none, adds, Bool.not_true, full, oldest, create, entryAt_eq_some_iff.2 at_i,
    Option.map_some, Option.getD_some]
  rfl

/-- Where no entry may be replaced, an adding message is not recorded (R92). -/
theorem take_of_unplaced {address : Byte} {m : PeerMessage} (absent : t.find address = none) (adds : m.adds = true)
    (full : t.freeSlot = none) (young : t.replaceable = none) :
    t.take address m = { table := t, full := some true, notices := m.heard address } := by
  have none := find_eq_none_iff.1 absent
  simp only [take, none, Option.bind_none, adds, Bool.not_true, full, young]
  rfl

/-- What no entry holds is not withdrawn. -/
theorem take_of_unknown {address : Byte} {m : PeerMessage} (absent : t.find address = none) (adds : m.adds = false) :
    t.take address m = { table := t, full := none, notices := m.heard address } := by
  have none := find_eq_none_iff.1 absent
  simp only [take, none, Option.bind_none, adds, Bool.not_false]
  rfl

end PeerTable

/-- What an accepted and admitted message of an adding kind does to a full table (R92, R100). -/
theorem deliver_of_full {s : State} {source : Byte} {m : PeerMessage} (absent : s.peers.find source = none)
    (adds : m.adds = true) (full : s.peers.freeSlot = none) :
    (∀ (n : Nat) (p : Peer), s.peers.slots[n]? = some (some p) → 1 ≤ p.age → p.age ≤ 2 →
      (∀ (j : Nat) (q : Peer), s.peers.slots[j]? = some (some q) → q.age ≤ p.age ∧ (q.age = p.age → n ≤ j)) →
      RoomFrame (s.setPeers (deliver (s.peers.take source m) s).peers) (deliver (s.peers.take source m) s) ∧
        (deliver (s.peers.take source m) s).peers =
          { s.peers with slots := s.peers.slots.set n (some ((Peer.new source).record m).1) } ∧
        (deliver (s.peers.take source m) s).isRaised .peerTableFull = false) ∧
    ((∀ (j : Nat) (q : Peer), s.peers.slots[j]? = some (some q) → q.age = 0) →
      RoomFrame s (deliver (s.peers.take source m) s) ∧ (deliver (s.peers.take source m) s).peers = s.peers ∧
        (deliver (s.peers.take source m) s).isRaised .peerTableFull = true ∧
        (m.heard source = [] → deliver (s.peers.take source m) s = raiseAlert .peerTableFull s)) := by
  refine ⟨fun n p at_n low high oldest => ?_, fun young => ?_⟩
  · have replaced := PeerTable.take_of_replaced absent adds full at_n (PeerTable.replaceable_of_oldest at_n low high oldest)
    refine ⟨deliver_roomFrame _ s, ?_, isRaised_deliver (by rw [replaced]) s⟩
    rw [deliver_peers, replaced]
  · rw [PeerTable.take_of_unplaced absent adds full (PeerTable.replaceable_of_young young)]
    refine ⟨deliver_frame { table := s.peers, full := some true, notices := m.heard source } s, deliver_peers _ s,
      isRaised_deliver rfl s, fun silent => ?_⟩
    rw [silent]
    rfl

/-- Settles O30: a message that is not admitted or withdraws nothing has no effect, and a full table has the place of its oldest
entry or none. -/
theorem messagesWithoutAPlace : Obligations.MessagesWithoutAPlace := by
  refine ⟨fun s source dest => ⟨?_, ?_, ?_, ?_⟩, fun t source m absent adds full => ⟨?_, ?_⟩, ?_⟩
  · intro trunk claimClass demand minimum withdraw barred
    refine exec_of_ignored (effectOf_claim source dest trunk demand minimum claimClass withdraw s) ?_
    by_cases admitted : s.loader.settings.admitsClaim trunk.toNat demand.toNat minimum.toNat claimClass.toNat withdraw = true
    · rw [takePeer_of_admitted admitted]
      obtain ⟨on, same, range⟩ := (admitsClaim_iff _ _ _ _ _ _).1 admitted
      rcases barred with dropped | off | apart | ⟨rfl, absent⟩ | ⟨rfl, outside⟩
      · exact .inl dropped
      · exact absurd off on
      · exact absurd same apart
      · exact .inr (by rw [if_pos rfl, PeerTable.take_of_unknown absent rfl]; rfl)
      · have := range.resolve_left Bool.false_ne_true
        omega
    · exact .inr (takePeer_of_barred (Bool.not_eq_true _ ▸ admitted) _ _ s)
  · intro facade glare klux barred
    refine exec_of_ignored (effectOf_sunReading source dest facade glare klux s) ?_
    refine barred.imp_right fun outside => takePeer_of_barred ?_ _ _ s
    rw [Bool.eq_false_iff, ne_eq, admitsSun_iff]
    omega
  · intro facade count duration arrival barred
    refine exec_of_ignored (effectOf_feederStart source dest facade count duration arrival s) ?_
    refine barred.imp_right fun outside => takePeer_of_barred ?_ _ _ s
    rw [Bool.eq_false_iff, ne_eq, admitsStart_iff]
    omega
  · intro facade count barred
    refine exec_of_ignored (effectOf_feederEnd source dest facade count s) ?_
    refine barred.imp_right fun outside => takePeer_of_barred ?_ _ _ s
    rw [Bool.eq_false_iff, ne_eq, admitsEnd_iff]
    omega
  · intro i p at_i low high oldest
    rw [PeerTable.take_of_replaced absent adds full at_i (PeerTable.replaceable_of_oldest at_i low high oldest)]
    exact ⟨rfl, rfl, rfl⟩
  · intro young
    rw [PeerTable.take_of_unplaced absent adds full (PeerTable.replaceable_of_young young)]
    exact ⟨rfl, rfl⟩
  · intro s source dest i made accepts absent full kinds
    obtain ⟨m, taken, adds, recorded, heard⟩ : ∃ m : PeerMessage, exec i s = .next (deliver (s.peers.take source m) s) ∧
        m.adds = true ∧ ((Peer.new source).record m).1 = made ∧
        ((∀ facade count duration arrival, i ≠ .feederStart source dest facade count duration arrival) →
          m.heard source = []) := by
      rcases kinds with ⟨trunk, claimClass, demand, minimum, rfl, on, same, low, high, grade, rfl⟩ |
        ⟨facade, glare, klux, rfl, on, same, low, high, rfl⟩ |
        ⟨facade, count, duration, arrival, rfl, on, same, one, four, first, last, rfl⟩
      · exact ⟨_, (exec_of_message (effectOf_claim source dest trunk demand minimum claimClass false s) accepts).trans
          (congrArg _ (takePeer_of_admitted ((admitsClaim_iff _ _ _ _ _ _).2 ⟨on, same, .inr ⟨low, high, grade⟩⟩) _ _ s)),
          rfl, rfl, fun _ => rfl⟩
      · exact ⟨_, (exec_of_message (effectOf_sunReading source dest facade glare klux s) accepts).trans
          (congrArg _ (takePeer_of_admitted ((admitsSun_iff _ _ _ _).2 ⟨on, same, low, high⟩) _ _ s)), rfl, rfl, fun _ => rfl⟩
      · exact ⟨_, (exec_of_message (effectOf_feederStart source dest facade count duration arrival s) accepts).trans
          (congrArg _ (takePeer_of_admitted ((admitsStart_iff _ _ _ _).2 ⟨on, same, ⟨one, four⟩, first, last⟩) _ _ s)), rfl, rfl,
          fun other => absurd rfl (other facade count duration arrival)⟩
    obtain ⟨replaces, unplaced⟩ := deliver_of_full absent adds full
    refine ⟨fun n p at_n low high oldest => ⟨_, taken, recorded ▸ replaces n p at_n low high oldest⟩, fun young => ?_⟩
    obtain ⟨frame, table, raised, silent⟩ := unplaced young
    exact ⟨_, taken, frame, table, raised, fun other => silent (heard other)⟩

/-! ### The sweep and the guards (R97, R98) -/

namespace PeerTable

variable {t : PeerTable} {p : Peer}

theorem visit_of_empty (h : t.slots[t.pointer]? = some none) :
    t.visit = { table := { t with pointer := (t.pointer + 1) % 32 }, full := none, notices := [] } := by
  simp [visit, entryAt, h]

theorem visit_of_young (h : t.slots[t.pointer]? = some (some p)) (young : p.age < 2) :
    t.visit = { table := { t with pointer := (t.pointer + 1) % 32
                                  slots := t.slots.set t.pointer (some { p with age := p.age + 1 }) }
                full := none, notices := p.staleNotice } := by
  simp [visit, entryAt, h, young]

theorem visit_of_old (h : t.slots[t.pointer]? = some (some p)) (old : 2 ≤ p.age) :
    t.visit = { table := { t with pointer := (t.pointer + 1) % 32, slots := t.slots.set t.pointer none }
                full := some false, notices := p.removal } := by
  simp [visit, entryAt, h, Nat.not_lt.2 old]

theorem visit_keeps (t : PeerTable) : t.visit.table.pointer = (t.pointer + 1) % 32 ∧ t.visit.table.sweepTimer = t.sweepTimer := by
  unfold visit
  dsimp only
  split
  · exact ⟨rfl, rfl⟩
  · split <;> exact ⟨rfl, rfl⟩

theorem expire_of_found {peer : Byte} {i : Nat} (slot : t.slotOf peer = some i) (at_i : t.slots[i]? = some (some p)) :
    t.expire peer = { table := t.write i (some { p with feeder := none }), full := none, notices := [.feederRemoved peer] } := by
  simp [expire, slot, entryAt_eq_some_iff.2 at_i, write]

end PeerTable

/-- Settles O31: a visit by what its slot holds, a guard by the entry it belongs to. -/
theorem sweepsAgeAndGuardsExpire : Obligations.SweepsAgeAndGuardsExpire := by
  rintro s due n up rfl
  refine ⟨fun runs _ => ?_, fun peer p f found feeder guard => ?_⟩
  · have swept := exec_of_expiry (timer := (·.peers.sweepTimer)) (effectOf_sweepTimerExpiry s) up runs
    rw [runs, Option.getD_some] at swept
    refine ⟨_, swept, deliver_roomFrame _ _, ?_, ?_, fun empty => ?_, fun p at_p young => ?_, fun p at_p old => ⟨?_, ?_⟩⟩
    · exact (congrArg PeerTable.sweepTimer (deliver_peers _ _)).trans (PeerTable.visit_keeps _).2
    · exact (congrArg PeerTable.pointer (deliver_peers _ _)).trans (PeerTable.visit_keeps _).1
    · exact (congrArg PeerTable.slots (deliver_peers _ _)).trans
        (congrArg (·.table.slots) (PeerTable.visit_of_empty (t := { s.peers with sweepTimer := some (due + seconds 2) }) empty))
    · exact (congrArg PeerTable.slots (deliver_peers _ _)).trans (congrArg (·.table.slots)
        (PeerTable.visit_of_young (t := { s.peers with sweepTimer := some (due + seconds 2) }) at_p young))
    · exact (congrArg PeerTable.slots (deliver_peers _ _)).trans (congrArg (·.table.slots)
        (PeerTable.visit_of_old (t := { s.peers with sweepTimer := some (due + seconds 2) }) at_p old))
    · exact isRaised_deliver (congrArg TableWork.full
        (PeerTable.visit_of_old (t := { s.peers with sweepTimer := some (due + seconds 2) }) at_p old)) _
  · obtain ⟨i, slot, at_i⟩ := PeerTable.find_eq_some_iff.1 found
    have held := PeerTable.find_address found
    have runs : s.peers.guardOf peer = some due := by
      simp [PeerTable.guardOf, slot, PeerTable.entryAt_eq_some_iff.2 at_i, feeder, guard]
    have expires := exec_of_expiry (timer := (·.peers.guardOf peer)) (effect := fun _ s => deliver (s.peers.expire peer) s)
      (effectOf_guardExpiry peer s) up runs
    have table : (deliver (s.peers.expire peer) (s.setNow (max s.now due))).peers = s.peers.write i (some { p with feeder := none }) := by
      rw [deliver_peers, PeerTable.expire_of_found slot at_i]
    refine ⟨_, expires, deliver_roomFrame _ _, ?_⟩
    rw [State.setNow_peers, table]
    exact ⟨PeerTable.find_write_same slot held, fun a other =>
      PeerTable.find_write_self_other (q := { p with feeder := none }) at_i (fun r same => Option.some.inj same ▸ held) held other,
      rfl, rfl⟩

end Sys2Proof.Machine
end

section
/-!
PROOFS. The check of images and frames (R3, R12, R15), and the messages read back from their characters (R17, R182 to R184).
-/

namespace Sys2Proof.Machine

/-! ### The check (R12) -/

/-- Eight bits of the check. -/
def crcSteps (c : BitVec 16) : BitVec 16 := crcBit (crcBit (crcBit (crcBit (crcBit (crcBit (crcBit (crcBit c)))))))

theorem crcByte_eq (c : BitVec 16) (b : Byte) : crcByte c b = crcSteps (c ^^^ (b.setWidth 16 <<< 8)) := rfl

/-- The bit that leaves is seen in the lowest bit of what stays. -/
theorem crcBit_lowest (c : BitVec 16) : (crcBit c).getLsbD 0 = c.getLsbD 15 := by
  unfold crcBit
  split
  next top => rw [top]; simp
  next low => rw [Bool.eq_false_iff.2 low]; simp

theorem shiftLeft_one_inj {a b : BitVec 16} (shifted : a <<< 1 = b <<< 1) (top : a.getLsbD 15 = b.getLsbD 15) : a = b := by
  refine BitVec.eq_of_getLsbD_eq fun i hi => ?_
  by_cases last : i = 15
  · exact last ▸ top
  · have same := congrArg (fun v : BitVec 16 => v.getLsbD (i + 1)) shifted
    simpa only [BitVec.getLsbD_shiftLeft, show i + 1 < 16 by omega, decide_true, Bool.true_and, show ¬ i + 1 < 1 by omega,
      decide_false, Bool.not_false, Nat.add_sub_cancel] using same

theorem crcBit_injective : Function.Injective crcBit := by
  intro a b same
  have top : a.getLsbD 15 = b.getLsbD 15 := by rw [← crcBit_lowest, same, crcBit_lowest]
  refine shiftLeft_one_inj ?_ top
  unfold crcBit at same
  rw [top] at same
  split at same
  · exact (BitVec.xor_left_inj _).1 same
  · exact same

theorem crcSteps_injective : Function.Injective crcSteps := by
  have one := crcBit_injective
  exact one.comp (one.comp (one.comp (one.comp (one.comp (one.comp (one.comp one))))))

/-- A byte in the low half is shifted out whole. -/
theorem crcSteps_low (b : Byte) : crcSteps (b.setWidth 16) = b.setWidth 16 <<< 8 := by
  have step (k : Nat) (hk : k ≤ 7) : crcBit (b.setWidth 16 <<< k) = b.setWidth 16 <<< (k + 1) := by
    have top : (b.setWidth 16 <<< k).getLsbD 15 = false := by
      rw [BitVec.getLsbD_shiftLeft, BitVec.getLsbD_setWidth, BitVec.getLsbD_of_ge b (15 - k) (by omega), Bool.and_false,
        Bool.and_false]
    rw [crcBit, if_neg (Bool.eq_false_iff.1 top), BitVec.shiftLeft_add]
  have first : b.setWidth 16 = b.setWidth 16 <<< 0 := (BitVec.shiftLeft_zero _).symm
  unfold crcSteps
  conv_lhs => rw [first]
  rw [step 0 (by omega), step 1 (by omega), step 2 (by omega), step 3 (by omega), step 4 (by omega), step 5 (by omega),
    step 6 (by omega), step 7 (by omega)]

theorem crcSteps_zero : crcSteps 0 = 0 := by decide

theorem crcSteps_eq_zero_iff (c : BitVec 16) : crcSteps c = 0 ↔ c = 0 :=
  ⟨fun h => crcSteps_injective (h.trans crcSteps_zero.symm), fun h => h ▸ crcSteps_zero⟩

theorem wordOf_eq (high low : Byte) : wordOf high low = high.setWidth 16 <<< 8 ^^^ low.setWidth 16 := by
  refine BitVec.eq_of_getLsbD_eq fun i hi => ?_
  simp only [wordOf, BitVec.getLsbD_append, BitVec.getLsbD_xor, BitVec.getLsbD_shiftLeft, BitVec.getLsbD_setWidth]
  by_cases below : i < 8
  · simp [below, hi]
  · simp [below, hi, show i - 8 < 16 by omega, BitVec.getLsbD_of_ge low i (by omega)]

/-- Two bytes bring the check to 0 exactly where they are it (R12). -/
theorem crcByte_crcByte_eq_zero_iff (c : BitVec 16) (high low : Byte) :
    crcByte (crcByte c high) low = 0 ↔ wordOf high low = c := by
  rw [crcByte_eq, crcByte_eq, crcSteps_eq_zero_iff, xor_eq_zero_iff, ← crcSteps_low low, crcSteps_injective.eq_iff, wordOf_eq]
  constructor
  · intro h
    rw [← h, BitVec.xor_comm c, ← BitVec.xor_assoc, BitVec.xor_self, BitVec.zero_xor]
  · intro h
    rw [← h, BitVec.xor_comm, ← BitVec.xor_assoc, BitVec.xor_self, BitVec.zero_xor]

theorem crc_append_eq_zero_iff (covered : List Byte) (high low : Byte) :
    crc (covered ++ [high, low]) = 0 ↔ wordOf high low = crc covered := by
  rw [crc, List.foldl_append]
  exact crcByte_crcByte_eq_zero_iff _ high low

/-! ### Frames (R11, R15) -/

theorem highByte_wordOf (high low : Byte) : highByte (wordOf high low) = high := by
  refine BitVec.eq_of_getLsbD_eq fun i hi => ?_
  rw [highByte, wordOf, BitVec.getLsbD_extractLsb', BitVec.getLsbD_append]
  simp only [hi, decide_true, Bool.true_and, show ¬ 8 + i < 8 by omega, if_false, Nat.add_sub_cancel_left]

theorem lowByte_wordOf (high low : Byte) : lowByte (wordOf high low) = low := by
  refine BitVec.eq_of_getLsbD_eq fun i hi => ?_
  rw [lowByte, wordOf, BitVec.getLsbD_extractLsb', BitVec.getLsbD_append]
  simp only [hi, decide_true, Bool.true_and, Nat.zero_add, if_true]

theorem wordOf_bytes (w : Word) : wordOf (highByte w) (lowByte w) = w := by
  refine BitVec.eq_of_getLsbD_eq fun i hi => ?_
  simp only [wordOf, highByte, lowByte, BitVec.getLsbD_append, BitVec.getLsbD_extractLsb']
  by_cases below : i < 8
  · simp [below]
  · simp [below, show i - 8 < 8 by omega, show 8 + (i - 8) = i by omega]

/-- A run of characters is closed by its last two exactly where they are the check of the others (R12). -/
theorem closeFrame_eq_iff (covered : List Byte) (high low : Byte) :
    closeFrame covered = covered ++ [high, low] ↔ wordOf high low = crc covered := by
  unfold closeFrame
  constructor
  · intro h
    simp only [List.append_cancel_left_eq, List.cons.injEq, and_true] at h
    rw [← h.1, ← h.2, wordOf_bytes]
  · intro h
    rw [← h, highByte_wordOf, lowByte_wordOf]

theorem byte_toNat {n : Nat} (h : n < 256) : (byte n).toNat = n := by
  simp [byte, Nat.mod_eq_of_lt h]

theorem byte_eq_of_toNat {b : Byte} {n : Nat} (h : b.toNat = n) : b = byte n := by
  rw [← h, byte, BitVec.ofNat_toNat, BitVec.setWidth_eq]

/-- A good frame has six fields, its length at most 40 and as its body's, closed by their check (R11, R12, R15). -/
theorem judgeFrame_eq_some_iff (characters : List Byte) (r : Received) :
    judgeFrame characters = some r ↔ r.body.length ≤ 40 ∧
      ∃ high low, characters = [r.dest, r.source, r.code, byte r.body.length] ++ r.body ++ [high, low] ∧
        wordOf high low = crc ([r.dest, r.source, r.code, byte r.body.length] ++ r.body) := by
  constructor
  · intro judged
    unfold judgeFrame at judged
    split at judged
    next dest source code length rest =>
      split at judged
      next good =>
        obtain ⟨-, short, total, closed⟩ := good
        obtain rfl := Option.some.inj judged
        have sized : rest.length = length.toNat + 2 := by
          simp only [List.length_cons] at total
          omega
        have bodySize : (rest.take length.toNat).length = length.toNat := by simp [sized]
        obtain ⟨high, low, tail⟩ : ∃ high low, rest.drop length.toNat = [high, low] :=
          List.length_eq_two.1 (by simp [sized])
        have whole : rest = rest.take length.toNat ++ [high, low] := by rw [← tail, List.take_append_drop]
        have same : length = byte (rest.take length.toNat).length := by
          rw [bodySize]
          exact byte_eq_of_toNat rfl
        have covered : (dest :: source :: code :: length :: rest).take (4 + length.toNat) =
            [dest, source, code, byte (rest.take length.toNat).length] ++ rest.take length.toNat := by
          rw [← same, Nat.add_comm]
          rfl
        have spelled : dest :: source :: code :: length :: rest =
            [dest, source, code, byte (rest.take length.toNat).length] ++ rest.take length.toNat ++ [high, low] := by
          rw [← same, List.append_assoc, ← whole]
          rfl
        refine ⟨by simpa [bodySize] using short, high, low, spelled, ?_⟩
        rw [covered, spelled] at closed
        exact (closeFrame_eq_iff _ _ _).1 closed
      next => exact nomatch judged
    next => exact nomatch judged
  · obtain ⟨dest, source, code, body⟩ := r
    rintro ⟨short, high, low, rfl, check⟩
    have size : (byte body.length).toNat = body.length := byte_toNat (by simp at short; omega)
    show judgeFrame (dest :: source :: code :: byte body.length :: (body ++ [high, low])) = _
    have covered : (dest :: source :: code :: byte body.length :: (body ++ [high, low])).take (4 + body.length) =
        [dest, source, code, byte body.length] ++ body := by
      rw [Nat.add_comm]
      simp
    rw [judgeFrame, size, if_pos, List.take_left]
    refine ⟨by simp, short, by simp; omega, ?_⟩
    rw [covered, (closeFrame_eq_iff _ _ _).2 check]
    simp

/-- The image's last two bytes are its check exactly where the check of the whole image is 0 (R3). -/
theorem imageGood_iff (image : Vector Byte 48) : imageGood image = true ↔ crc image.toList = 0 := by
  have size : image.toList.length = 48 := by simp
  have split : image.toList = image.toList.take 46 ++ [image.toList.getD 46 0, image.toList.getD 47 0] := by
    conv_lhs => rw [← List.take_append_drop 46 image.toList]
    rw [List.append_cancel_left_eq, List.drop_eq_getElem_cons (by omega), List.drop_eq_getElem_cons (by omega),
      List.drop_of_length_le (by omega), List.getD_eq_getElem _ _ (by omega), List.getD_eq_getElem _ _ (by omega)]
  rw [imageGood, beq_iff_eq, eq_comm, ← crc_append_eq_zero_iff, ← split]

/-- Settles O6: two bytes bring the check to 0 where they are it, and a good frame is six fields closed so. -/
theorem checkClosesFramesAndImage : Obligations.CheckClosesFramesAndImage :=
  ⟨⟨crc_append_eq_zero_iff, imageGood_iff, by simp [crc, crcByte, crcBit]⟩, judgeFrame_eq_some_iff⟩

/-! ### Messages read back (R17, R183) -/

theorem judgeFrame_close {dest source code : Byte} {body : List Byte} (short : body.length ≤ 40) :
    judgeFrame (closeFrame (coveredBytes dest source code body)) =
      some { dest := dest, source := source, code := code, body := body } := by
  rw [judgeFrame_eq_some_iff]
  exact ⟨short, highByte _, lowByte _, rfl, wordOf_bytes _⟩

/-- The flags of a SESSION OFFER (R183). -/
theorem offerFlags_read (mode : Mode) (weekly report : Bool) :
    modeOf ((byte (modeCode mode + 4 * flag weekly + 8 * flag report)).extractLsb' 0 2) = mode ∧
      (byte (modeCode mode + 4 * flag weekly + 8 * flag report)).getLsbD 2 = weekly ∧
      (byte (modeCode mode + 4 * flag weekly + 8 * flag report)).getLsbD 3 = report := by
  cases mode <;> cases weekly <;> cases report <;> decide

/-- The presence bits and the mode of a SESSION AMEND (R183). -/
def amendFlags (stop expected mode lead : Bool) (code : Nat) : Byte :=
  byte (flag stop + 2 * flag expected + 4 * flag mode + 8 * flag lead + 16 * code)

theorem amendFlags_bits : ∀ (stop expected mode lead : Bool) (code : Fin 4),
    (amendFlags stop expected mode lead code).getLsbD 0 = stop ∧ (amendFlags stop expected mode lead code).getLsbD 1 = expected ∧
      (amendFlags stop expected mode lead code).getLsbD 2 = mode ∧ (amendFlags stop expected mode lead code).getLsbD 3 = lead ∧
      (amendFlags stop expected mode lead code).extractLsb' 4 2 = BitVec.ofNat 2 code := by decide

theorem modeOf_code (mode : Mode) : modeOf (BitVec.ofNat 2 (modeCode mode)) = mode := by cases mode <;> decide

theorem modeCode_lt (mode : Mode) : modeCode mode < 4 := by cases mode <;> decide

theorem presentIf_getD {α : Type} (v : Option α) (d : α) : presentIf v.isSome (v.getD d) = v := by cases v <;> rfl

section Readings

variable (dest source : Byte) (now : Nat)

theorem readMessage_timeMark (m1 m0 second : Byte) :
    readMessage { dest := dest, source := source, code := 0x01, body := [m1, m0, second] } now =
      some (.timeMark source dest (wordOf m1 m0) second) := rfl

theorem readMessage_sessionOffer (i1 i0 s1 s0 e1 e0 f h1 h0 lead : Byte) :
    readMessage { dest := dest, source := source, code := 0x02, body := [i1, i0, s1, s0, e1, e0, f, h1, h0, lead] } now =
      some (.sessionOffer source dest (wordOf i1 i0) (wordOf s1 s0) (wordOf e1 e0) (modeOf (f.extractLsb' 0 2)) (f.getLsbD 2)
        (f.getLsbD 3) (wordOf h1 h0) lead) := rfl

theorem readMessage_sessionAmend (i1 i0 f e1 e0 h1 h0 lead : Byte) :
    readMessage { dest := dest, source := source, code := 0x03, body := [i1, i0, f, e1, e0, h1, h0, lead] } now =
      some (.sessionAmend source dest (wordOf i1 i0) (presentIf (f.getLsbD 0) (wordOf e1 e0))
        (presentIf (f.getLsbD 1) (wordOf h1 h0)) (presentIf (f.getLsbD 2) (modeOf (f.extractLsb' 4 2)))
        (presentIf (f.getLsbD 3) lead)) := rfl

theorem readMessage_sessionCancel (i1 i0 f : Byte) :
    readMessage { dest := dest, source := source, code := 0x04, body := [i1, i0, f] } now =
      some (.sessionCancel source dest (wordOf i1 i0) (if f.getLsbD 0 then .series else .occurrence)) := rfl

theorem readMessage_claim (trunk d1 d0 m1 m0 claimClass f : Byte) :
    readMessage { dest := dest, source := source, code := 0x09, body := [trunk, d1, d0, m1, m0, claimClass, f] } now =
      some (.claim source dest trunk (wordOf d1 d0) (wordOf m1 m0) claimClass (f.getLsbD 0)) := rfl

end Readings

theorem byte_flag_getLsbD (b : Bool) : (byte (flag b)).getLsbD 0 = b := by cases b <;> decide

/-- A message's body spells its command (R183). -/
theorem readMessage_messageBody {i : Instr} {dest source code : Byte} {body : List Byte} {now : Nat}
    (spelled : messageBody i = some (dest, source, code, body))
    (arrives : ∀ source dest facade count duration arrival,
      i = .feederStart source dest facade count duration arrival → arrival = now) :
    body.length ≤ 40 ∧ readMessage { dest := dest, source := source, code := code, body := body } now = some i := by
  cases i <;> simp only [messageBody, reduceCtorEq, Option.some.injEq, Prod.mk.injEq] at spelled
  all_goals
    obtain ⟨rfl, rfl, rfl, rfl⟩ := spelled
    refine ⟨by simp, ?_⟩
  case timeMark minute second => rw [readMessage_timeMark, wordOf_bytes]
  case sessionOffer id start stop mode weekly report expected lead =>
    obtain ⟨readMode, readWeekly, readReport⟩ := offerFlags_read mode weekly report
    rw [readMessage_sessionOffer, readMode, readWeekly, readReport, wordOf_bytes, wordOf_bytes, wordOf_bytes, wordOf_bytes]
  case sessionAmend id stop expected mode lead =>
    have small : (mode.map modeCode).getD 0 < 4 := by
      cases mode with
      | none => decide
      | some m => exact modeCode_lt m
    obtain ⟨readStop, readExpected, readMode, readLead, readCode⟩ :=
      amendFlags_bits stop.isSome expected.isSome mode.isSome lead.isSome ⟨_, small⟩
    simp only [amendFlags] at readStop readExpected readMode readLead readCode
    have modes : presentIf mode.isSome (modeOf (BitVec.ofNat 2 ((mode.map modeCode).getD 0))) = mode := by
      cases mode with
      | none => rfl
      | some m => exact congrArg some (modeOf_code m)
    rw [readMessage_sessionAmend, readStop, readExpected, readMode, readLead, readCode, modes, wordOf_bytes, wordOf_bytes,
      wordOf_bytes, presentIf_getD, presentIf_getD, presentIf_getD]
  case sessionCancel id scope =>
    rw [readMessage_sessionCancel, byte_flag_getLsbD, wordOf_bytes]
    cases scope <;> rfl
  case claim trunk demand minimum claimClass withdraw =>
    rw [readMessage_claim, byte_flag_getLsbD, wordOf_bytes, wordOf_bytes]
  case feederStart facade count duration arrival =>
    rw [arrives _ _ _ _ _ _ rfl]
    rfl
  all_goals rfl

/-- Settles O7: the frame is judged good, its body read back, and the command routed where the station accepts it. -/
theorem messagesAreReadAsTheyAreSpelled : Obligations.MessagesAreReadAsTheyAreSpelled := by
  intro s i dest source code body spelled accepts arrives
  obtain ⟨short, read⟩ := readMessage_messageBody spelled arrives
  simp only [State.route, judgeFrame_close short, read]
  rw [if_pos accepts]

end Sys2Proof.Machine
end

section
/-!
PROOFS. Characters on the line: their bits (R13), what the receiver makes of them (R14), the read-back of the station's own with its
reports (R23, R25, R157), collisions (R23, R24), the quiet event and the backoff (R13, R14, R22, R24).
-/

namespace Sys2Proof.Machine

/-! ### The bits of a character (R13) -/

theorem dataBits_getLsbD (bits : LineCharacter) {i : Nat} (h : i < 8) : (dataBits bits).getLsbD i = bits.getLsbD (1 + i) := by
  rw [dataBits, BitVec.getLsbD_extractLsb', decide_eq_true h, Bool.true_and]

theorem dataBits_eq_iff (bits : LineCharacter) (v : Byte) :
    dataBits bits = v ↔ ∀ i, i < 8 → bits.getLsbD (1 + i) = v.getLsbD i := by
  constructor
  · rintro rfl i h
    rw [dataBits_getLsbD bits h]
  · intro h
    exact BitVec.eq_of_getLsbD_eq fun i hi => (dataBits_getLsbD bits hi).trans (h i hi)

/-- A parity bit makes the number of ones even exactly where it is the parity of the others. -/
theorem parity_even : ∀ b1 b2 b3 b4 b5 b6 b7 b8 b9 : Bool,
    (b9 == ((((((((false ^^ b1) ^^ b2) ^^ b3) ^^ b4) ^^ b5) ^^ b6) ^^ b7) ^^ b8)) =
      decide ([b1, b2, b3, b4, b5, b6, b7, b8, b9].countP id % 2 = 0) := by decide

theorem parityRight_eq (bits : LineCharacter) :
    parityRight bits = decide ((List.range 9).countP (fun i => bits.getLsbD (1 + i)) % 2 = 0) := by
  have ones : (List.range 9).countP (fun i => bits.getLsbD (1 + i)) =
      ([0, 1, 2, 3, 4, 5, 6, 7, 8].map (fun i => bits.getLsbD (1 + i))).countP id := by
    rw [List.countP_map]
    rfl
  have parity : evenParity (dataBits bits) = [0, 1, 2, 3, 4, 5, 6, 7].foldl (fun p i => p ^^ bits.getLsbD (1 + i)) false :=
    List.foldl_ext _ _ _ fun p i mem => by rw [dataBits_getLsbD bits (List.mem_range.1 mem)]
  rw [parityRight, ones, parity]
  exact parity_even _ _ _ _ _ _ _ _ _

theorem readCharacter_eq_whole_iff (bits : LineCharacter) (v : Byte) :
    readCharacter bits = .whole v ↔ stopIdle bits = true ∧ parityRight bits = true ∧ dataBits bits = v := by
  unfold readCharacter
  split
  next h =>
    rw [Bool.and_eq_true] at h
    simp [h]
  next h =>
    rw [Bool.and_eq_true] at h
    simp only [reduceCtorEq, false_iff]
    exact fun ⟨stop, parity, _⟩ => h ⟨stop, parity⟩

theorem readCharacter_eq_error_iff (bits : LineCharacter) :
    readCharacter bits = .framingError ↔ stopIdle bits = false ∨ parityRight bits = false := by
  unfold readCharacter
  rw [← Bool.and_eq_false_iff]
  split <;> simp_all

theorem characterOf_getLsbD (v : Byte) (i : Nat) :
    (characterOf v).getLsbD i =
      if i < 1 then false else if i < 9 then v.getLsbD (i - 1) else if i < 10 then evenParity v else decide (i = 10) := by
  unfold characterOf
  rw [BitVec.getLsbD_append, BitVec.getLsbD_append, BitVec.getLsbD_append]
  by_cases h0 : i < 1
  · simp [h0]
  · by_cases h8 : i < 9
    · simp [h0, show i - 1 < 8 by omega, h8]
    · by_cases h9 : i < 10
      · obtain rfl : i = 9 := by omega
        simp
      · by_cases h10 : i = 10
        · subst h10
          simp
        · simp [h0, h8, h9, h10, show ¬ i - 1 < 8 by omega, show ¬ i - 1 - 8 < 1 by omega]
          omega

theorem dataBits_characterOf (v : Byte) : dataBits (characterOf v) = v := by
  rw [dataBits_eq_iff]
  intro i hi
  rw [characterOf_getLsbD, if_neg (by omega), if_pos (by omega), Nat.add_sub_cancel_left]

theorem readCharacter_characterOf (v : Byte) : readCharacter (characterOf v) = .whole v := by
  rw [readCharacter_eq_whole_iff, stopIdle, parityRight, dataBits_characterOf, characterOf_getLsbD, characterOf_getLsbD]
  simp

theorem hasStart_characterOf (v : Byte) : hasStart (characterOf v) = true := by
  rw [hasStart, characterOf_getLsbD]
  rfl

/-- A character received whole, begun by its start bit, is the one the station would send for its byte. -/
theorem eq_characterOf {bits : LineCharacter} {v : Byte} (whole : readCharacter bits = .whole v) (start : bits.getLsbD 0 = false) :
    bits = characterOf v := by
  obtain ⟨stop, parity, data⟩ := (readCharacter_eq_whole_iff _ _).1 whole
  refine BitVec.eq_of_getLsbD_eq fun i hi => ?_
  rw [characterOf_getLsbD]
  split
  next h0 =>
    obtain rfl : i = 0 := by omega
    exact start
  · split
    next h8 =>
      rw [← data, dataBits_getLsbD bits (by omega), show 1 + (i - 1) = i by omega]
    · split
      next h9 =>
        obtain rfl : i = 9 := by omega
        rw [parityRight, beq_iff_eq, data] at parity
        exact parity
      · obtain rfl : i = 10 := by omega
        exact stop

/-! ### Reports on a FEEDER START (R157) -/

theorem feederReport_of_awaited {s : State} {group drives tag : Nat} (awaited : s.blind.hand = .awaiting group drives tag)
    (sent : Bool) : feederReport sent tag s =
      if sent then openWindow group drives s else settleStage stageRounds true (backOff group s) := by
  rw [feederReport, awaited]
  exact if_pos rfl

theorem feederReport_of_other {s : State} {tag : Nat} (other : ∀ group drives, s.blind.hand ≠ .awaiting group drives tag)
    (sent : Bool) : feederReport sent tag s = orphanReport sent tag s := by
  unfold feederReport
  split
  next group drives awaited hand => exact if_neg fun same => other group drives (hand.trans (by rw [same]))
  all_goals rfl

theorem orphanReport_of_none {s : State} {tag : Nat} (none : ∀ o ∈ s.blind.orphans, o.tag ≠ tag) (sent : Bool) :
    orphanReport sent tag s = s := by
  rw [orphanReport, List.find?_eq_none.2 (by simpa using none)]

theorem orphanReport_of_held {s : State} {tag : Nat} {before later : List Orphan} {o : Orphan}
    (held : s.blind.orphans = before ++ o :: later) (own : o.tag = tag) (first : ∀ x ∈ before, x.tag ≠ tag) (sent : Bool) :
    orphanReport sent tag s =
      if sent then offerFeederEnd o.drives (s.setBlind { s.blind with orphans := s.blind.orphans.filter (·.tag != tag) })
      else s.setBlind { s.blind with orphans := s.blind.orphans.filter (·.tag != tag) } := by
  have found : s.blind.orphans.find? (·.tag == tag) = some o := by
    rw [held, List.find?_append, List.find?_eq_none.2 (by simpa using first), Option.none_or, List.find?_cons_of_pos (by simpa using own)]
  rw [orphanReport, found]
  rfl

/-! ### Characters taken (R13, R14, R23) -/

theorem lineCharacter_exec {s : State} {bits : LineCharacter} (up : s.started = true) (start : bits.getLsbD 0 = false) :
    exec (.lineCharacter bits) s = .next (takeCharacter (readCharacter bits) s) := by
  rw [exec_of_started (effectOf_lineCharacter bits s) up, takeBits, if_pos (by rw [hasStart, start]; rfl)]

theorem takeCharacter_of_listening {s : State} (waits : ∀ f n, s.bus.transmitter ≠ .sending f n) (symbol : LineSymbol) :
    takeCharacter symbol s = s.setBus ((s.bus.seeCharacter s.now).collect symbol) := by
  unfold takeCharacter withBus
  dsimp only
  have kept : ((s.bus.seeCharacter s.now).collect symbol).transmitter = s.bus.transmitter := by
    unfold BusPort.collect
    split <;> rfl
  rw [State.setBus_bus, kept]
  split
  next f n sending => exact absurd sending (waits f n)
  all_goals rfl

@[simp] theorem collect_transmitter (b : BusPort) (symbol : LineSymbol) : (b.collect symbol).transmitter = b.transmitter := by
  unfold BusPort.collect
  split <;> rfl

@[simp] theorem collect_attempts (b : BusPort) (symbol : LineSymbol) : (b.collect symbol).attempts = b.attempts := by
  unfold BusPort.collect
  split <;> rfl

@[simp] theorem collect_queue (b : BusPort) (symbol : LineSymbol) : (b.collect symbol).queue = b.queue := by
  unfold BusPort.collect
  split <;> rfl

@[simp] theorem collect_hold (b : BusPort) (symbol : LineSymbol) : (b.collect symbol).hold = b.hold := by
  unfold BusPort.collect
  split <;> rfl

@[simp] theorem collect_line (b : BusPort) (symbol : LineSymbol) : (b.collect symbol).line = b.line := by
  unfold BusPort.collect
  split <;> rfl

@[simp] theorem collect_quietTimer (b : BusPort) (symbol : LineSymbol) : (b.collect symbol).quietTimer = b.quietTimer := by
  unfold BusPort.collect
  split <;> rfl

theorem takeCharacter_of_sending {s : State} {f : Frame} {n : Nat} (sending : s.bus.transmitter = .sending f n)
    (symbol : LineSymbol) :
    takeCharacter symbol s = readBack f n symbol (s.setBus ((s.bus.seeCharacter s.now).collect symbol)) := by
  unfold takeCharacter withBus
  dsimp only
  rw [State.setBus_bus, collect_transmitter, show (s.bus.seeCharacter s.now).transmitter = _ from sending]

theorem BusPort.drive_of_busy {b : BusPort} (busy : b.line = .busy) : b.drive = { b with quietTimer := none } := by
  rw [drive, ← busy]

section ReadBack

variable {s : State} {address : Byte} {f : Frame} {n : Nat} {symbol : LineSymbol}

theorem readBack_of_more {v : Byte} (own : s.loader.address = some address) (equal : (f.characters address)[n]? = some v)
    (more : n + 1 < (f.characters address).length) :
    readBack f n (.whole v) s = withBus (fun b => { b.drive with transmitter := .sending f (n + 1) }) s := by
  simp only [readBack, own, Option.getD_some, equal, Option.map_some, if_true]
  exact if_neg (by omega)

theorem readBack_of_last {v : Byte} (own : s.loader.address = some address) (equal : (f.characters address)[n]? = some v)
    (last : n + 1 = (f.characters address).length) : readBack f n (.whole v) s = endFrame true f s := by
  simp only [readBack, own, Option.getD_some, equal, Option.map_some, if_true]
  exact if_pos last

theorem readBack_of_different (own : s.loader.address = some address)
    (different : ∀ v, (f.characters address)[n]? = some v → symbol ≠ .whole v) : readBack f n symbol s = collide f s := by
  simp only [readBack, own, Option.getD_some]
  rw [if_neg]
  intro equal
  obtain ⟨v, at_n, same⟩ := Option.map_eq_some_iff.1 equal
  exact different v at_n same.symm

end ReadBack

theorem endFrame_of_other {f : Frame} (other : f.kind ≠ .feederStart) (sent : Bool) (s : State) :
    endFrame sent f s = s.setBus (s.bus.endFrame f) := if_neg other

theorem endFrame_of_start {f : Frame} (start : f.kind = .feederStart) (sent : Bool) (s : State) :
    endFrame sent f s = feederReport sent f.tag (s.setBus (s.bus.endFrame f)) := if_pos start

theorem BusPort.endFrame_of_start {f : Frame} (start : f.kind = .feederStart) (b : BusPort) :
    b.endFrame f = { b with transmitter := .idle, attempts := 0 } := by
  unfold endFrame
  rw [start, show (Kind.feederStart != Kind.identity) = true from rfl, Bool.and_true]

theorem characters_sending {s : State} {address v : Byte} {f : Frame} {n : Nat} (own : s.loader.address = some address)
    (sending : s.bus.transmitter = .sending f n) (at_n : (f.characters address)[n]? = some v) :
    s.sending = some (characterOf v) := by
  simp [State.sending, sending, own, at_n]

theorem filter_orphans {before later : List Orphan} {o : Orphan} {tag : Nat} (own : o.tag = tag)
    (first : ∀ x ∈ before, x.tag ≠ tag) (last : ∀ x ∈ later, x.tag ≠ tag) :
    (before ++ o :: later).filter (·.tag != tag) = before ++ later := by
  rw [List.filter_append, List.filter_cons_of_neg (by simp [own]), List.filter_eq_self.2 (by simpa using first),
    List.filter_eq_self.2 (by simpa using last)]

/-- Settles O8: the bits by the counting of ones, the receiver by what it listens for, the read-back by how many characters stay. -/
theorem charactersAreTakenFromTheLine : Obligations.CharactersAreTakenFromTheLine := by
  refine ⟨?_, ?_, ?_, ?_, ?_⟩
  · rintro bits v ones rfl
    have even : ∀ n : Nat, ¬ n % 2 = 0 ↔ n % 2 = 1 := by omega
    refine ⟨?_, ?_, readCharacter_characterOf v, by simpa [hasStart] using hasStart_characterOf v, eq_characterOf⟩
    · rw [readCharacter_eq_whole_iff, parityRight_eq, dataBits_eq_iff, decide_eq_true_iff, and_comm (b := ∀ _, _)]
      rfl
    · rw [readCharacter_eq_error_iff, parityRight_eq, decide_eq_false_iff_not, even]
      rfl
  · intro s bits none
    have idle : takeBits bits s = s := if_neg (by rw [hasStart, none]; exact Bool.false_ne_true)
    rw [exec_eq_effectOf, effectOf_lineCharacter, State.whileStarted, idle, ite_self]
  · rintro s bits symbol up start rfl waits
    rw [lineCharacter_exec up start, takeCharacter_of_listening waits]
    refine ⟨fun v listens whole => ?_, fun listens error => ?_, fun hunts => ?_⟩
    · rw [whole]
      simp [BusPort.collect, BusPort.seeCharacter, listens]
    · rw [error]
      simp [BusPort.collect, BusPort.seeCharacter, listens]
    · cases readCharacter bits <;> simp [BusPort.collect, BusPort.seeCharacter, hunts]
  · intro s address v f n up own sending at_n
    have start : (characterOf v).getLsbD 0 = false := by simpa [hasStart] using hasStart_characterOf v
    rw [lineCharacter_exec up start, readCharacter_characterOf, takeCharacter_of_sending sending]
    refine ⟨characters_sending own sending at_n, fun more => ?_, fun last other => ?_⟩
    · rw [readBack_of_more (by exact own) at_n more, withBus, State.setBus_bus, State.setBus_setBus,
        BusPort.drive_of_busy (collect_line _ _)]
    · rw [readBack_of_last (by exact own) at_n last, endFrame_of_other other, State.setBus_bus, State.setBus_setBus,
        BusPort.endFrame, collect_hold]
      rfl
  · rintro s u address v f n up own sending at_n last kind rfl
    have start : (characterOf v).getLsbD 0 = false := by simpa [hasStart] using hasStart_characterOf v
    rw [lineCharacter_exec up start, readCharacter_characterOf, takeCharacter_of_sending sending,
      readBack_of_last (by exact own) at_n last, endFrame_of_start kind, BusPort.endFrame_of_start kind]
    refine ⟨fun group drives awaited => ?_, fun other none => ?_, fun other before o later held tag first rest => ?_⟩
    · rw [feederReport_of_awaited (by exact awaited)]
      rfl
    · rw [feederReport_of_other (by exact other), orphanReport_of_none (by exact none)]
      rfl
    · rw [feederReport_of_other (by exact other), orphanReport_of_held (by exact held) tag first, if_pos rfl]
      simp only [State.setBus_blind, held, filter_orphans tag first rest]
      rfl

end Sys2Proof.Machine
end

section
/-!
PROOFS. The numbers of the drives in a state, and the end of an event at which no drive waits (R155, R159); with it the collisions
(R23, R24, R157), the quiet event and the backoff (R13, R14, R22, R24).
-/

namespace Sys2Proof.Machine

/-! ### Numbers of elements -/

section Numbers

variable {α : Type} {xs : List α} {p : α → Bool} {n : Nat}

theorem mem_numbersOf : n ∈ numbersOf xs p ↔ ∃ x, pick? xs n = some x ∧ p x = true := by
  cases n with
  | zero => simp [numbersOf, pick?]
  | succ i =>
    simp only [numbersOf, List.mem_map, List.mem_filter, List.mem_range, Nat.add_right_cancel_iff, exists_eq_right, pick?]
    cases h : xs[i]? with
    | none => simp
    | some x => simp [(List.getElem?_eq_some_iff.1 h).1]

theorem numbersOf_eq_nil_iff : numbersOf xs p = [] ↔ ∀ x ∈ xs, p x = false := by
  rw [List.eq_nil_iff_forall_not_mem]
  constructor
  · intro h x mem
    obtain ⟨i, at_i⟩ := List.getElem?_of_mem mem
    by_contra holds
    exact h (i + 1) (mem_numbersOf.2 ⟨x, at_i, by simpa using holds⟩)
  · intro h n mem
    obtain ⟨x, at_n, holds⟩ := mem_numbersOf.1 mem
    simp [h x (mem_of_pick? at_n)] at holds

theorem numbersOf_cons (x : α) (xs : List α) (p : α → Bool) :
    numbersOf (x :: xs) p = (if p x then [1] else []) ++ (numbersOf xs p).map (· + 1) := by
  unfold numbersOf
  rw [List.length_cons, List.range_succ_eq_map, List.filter_cons, List.filter_map, List.map_map]
  have tail : (fun i => (((x :: xs)[i]?).map p).getD false) ∘ Nat.succ = fun i => (xs[i]?.map p).getD false := by
    funext i
    simp
  rw [tail]
  cases holds : p x <;> simp [holds]

theorem length_numbersOf (xs : List α) (p : α → Bool) : (numbersOf xs p).length = xs.countP p := by
  induction xs with
  | nil => rfl
  | cons x xs ih =>
    rw [numbersOf_cons, List.length_append, List.length_map, ih, List.countP_cons]
    split <;> simp [Nat.add_comm]

theorem nodup_numbersOf (xs : List α) (p : α → Bool) : (numbersOf xs p).Nodup :=
  (List.nodup_range.filter _).map fun _ _ => Nat.succ_inj.1

end Numbers

/-! ### An event at which no drive waits -/

theorem inState_eq_nil_iff (b : Blind) (state : DriveState) : b.inState state = [] ↔ ∀ d ∈ b.drives, d.state ≠ state := by
  simp [Blind.inState, numbersOf_eq_nil_iff]

theorem waitingGroups_eq_nil {b : Blind}
    (backs : ∀ d ∈ b.drives, d.state = .waitFeeder → ∀ group, d.group = some group → ∃ k ∈ b.backoffs, k.group = group) :
    b.waitingGroups = [] := by
  unfold Blind.waitingGroups
  rw [List.filter_eq_nil_iff]
  intro group mem
  rw [List.mem_eraseDups, List.mem_filterMap] at mem
  obtain ⟨n, waits, grouped⟩ := mem
  obtain ⟨d, fitted, state⟩ := mem_numbersOf.1 waits
  rw [fitted, Option.bind_some] at grouped
  obtain ⟨k, held, same⟩ := backs d (mem_of_pick? fitted) (by simpa using state) group grouped
  simp only [Bool.not_eq_true', Bool.not_eq_false, List.any_eq_true]
  exact ⟨k, held, by simpa using same⟩

theorem grantSlots_of_none {s : State} (none : s.blind.inState .waitStage = []) : grantSlots s = (s, false) := by
  rw [grantSlots, none, List.take_nil, formations]
  split <;> rfl

theorem recheckGroups_of_none {s : State} (none : s.blind.waitingGroups = []) : recheckGroups s = (s, false) := by
  rw [recheckGroups, none]
  rfl

/-- With no drive waiting for the stage, and every group that waits for the feeder backing off, an event ends as it stands. -/
theorem settleStage_of_idle {s : State} (stage : s.blind.inState .waitStage = []) (groups : s.blind.waitingGroups = [])
    (rounds : Nat) (recheck : Bool) : settleStage rounds recheck s = s := by
  cases rounds with
  | zero => rfl
  | succ n =>
    simp only [settleStage, grantSlots_of_none stage, recheckGroups_of_none groups, ite_self, Bool.or_self, if_false,
      Bool.false_eq_true]

/-- While the line is asserted no grant and no re-check is made (R161). -/
theorem settleStage_of_asserted {s : State} (asserted : s.blind.emergency = true) (rounds : Nat) (recheck : Bool) :
    settleStage rounds recheck s = s := by
  cases rounds with
  | zero => rfl
  | succ n => exact if_pos asserted

/-- A group that backs off, where no other drive waits, is the only one that waits. -/
theorem settleStage_backOff {s : State} {group : Nat} (none : ∀ d ∈ s.blind.drives, d.state ≠ .waitStage ∧ d.state ≠ .waitFeeder)
    (rounds : Nat) (recheck : Bool) : settleStage rounds recheck (backOff group s) = backOff group s := by
  refine settleStage_of_idle ((inState_eq_nil_iff _ _).2 fun d mem => ?_) (waitingGroups_eq_nil fun d mem waits g grouped => ?_) _ _
  · obtain ⟨e, inside, rfl⟩ := List.mem_map.1 (show d ∈ s.blind.drives.map _ from mem)
    split
    · exact (nomatch ·)
    · exact (none e inside).1
  · obtain ⟨e, inside, rfl⟩ := List.mem_map.1 (show d ∈ s.blind.drives.map _ from mem)
    by_cases own : (e.group == some group && e.state == .settling) = true
    · rw [if_pos own] at grouped
      rw [Bool.and_eq_true, beq_iff_eq] at own
      exact ⟨_, List.mem_append_right _ (List.mem_singleton_self _), Option.some.inj (own.1.symm.trans grouped)⟩
    · rw [if_neg own] at waits
      exact absurd waits (none e inside).2

/-! ### Collisions (R23, R24) -/

theorem backoffSlots_range (k drawn : Nat) : 1 ≤ backoffSlots k drawn ∧ backoffSlots k drawn ≤ 2 ^ min k 4 := by
  have := Nat.mod_lt drawn (Nat.two_pow_pos (min k 4))
  unfold backoffSlots
  omega

theorem collide_of_more {s : State} (f : Frame) (more : s.bus.attempts + 1 < 8) :
    collide f s = (s.setBus { s.bus with
      attempts := s.bus.attempts + 1
      transmitter := .backingOff f (.chosen (backoffSlots (s.bus.attempts + 1) (Config.draw s.draws))) }).setDraws (s.draws + 1) :=
  if_neg (Nat.not_le.2 more)

theorem collide_of_last {s : State} (f : Frame) (last : 8 ≤ s.bus.attempts + 1) : collide f s = endFrame false f s := if_pos last

/-- What a collision finds: the receiver has taken what the line showed, and the rest stands. -/
structure Collided (b c : BusPort) (now : Nat) : Prop where
  line : c.line = .busy
  quietTimer : c.quietTimer = some (now + 2)
  queue : c.queue = b.queue
  attempts : c.attempts = b.attempts
  hold : c.hold = b.hold

theorem exec_of_collision {s : State} {address : Byte} {f : Frame} {n : Nat} {i : Instr} (up : s.started = true)
    (own : s.loader.address = some address) (sending : s.bus.transmitter = .sending f n)
    (fails : i = .characterNotReadBack ∨ ∃ bits : LineCharacter, i = .lineCharacter bits ∧ bits.getLsbD 0 = false ∧
      ∀ v, (f.characters address)[n]? = some v → bits ≠ characterOf v) :
    ∃ b, Collided s.bus b s.now ∧ exec i s = .next (collide f (s.setBus b)) := by
  rcases fails with rfl | ⟨bits, rfl, start, different⟩
  · refine ⟨s.bus.seeCharacter s.now, ⟨rfl, rfl, rfl, rfl, rfl⟩, ?_⟩
    rw [exec_of_started (effectOf_characterNotReadBack s) up, missCharacter, sending]
    rfl
  · refine ⟨(s.bus.seeCharacter s.now).collect (readCharacter bits), ⟨collect_line _ _, collect_quietTimer _ _, collect_queue _ _,
      collect_attempts _ _, collect_hold _ _⟩, ?_⟩
    rw [lineCharacter_exec up start, takeCharacter_of_sending sending,
      readBack_of_different (by exact own) fun v at_n whole => different v at_n (eq_characterOf whole start)]

/-- Settles O9: the collision finds the bus as the line left it, and its count decides between a backoff and the end. -/
theorem collisionsBackOff : Obligations.CollisionsBackOff := by
  intro s address f n i up own sending fails
  obtain ⟨b, found, collides⟩ := exec_of_collision up own sending fails
  rw [collides]
  refine ⟨fun more => ?_, fun last other => ?_, fun last kind none => ?_⟩
  · rw [collide_of_more f (by rw [State.setBus_bus, found.attempts]; exact more)]
    obtain ⟨low, high⟩ := backoffSlots_range (s.bus.attempts + 1) (Config.draw s.draws)
    refine ⟨_, backoffSlots (s.bus.attempts + 1) (Config.draw s.draws), rfl, low, high, ?_, ?_, found.queue, found.hold,
      found.line, found.quietTimer, rfl⟩
    · exact congrArg (· + 1) found.attempts
    · show Transmitter.backingOff f (.chosen (backoffSlots (b.attempts + 1) (Config.draw s.draws))) = _
      rw [found.attempts]
  · rw [collide_of_last f (by rw [State.setBus_bus, found.attempts]; exact last), endFrame_of_other other]
    exact ⟨_, rfl, rfl, rfl, found.queue, congrArg (· && f.kind != .identity) found.hold, found.line, rfl⟩
  · rw [collide_of_last f (by rw [State.setBus_bus, found.attempts]; exact last), endFrame_of_start kind,
      BusPort.endFrame_of_start kind]
    by_cases awaits : ∃ group drives, s.blind.hand = .awaiting group drives f.tag
    · obtain ⟨group, drives, awaited⟩ := awaits
      rw [feederReport_of_awaited (by exact awaited), if_neg Bool.false_ne_true, settleStage_backOff (by exact none)]
      refine ⟨_, rfl, rfl, rfl, found.queue, found.hold, found.line, rfl, fun g k again => ?_, fun other => ?_⟩
      · obtain ⟨rfl, -, -⟩ := StartInHand.awaiting.inj (awaited.symm.trans again)
        simp [backOff, withBlind, State.feederBackoff, own, seconds, Nat.mul_assoc]
      · exact absurd awaited (other group drives)
    · have other : ∀ group drives, s.blind.hand ≠ .awaiting group drives f.tag := fun g k h => awaits ⟨g, k, h⟩
      rw [feederReport_of_other (by exact other)]
      by_cases orphaned : ∃ o ∈ s.blind.orphans, o.tag = f.tag
      · obtain ⟨before, o, later, held, tag, first⟩ : ∃ before o later, s.blind.orphans = before ++ o :: later ∧ o.tag = f.tag ∧
            ∀ x ∈ before, x.tag ≠ f.tag := by
          obtain ⟨o, found⟩ := Option.isSome_iff_exists.1
            (List.find?_isSome (p := fun o : Orphan => o.tag == f.tag) |>.2 (by simpa using orphaned))
          obtain ⟨tag, before, later, held, first⟩ := List.find?_eq_some_iff_append.1 found
          exact ⟨before, o, later, held, by simpa using tag, fun x mem => by simpa using first x mem⟩
        rw [orphanReport_of_held (by exact held) tag first, if_neg Bool.false_ne_true]
        exact ⟨_, rfl, rfl, rfl, found.queue, found.hold, found.line, rfl, fun g k awaited => absurd awaited (other g k),
          fun _ => rfl⟩
      · have none : ∀ o ∈ s.blind.orphans, o.tag ≠ f.tag := fun o mem tag => orphaned ⟨o, mem, tag⟩
        rw [orphanReport_of_none (by exact none)]
        refine ⟨_, rfl, rfl, rfl, found.queue, found.hold, found.line, rfl, fun g k awaited => absurd awaited (other g k),
          fun _ => ?_⟩
        rw [List.filter_eq_self.2 (by simpa using none)]
        rfl

/-! ### The quiet event and the backoff (R13, R14, R22, R24) -/

theorem quietLine_eq (s : State) :
    quietLine s = (s.setBus (BusPort.quiet { s.bus with line := .quiet, quietTimer := none, receiver := .listen, collected := [] }
      s.now)).setInbox (s.inbox ++ (if s.bus.receiver = .listen then (s.route s.bus.collected).toList else [])) := by
  unfold quietLine completeFrame withBus
  cases receives : s.bus.receiver <;> simp [receives] <;> rfl

theorem takeHead_keeps (b : BusPort) :
    b.takeHead.receiver = b.receiver ∧ b.takeHead.collected = b.collected ∧ (b.quietTimer = none → b.takeHead.quietTimer = none) := by
  rcases b.takeHead_cases with e | ⟨i, f, idle, quiet, place, head, e⟩ <;> rw [e]
  · exact ⟨rfl, rfl, id⟩
  · exact ⟨rfl, rfl, fun _ => rfl⟩

theorem quiet_keeps (b : BusPort) (now : Nat) :
    (b.quiet now).receiver = b.receiver ∧ (b.quiet now).collected = b.collected ∧
      (b.quietTimer = none → (b.quiet now).quietTimer = none) := by
  unfold BusPort.quiet
  split
  · exact takeHead_keeps b
  · exact ⟨rfl, rfl, id⟩
  · exact ⟨rfl, rfl, fun _ => rfl⟩
  · exact ⟨rfl, rfl, id⟩
  · exact ⟨rfl, rfl, id⟩

/-- Settles O10: the receiver by what it listens for, the transmitter by its state. -/
theorem quietEventsAndBackoffsAct : Obligations.QuietEventsAndBackoffsAct := by
  refine ⟨?_, ?_⟩
  · rintro s due n up runs rfl
    rw [exec_of_expiry (timer := (·.bus.quietTimer)) (effectOf_quietEvent s) up runs, quietLine_eq]
    obtain ⟨receiver, collected, timer⟩ := quiet_keeps
      { s.bus with line := .quiet, quietTimer := none, receiver := .listen, collected := [] } (max s.now due)
    refine ⟨_, rfl, rfl, timer rfl, receiver, collected, rfl, ?_⟩
    simp only [State.setInbox_bus, State.setBus_bus, State.setNow_bus, State.setNow_now]
    split
    next idle =>
      simp only [BusPort.quiet, idle]
      refine ⟨fun i f place head => ?_, fun none => ?_⟩
      · rw [takeHead_of_ready rfl rfl (by exact place) (by exact head)]
        exact ⟨rfl, rfl, rfl, rfl⟩
      · rw [takeHead_of_not_ready (.inr (.inr (by exact none)))]
        exact ⟨rfl, rfl, rfl⟩
    next f slots backs => simp [BusPort.quiet, backs]
    next f backs => simp [BusPort.quiet, backs, BusPort.startFrame, BusPort.drive]
    next f later backs => simp [BusPort.quiet, backs]
    next f sent sends => simp [BusPort.quiet, sends]
  · intro s f due up backs
    rw [exec_of_expiry (timer := (·.bus.transmitter.backoffTimer)) (effectOf_busBackoffExpiry s) up (by rw [backs]; rfl)]
    refine ⟨fun quiet => ?_, fun busy => ?_⟩
    · simp [withBus, BusPort.retry, backs, quiet, BusPort.startFrame, BusPort.drive]
    · simp [withBus, BusPort.retry, backs, busy]

end Sys2Proof.Machine
end

section
/-!
PROOFS. Clock events in every entry, stage by stage (R53, R57, R63 to R66).
-/

namespace Sys2Proof.Machine

/-! ### Spans of a jump (R63) -/

/-- A minute is reached `k` minutes after the old one, within the span. -/
def Spanned (old new k m : Nat) : Prop := 1 ≤ k ∧ k ≤ (new + 10080 - old) % 10080 ∧ m = (old + k) % 10080

theorem forward_eq {old m : Nat} (hold : old < 10080) (hm : m < 10080) :
    forward old m = if old ≤ m then m - old else m + 10080 - old := by
  unfold forward weekMinutes
  rw [Nat.mod_eq_of_lt hold, Nat.mod_eq_of_lt hm]
  split <;> omega

theorem spanned_iff {old new k m : Nat} (hold : old < 10080) (hnew : new < 10080) (hm : m < 10080) :
    Spanned old new k m ↔ inSpan old new m = true ∧ k = forward old m := by
  have span : inSpan old new m = true ↔ 0 < forward old m ∧ forward old m ≤ forward old new := by
    simp [inSpan, forward]
  have near := forward_eq hold hm
  have far := forward_eq hold hnew
  rw [span, Spanned]
  split at near <;> split at far <;> omega

theorem exists_spanned_iff {old new m : Nat} (hold : old < 10080) (hnew : new < 10080) (hm : m < 10080) :
    (∃ k, Spanned old new k m) ↔ inSpan old new m = true := by
  simp [spanned_iff hold hnew hm]

theorem endMinute_lt (e : Entry) : e.endMinute < 10080 := Nat.mod_lt _ (by decide)

/-- An occurrence was passed where its start and its end lie in the span, the end at or after the start (R64). -/
theorem passed_iff {old new : Nat} (hold : old < 10080) (hnew : new < 10080) {e : Entry} (start : e.start < 10080) :
    e.passed old new = true ↔ ∃ j k, j ≤ k ∧ Spanned old new j e.start ∧ Spanned old new k (e.stop % 10080) := by
  have ends (k : Nat) : Spanned old new k (e.stop % 10080) ↔ inSpan old new e.endMinute = true ∧ k = forward old e.endMinute :=
    spanned_iff hold hnew (endMinute_lt e)
  simp only [Entry.passed, Bool.and_eq_true, decide_eq_true_eq, spanned_iff hold hnew start, ends]
  constructor
  · rintro ⟨⟨first, last⟩, order⟩
    exact ⟨_, _, order, ⟨first, rfl⟩, last, rfl⟩
  · rintro ⟨j, k, order, ⟨first, rfl⟩, last, rfl⟩
    exact ⟨⟨first, last⟩, order⟩

/-! ### The stages, entry by entry (R64, R65) -/

section Stages

variable {e : Entry} {old new : Nat} (count graceMinutes : Nat)

theorem passEnd_of_passed (active : e.state = .active) (spanned : inSpan old new e.endMinute = true) :
    e.passEnd old new graceMinutes = e.finish .timeJump := by
  rw [Entry.passEnd, if_pos active, if_pos spanned]

theorem passEnd_of_grace (active : e.state = .active) (clear : inSpan old new e.endMinute = false) {d : Nat}
    (deadline : e.grace = some d) (spanned : inSpan old new d = true) :
    e.passEnd old new graceMinutes = .keep { e with grace := some ((new + graceMinutes) % 10080) } := by
  rw [Entry.passEnd, if_pos active, if_neg (by simp [clear]), deadline]
  exact if_pos spanned

theorem passEnd_of_clear (active : e.state = .active) (clear : inSpan old new e.endMinute = false)
    (far : ∀ d, e.grace = some d → inSpan old new d = false) : e.passEnd old new graceMinutes = .keep e := by
  rw [Entry.passEnd, if_pos active, if_neg (by simp [clear]), if_neg]
  cases deadline : e.grace with
  | none => exact Bool.false_ne_true
  | some d => simpa using far d deadline

theorem passEnd_of_inactive (inactive : e.state ≠ .active) : e.passEnd old new graceMinutes = .keep e := if_neg inactive

theorem passOccurrence_of_waiting (waiting : e.state = .pending ∨ e.state = .precondition) :
    e.passOccurrence old new =
      if e.passed old new then
        if e.weekly then .keep { e with state := .pending, skip := false, carried := false } else e.finish .missed
      else .keep e := by
  unfold Entry.passOccurrence
  rcases waiting with h | h <;> rw [h]

theorem passOccurrence_of_active (active : e.state = .active) : e.passOccurrence old new = .keep e := by
  unfold Entry.passOccurrence
  rw [active]

theorem passOccurrence_of_dormant (dormant : e.state = .dormant) :
    e.passOccurrence old new = .keep { e with state := if e.inWhole new then .dormant else .pending } := by
  unfold Entry.passOccurrence
  rw [dormant]
  dsimp only
  split
  · rw [← dormant]
  · rfl

/-- The entry waits at the gate that an evaluation opens (R54). -/
def Entry.Opens (e : Entry) (m : Nat) : Prop :=
  (e.state = .pending ∧ ¬(e.skip = true ∧ e.inWhole m = true) ∧ e.inLead m = false ∧ e.inInterval m = true) ∨
    (e.state = .precondition ∧ e.inInterval m = true)

theorem evaluate_of_opens (byJump : Bool) (opens : e.Opens new) :
    e.evaluate new count graceMinutes byJump =
      { kept := some (e.activate new count graceMinutes byJump), reports := [], boundaries := 1 } := by
  unfold Entry.evaluate
  rcases opens with ⟨pending, noSkip, lead, interval⟩ | ⟨preparing, interval⟩
  · rw [pending]
    dsimp only
    rw [if_neg (by simpa using noSkip), if_neg (by simp [lead]), if_pos interval]
  · rw [preparing]
    exact if_pos interval

/-- Where nothing opens, the evaluation of a jump is that of a minute, and no boundary event is sent. -/
theorem evaluate_of_shut (byJump : Bool) (inactive : e.state ≠ .active) (shut : ¬e.Opens new) :
    e.evaluate new count graceMinutes byJump = e.evaluate new count graceMinutes false ∧
      (e.evaluate new count graceMinutes byJump).boundaries = 0 := by
  unfold Entry.evaluate
  cases state : e.state with
  | pending =>
    dsimp only
    by_cases skips : (e.skip && e.inWhole new) = true
    · rw [if_pos skips, if_pos skips]
      exact ⟨rfl, rfl⟩
    · rw [if_neg skips, if_neg skips]
      by_cases lead : e.inLead new = true
      · rw [if_pos lead, if_pos lead]
        exact ⟨rfl, rfl⟩
      · rw [if_neg lead, if_neg lead]
        have outside : ¬e.inInterval new = true := fun interval =>
          shut (.inl ⟨state, by simpa using skips, by simpa using lead, interval⟩)
        rw [if_neg outside, if_neg outside]
        exact ⟨rfl, rfl⟩
  | precondition =>
    dsimp only
    have outside : ¬e.inInterval new = true := fun interval => shut (.inr ⟨state, interval⟩)
    rw [if_neg outside, if_neg outside]
    exact ⟨rfl, by split <;> rfl⟩
  | active => exact absurd state inactive
  | dormant => exact ⟨rfl, by dsimp only; split <;> rfl⟩

theorem evaluate_of_active (byJump : Bool) (active : e.state = .active) :
    e.evaluate new count graceMinutes byJump = e.evaluate new count graceMinutes false := by
  unfold Entry.evaluate
  rw [active]

theorem takeBack_of_inactive (inactive : e.state ≠ .active) :
    e.takeBack new count graceMinutes = e.evaluateBack new count graceMinutes := if_neg inactive

/-- The occurrence that a jump opens anew (R56, R65). -/
def Entry.openedByJump (e : Entry) (new count graceMinutes : Nat) : Entry :=
  { e with
    state := .active, grace := some ((new + graceMinutes) % 10080), carried := false
    peak := count, occupied := 0, shortfall := 0, seen := decide (0 < count) }

theorem takeBack_of_opens (inactive : e.state ≠ .active) (opens : e.Opens new) :
    e.takeBack new count graceMinutes =
      { kept := some (e.openedByJump new count graceMinutes), reports := [], boundaries := 1 } := by
  have fresh : Entry.Opens { e with carried := false } new := opens
  rw [takeBack_of_inactive count graceMinutes inactive, Entry.evaluateBack, evaluate_of_opens count graceMinutes true opens,
    if_neg Nat.one_ne_zero, evaluate_of_opens count graceMinutes true fresh]
  rfl

theorem evaluate_of_opens_byJump (opens : e.Opens new) :
    e.evaluate new count graceMinutes true =
      { kept := some (if e.carried then { e.openedByJump new count graceMinutes with
            peak := max e.peak count, occupied := e.occupied, shortfall := e.shortfall
            seen := e.seen || decide (0 < count) } else e.openedByJump new count graceMinutes)
        reports := [], boundaries := 1 } := by
  rw [evaluate_of_opens count graceMinutes true opens]
  unfold Entry.activate Entry.openedByJump
  cases carried : e.carried <;> rfl

theorem takeBack_of_shut (inactive : e.state ≠ .active) (shut : ¬e.Opens new) :
    e.takeBack new count graceMinutes = e.evaluate new count graceMinutes false := by
  obtain ⟨same, none⟩ := evaluate_of_shut count graceMinutes true inactive shut
  rw [takeBack_of_inactive count graceMinutes inactive, Entry.evaluateBack, if_pos none, same]

end Stages

/-! ### The events (R53, R57, R63) -/

theorem takeMinute_of_known {s : State} {m : Nat} (known : s.session.lastMinute = some m) :
    (takeMinute m s).session = SessionEngine.derived { s.session with lastMinute := some m } m
      (s.session.entries.filterMap (fun e => (e.evaluate m s.counter.count s.loader.settings.graceMinutes false).kept)) := by
  unfold takeMinute
  dsimp only
  rw [if_neg (not_not.2 known), finishWork_derived]
  rfl

theorem takeMinute_of_new {s : State} {m : Nat} (new : s.session.lastMinute ≠ some m) :
    (takeMinute m s).session = SessionEngine.derived { s.session with lastMinute := some m } m
      ((s.session.entries.map (·.tally (decide (0 < s.counter.count)) s.air.shortfallRecord)).filterMap
        (fun e => (e.evaluate m s.counter.count s.loader.settings.graceMinutes false).kept)) := by
  unfold takeMinute
  dsimp only
  rw [if_pos new, finishWork_derived]
  rfl

theorem takeJump_backward (s : State) (old m : Nat) :
    (takeJump old m false s).session = SessionEngine.derived { s.session with lastMinute := some m } m
      (s.session.entries.filterMap (fun e => (e.takeBack m s.counter.count s.loader.settings.graceMinutes).kept)) :=
  finishWork_derived _ _ _

theorem takeJump_forward (s : State) (old m : Nat) :
    (takeJump old m true s).session = SessionEngine.derived { s.session with lastMinute := some m } m
      (((s.session.entries.filterMap (fun e => (e.passEnd old m s.loader.settings.graceMinutes).kept)).filterMap
        (fun e => (e.passOccurrence old m).kept)).filterMap
          (fun e => (e.evaluate m s.counter.count s.loader.settings.graceMinutes true).kept)) :=
  finishWork_derived _ _ _

theorem tally_eq (e : Entry) (count : Nat) (short : Bool) :
    e.tally (decide (0 < count)) short = if e.state = .active then
      { e with occupied := if 0 < count then min 600 (e.occupied + 1) else e.occupied
               shortfall := if short then min 600 (e.shortfall + 1) else e.shortfall } else e := by
  simp [Entry.tally]

/-- Settles O22: each event's list by its equation, the stages by whether a minute lies in the span or the gate opens. -/
theorem clockEventsReachEveryEntry : Obligations.ClockEventsReachEveryEntry := by
  refine ⟨?_, ?_⟩
  · rintro s m old count graceMinutes rfl rfl
    refine ⟨fun known => congrArg SessionEngine.entries (takeMinute_of_known known), fun new => ?_,
      congrArg SessionEngine.entries (takeJump_backward s old m), congrArg SessionEngine.entries (takeJump_forward s old m), ?_⟩
    · refine (congrArg SessionEngine.entries (takeMinute_of_new new)).trans (congrArg (List.filterMap _) ?_)
      exact List.map_congr_left fun e _ => tally_eq e _ _
    · have derived (t : State) (entries : List Entry)
          (h : t.session = SessionEngine.derived { s.session with lastMinute := some m } m entries) :
          t.session.lastMinute = some m ∧ RegimeAt m t.session ∧ t.session.catchUp = s.session.catchUp :=
        ⟨congrArg SessionEngine.lastMinute h, h ▸ derived_regimeAt _ m entries,
          (congrArg SessionEngine.catchUp h :)⟩
      rintro t (rfl | rfl | rfl)
      · by_cases known : s.session.lastMinute = some m
        · exact derived _ _ (takeMinute_of_known known)
        · exact derived _ _ (takeMinute_of_new known)
      · exact derived _ _ (takeJump_backward s old m)
      · exact derived _ _ (takeJump_forward s old m)
  · rintro e opened old new count graceMinutes opens spanned hold hnew start - - deadlines rfl rfl rfl
    have ends := exists_spanned_iff hold hnew (endMinute_lt e)
    refine ⟨fun active => ⟨fun passed => ?_, fun clear => ⟨fun d deadline near => ?_, fun far => ?_⟩,
      passOccurrence_of_active active, fun inside => ?_, fun outside => ?_, evaluate_of_active count graceMinutes true active⟩,
      fun inactive => ⟨passEnd_of_inactive graceMinutes inactive, fun opens => ⟨takeBack_of_opens count graceMinutes inactive opens,
        evaluate_of_opens_byJump count graceMinutes opens⟩, fun shut => ⟨takeBack_of_shut count graceMinutes inactive shut,
        (evaluate_of_shut count graceMinutes true inactive shut).1⟩⟩,
      fun waiting => ⟨fun passed => ?_, fun clear => ?_⟩, passOccurrence_of_dormant⟩
    · exact passEnd_of_passed graceMinutes active (ends.1 passed)
    · exact passEnd_of_grace graceMinutes active (Bool.eq_false_iff.2 fun h => clear (ends.2 h)) deadline
        ((exists_spanned_iff hold hnew (deadlines d deadline)).1 near)
    · exact passEnd_of_clear graceMinutes active (Bool.eq_false_iff.2 fun h => clear (ends.2 h)) fun d deadline =>
        Bool.eq_false_iff.2 fun h => far d deadline ((exists_spanned_iff hold hnew (deadlines d deadline)).2 h)
    · rw [Entry.takeBack, if_pos active, if_pos inside]
    · rw [Entry.takeBack, if_pos active, if_neg (by simp [outside])]
    · rw [passOccurrence_of_waiting waiting, if_pos ((passed_iff hold hnew start).2 passed)]
    · rw [passOccurrence_of_waiting waiting, if_neg fun h => clear ((passed_iff hold hnew start).1 h)]

end Sys2Proof.Machine
end

section
/-!
PROOFS. The sharing of a trunk (R117): each participant's part, and the sum of all parts.
-/

namespace Sys2Proof.Machine

/-! ### Sums -/

/-- Quotients rounded down sum to no more than the quotient of the sum. -/
theorem sum_map_div_le {α : Type} (xs : List α) (f : α → Nat) (d : Nat) :
    (xs.map (fun x => f x / d)).sum ≤ (xs.map f).sum / d := by
  induction xs with
  | nil => exact Nat.zero_le _
  | cons x xs ih =>
    simp only [List.map_cons, List.sum_cons]
    exact (Nat.add_le_add_left ih _).trans Nat.div_add_div_le_add_div

theorem sum_map_mul {α : Type} (xs : List α) (f : α → Nat) (r : Nat) :
    (xs.map (fun x => f x * r)).sum = (xs.map f).sum * r := by
  induction xs with
  | nil => exact (Nat.zero_mul r).symm
  | cons x xs ih => simp only [List.map_cons, List.sum_cons, ih, Nat.add_mul]

/-- Shares in proportion, rounded down, sum to no more than what is shared. -/
theorem sum_shares_le {α : Type} (xs : List α) (f : α → Nat) (r : Nat) :
    (xs.map (fun x => f x * r / (xs.map f).sum)).sum ≤ r := by
  refine (sum_map_div_le xs (fun x => f x * r) _).trans ?_
  rw [sum_map_mul]
  rcases Nat.eq_zero_or_pos (xs.map f).sum with zero | pos
  · rw [zero, Nat.div_zero]
    exact Nat.zero_le _
  · rw [Nat.mul_div_cancel_left _ pos]

/-- The part of a sum that a class brings. -/
def classSum (participants : List ClaimFigures) (f : ClaimFigures → Nat) (k : Nat) : Nat :=
  ((participants.filter (·.claimClass == k)).map f).sum

theorem sum_by_class (f : ClaimFigures → Nat) {participants : List ClaimFigures} (h : ∀ p ∈ participants, p.claimClass ≤ 3) :
    (participants.map f).sum =
      classSum participants f 3 + classSum participants f 2 + classSum participants f 1 + classSum participants f 0 := by
  induction participants with
  | nil => rfl
  | cons p ps ih =>
    obtain ⟨own, rest⟩ := List.forall_mem_cons.1 h
    have added (k : Nat) : classSum (p :: ps) f k = (if p.claimClass = k then f p else 0) + classSum ps f k := by
      by_cases same : p.claimClass = k <;> simp [classSum, same]
    rw [List.map_cons, List.sum_cons, ih rest, added, added, added, added]
    obtain c | c | c | c : p.claimClass = 0 ∨ p.claimClass = 1 ∨ p.claimClass = 2 ∨ p.claimClass = 3 := by omega
    all_goals simp only [c, if_true, reduceCtorEq, OfNat.ofNat_ne_zero, if_false, Nat.reduceEqDiff]
    all_goals omega

/-! ### The residual a class finds (R117, step 2) -/

section Sharing

variable {capacity : Nat} {participants : List ClaimFigures}

theorem residualFor_three : residualFor capacity participants 3 = capacity - totalMinimum participants := rfl

theorem residualFor_succ {k : Nat} (h : k < 3) :
    residualFor capacity participants k =
      if classNeed participants (k + 1) ≤ residualFor capacity participants (k + 1) then
        residualFor capacity participants (k + 1) - classNeed participants (k + 1) else 0 := by
  obtain rfl | rfl | rfl : k = 0 ∨ k = 1 ∨ k = 2 := by omega
  all_goals rfl

/-- What a class takes of the residual it finds. -/
def classTake (capacity : Nat) (participants : List ClaimFigures) (k : Nat) : Nat :=
  min (classNeed participants k) (residualFor capacity participants k)

theorem residualFor_succ_eq {k : Nat} (h : k < 3) :
    residualFor capacity participants k = residualFor capacity participants (k + 1) - classTake capacity participants (k + 1) := by
  rw [residualFor_succ h, classTake]
  split <;> omega

/-- Below a class that is not served in full nothing is left. -/
theorem residualFor_eq_zero {j k : Nat} (below : j < k) (top : k ≤ 3)
    (short : residualFor capacity participants k < classNeed participants k) : residualFor capacity participants j = 0 := by
  obtain ⟨d, rfl⟩ := Nat.exists_eq_add_of_lt below
  induction d with
  | zero =>
    rw [residualFor_succ (by omega), if_neg (by simpa using short)]
  | succ d ih =>
    have next : residualFor capacity participants (j + d + 1) = 0 := by
      rw [residualFor_succ (by omega), if_neg (by simpa [Nat.add_assoc] using short)]
    by_cases served : classNeed participants (j + d + 1) ≤ residualFor capacity participants (j + d + 1)
    · exact residual_of_zero next (by omega)
    · exact ih (by omega) (by omega) (Nat.lt_of_not_le served)
where
  residual_of_zero {j d : Nat} (zero : residualFor capacity participants (j + d + 1) = 0) (top : j + d + 1 ≤ 3) :
      residualFor capacity participants j = 0 := by
    induction d with
    | zero => rw [residualFor_succ_eq (by omega), zero, Nat.zero_sub]
    | succ d ih =>
      refine ih ?_ (by omega)
      rw [residualFor_succ_eq (by omega), show j + d + 1 + 1 = j + (d + 1) + 1 by omega, zero, Nat.zero_sub]

/-! ### The parts (R117) -/

/-- The extra a participant is granted beyond its floor. -/
def extraOf (capacity : Nat) (participants : List ClaimFigures) (p : ClaimFigures) : Nat :=
  if classNeed participants p.claimClass ≤ residualFor capacity participants p.claimClass then p.extraNeed
  else p.extraNeed * residualFor capacity participants p.claimClass / classNeed participants p.claimClass

theorem grantOf_of_scarce (h : capacity < totalMinimum participants) (p : ClaimFigures) :
    grantOf capacity participants p = p.minimum * capacity / totalMinimum participants := if_pos h

theorem grantOf_of_ample (h : totalMinimum participants ≤ capacity) (p : ClaimFigures) :
    grantOf capacity participants p = p.minimum + extraOf capacity participants p := if_neg (Nat.not_lt.2 h)

theorem extraOf_of_served {p : ClaimFigures}
    (h : classNeed participants p.claimClass ≤ residualFor capacity participants p.claimClass) :
    extraOf capacity participants p = p.extraNeed := if_pos h

theorem extraOf_of_short {p : ClaimFigures}
    (h : residualFor capacity participants p.claimClass < classNeed participants p.claimClass) :
    extraOf capacity participants p =
      p.extraNeed * residualFor capacity participants p.claimClass / classNeed participants p.claimClass :=
  if_neg (Nat.not_le.2 h)

theorem extraOf_le (p : ClaimFigures) : extraOf capacity participants p ≤ p.extraNeed := by
  unfold extraOf
  split
  · exact le_rfl
  next short =>
    refine Nat.div_le_of_le_mul ?_
    rw [Nat.mul_comm]
    exact Nat.mul_le_mul_right _ (Nat.lt_of_not_le short).le

/-- The extra need of a participant is part of its class's. -/
theorem extraNeed_le_classNeed {p : ClaimFigures} (mem : p ∈ participants) : p.extraNeed ≤ classNeed participants p.claimClass :=
  List.single_le_sum (fun _ _ => Nat.zero_le _) _ (List.mem_map_of_mem (List.mem_filter.2 ⟨mem, beq_self_eq_true _⟩))

/-- A class takes no more than it needs and no more than it finds. -/
theorem classSum_extraOf_le (k : Nat) : classSum participants (extraOf capacity participants) k ≤ classTake capacity participants k := by
  have inClass : ∀ p ∈ participants.filter (·.claimClass == k), p.claimClass = k := fun p mem => by
    simpa using (List.mem_filter.1 mem).2
  unfold classSum
  by_cases served : classNeed participants k ≤ residualFor capacity participants k
  · have same : (participants.filter (·.claimClass == k)).map (extraOf capacity participants) =
        (participants.filter (·.claimClass == k)).map ClaimFigures.extraNeed :=
      List.map_congr_left fun p mem => extraOf_of_served (by rwa [inClass p mem])
    rw [same]
    exact le_min le_rfl served
  · have short := Nat.lt_of_not_le served
    have same : (participants.filter (·.claimClass == k)).map (extraOf capacity participants) =
        (participants.filter (·.claimClass == k)).map
          (fun p => p.extraNeed * residualFor capacity participants k / classNeed participants k) :=
      List.map_congr_left fun p mem => by rw [extraOf_of_short (by rwa [inClass p mem]), inClass p mem]
    rw [same]
    have shares := sum_shares_le (participants.filter (·.claimClass == k)) ClaimFigures.extraNeed
      (residualFor capacity participants k)
    exact le_min (shares.trans short.le) shares

/-- The classes together take no more than the residual. -/
theorem sum_extraOf_le (h : ∀ p ∈ participants, p.claimClass ≤ 3) :
    (participants.map (extraOf capacity participants)).sum ≤ capacity - totalMinimum participants := by
  rw [sum_by_class _ h]
  have three := classSum_extraOf_le (capacity := capacity) (participants := participants) 3
  have two := classSum_extraOf_le (capacity := capacity) (participants := participants) 2
  have one := classSum_extraOf_le (capacity := capacity) (participants := participants) 1
  have zero := classSum_extraOf_le (capacity := capacity) (participants := participants) 0
  have after3 := residualFor_succ_eq (capacity := capacity) (participants := participants) (k := 2) (by decide)
  have after2 := residualFor_succ_eq (capacity := capacity) (participants := participants) (k := 1) (by decide)
  have after1 := residualFor_succ_eq (capacity := capacity) (participants := participants) (k := 0) (by decide)
  have takes (k : Nat) : classTake capacity participants k ≤ residualFor capacity participants k := Nat.min_le_right _ _
  have first := takes 3
  have second := takes 2
  have third := takes 1
  have last := takes 0
  rw [← residualFor_three]
  simp only [Nat.reduceAdd, Nat.zero_add] at after3 after2 after1
  omega

theorem sum_grantOf_le (h : ∀ p ∈ participants, p.claimClass ≤ 3) :
    (participants.map (grantOf capacity participants)).sum ≤ capacity := by
  by_cases scarce : capacity < totalMinimum participants
  · rw [funext (grantOf_of_scarce scarce)]
    exact sum_shares_le participants ClaimFigures.minimum capacity
  · have ample := Nat.le_of_not_lt scarce
    have extras := sum_extraOf_le (capacity := capacity) h
    rw [funext (grantOf_of_ample ample), List.sum_map_add]
    show totalMinimum participants + _ ≤ capacity
    omega

/-- The residuals of R117's recursion are those the classes find. -/
theorem residual_unique {need residual : Nat → Nat} (needs : ∀ k, need k = classNeed participants k)
    (top : residual 3 = capacity - totalMinimum participants)
    (next : ∀ k, k < 3 → residual k = if need (k + 1) ≤ residual (k + 1) then residual (k + 1) - need (k + 1) else 0)
    {k : Nat} (h : k ≤ 3) : residual k = residualFor capacity participants k := by
  have three : residual 3 = residualFor capacity participants 3 := top
  have two : residual 2 = residualFor capacity participants 2 := by rw [next 2 (by decide), residualFor_succ (by decide), three, needs]
  have one : residual 1 = residualFor capacity participants 1 := by rw [next 1 (by decide), residualFor_succ (by decide), two, needs]
  have zero : residual 0 = residualFor capacity participants 0 := by
    rw [next 0 (by decide), residualFor_succ (by decide), Nat.zero_add, one, needs]
  obtain rfl | rfl | rfl | rfl : k = 0 ∨ k = 1 ∨ k = 2 ∨ k = 3 := by omega
  · exact zero
  · exact one
  · exact two
  · exact three

end Sharing

/-- Settles O34: the parts by scarcity and by class, their sum class by class. -/
theorem grantsShareTheTrunk : Obligations.GrantsShareTheTrunk := by
  intro capacity participants h
  have order : ∀ p ∈ participants, p.minimum ≤ p.demand := fun p mem => (h p mem).1
  have classes : ∀ p ∈ participants, p.claimClass ≤ 3 := fun p mem => (h p mem).2
  have full : ∀ p ∈ participants, p.minimum + p.extraNeed = p.demand := fun p mem => Nat.add_sub_cancel' (order p mem)
  refine ⟨sum_grantOf_le classes, fun p mem => ⟨fun scarce => grantOf_of_scarce scarce p, fun ample => ?_⟩,
    fun p memP q memQ ample lower unmet => ?_, fun need residual ample needs top next p mem => ⟨fun served => ?_, fun short => ?_⟩⟩
  · rw [grantOf_of_ample ample]
    have := extraOf_le (capacity := capacity) (participants := participants) p
    have := full p mem
    omega
  · have short : residualFor capacity participants p.claimClass < classNeed participants p.claimClass := by
      by_contra served
      rw [grantOf_of_ample ample, extraOf_of_served (Nat.le_of_not_lt served), full p memP] at unmet
      exact Nat.lt_irrefl _ unmet
    have none : residualFor capacity participants q.claimClass = 0 := residualFor_eq_zero lower (classes p memP) short
    rw [grantOf_of_ample ample]
    by_cases served : classNeed participants q.claimClass ≤ residualFor capacity participants q.claimClass
    · have := extraNeed_le_classNeed memQ
      rw [extraOf_of_served served]
      omega
    · rw [extraOf_of_short (Nat.lt_of_not_le served), none, Nat.mul_zero, Nat.zero_div, Nat.add_zero]
  · rw [residual_unique needs top next (classes p mem), needs] at served
    rw [grantOf_of_ample ample, extraOf_of_served served, full p mem]
  · rw [residual_unique needs top next (classes p mem), needs] at short ⊢
    rw [grantOf_of_ample ample, extraOf_of_short short]
    rfl

end Sys2Proof.Machine
end

section
/-!
PROOFS. What the Air Controller's operations leave of its inputs: the damper and the shortfall state settle, CLAIMs are offered, and
demand is recomputed (R104 to R121).
-/

namespace Sys2Proof.Machine

/-! ### What each operation may change -/

/-- The damper and the shortfall state have settled: the grant, the command, the fault timer and the shortfall state may change, and the
alerts with them. -/
structure AirSettles (s t : State) : Prop extends AirFrame s t where
  bus : t.bus = s.bus
  air : t.air = { s.air with
    grant := t.air.grant, command := t.air.command, faultTimer := t.air.faultTimer, shortfall := t.air.shortfall
    shortfallTimer := t.air.shortfallTimer, shortfallRecord := t.air.shortfallRecord }

/-- CLAIMs have been offered or left pending: the claim record and its timers may change, and the transmit side. -/
structure AirClaims (s t : State) : Prop extends AirFrame s t where
  alert : t.alert = s.alert
  air : t.air = { s.air with
    record := t.air.record, rateWindow := t.air.rateWindow, refreshTimer := t.air.refreshTimer
    pendingTrigger := t.air.pendingTrigger }

/-- The Air Controller has computed: its inputs are those it had. -/
structure Air.Computes (a b : Air) : Prop where
  inputs : a.SameInputs b
  count : b.count = a.count
  vacant : b.vacant = a.vacant
  co2 : b.co2 = a.co2
  co2State : b.co2State = a.co2State
  co2Timer : b.co2Timer = a.co2Timer

theorem Air.SameInputs.refl (a : Air) : a.SameInputs a := ⟨rfl, rfl, rfl, rfl, rfl, rfl⟩

theorem Air.SameInputs.trans {a b c : Air} (h : a.SameInputs b) (k : b.SameInputs c) : a.SameInputs c :=
  ⟨k.1.trans h.1, k.2.trans h.2, k.3.trans h.3, k.4.trans h.4, k.5.trans h.5, k.6.trans h.6⟩

theorem Air.Computes.refl (a : Air) : a.Computes a := ⟨.refl a, rfl, rfl, rfl, rfl, rfl⟩

theorem Air.Computes.trans {a b c : Air} (h : a.Computes b) (k : b.Computes c) : a.Computes c :=
  ⟨h.1.trans k.1, k.2.trans h.2, k.3.trans h.3, k.4.trans h.4, k.5.trans h.5, k.6.trans h.6⟩

variable {s t u : State}

theorem AirSettles.refl (s : State) : AirSettles s s := ⟨.refl s, rfl, rfl⟩

theorem AirSettles.trans (h : AirSettles s t) (k : AirSettles t u) : AirSettles s u :=
  ⟨h.1.trans k.1, k.bus.trans h.bus, by rw [k.air, h.air]⟩

theorem AirSettles.computes (h : AirSettles s t) : s.air.Computes t.air := by
  rw [h.air]
  exact ⟨⟨rfl, rfl, rfl, rfl, rfl, rfl⟩, rfl, rfl, rfl, rfl, rfl⟩

theorem AirSettles.figures (h : AirSettles s t) : t.air.figures = s.air.figures := by
  rw [h.air]
  rfl

theorem AirSettles.record (h : AirSettles s t) : t.air.record = s.air.record := by rw [h.air]

theorem AirSettles.rateWindow (h : AirSettles s t) : t.air.rateWindow = s.air.rateWindow := by rw [h.air]

theorem AirClaims.refl (s : State) : AirClaims s s := ⟨.refl s, rfl, rfl⟩

theorem AirClaims.computes (h : AirClaims s t) : s.air.Computes t.air := by
  rw [h.air]
  exact ⟨⟨rfl, rfl, rfl, rfl, rfl, rfl⟩, rfl, rfl, rfl, rfl, rfl⟩

theorem AirClaims.figures (h : AirClaims s t) : t.air.figures = s.air.figures := by
  rw [h.air]
  rfl

theorem Air.Computes.effective {a b : Air} (h : a.Computes b) : b.effective = a.effective := by
  unfold Air.effective
  rw [h.inputs.regime, h.inputs.preparingHead, h.count]

theorem Air.Computes.sub {a b : Air} (h : a.Computes b) (c : Settings) : b.sub c = a.sub c := by
  unfold Air.sub
  rw [h.effective]

theorem Air.Computes.setback {a b : Air} (h : a.Computes b) : b.setback = a.setback := by
  unfold Air.setback
  rw [h.inputs.regime, h.vacant]

/-- D is a function of the inputs (R107 to R109). -/
theorem Air.Computes.demandNow {a b : Air} (h : a.Computes b) (c : Settings) : b.demandNow c = a.demandNow c := by
  simp only [Air.demandNow, Air.demandOutsideSetback, Air.co2Boost, h.setback, h.sub, h.inputs.boost, h.co2]

theorem Air.Computes.minimumNow {a b : Air} (h : a.Computes b) (c : Settings) : b.minimumNow c = a.minimumNow c := by
  unfold Air.minimumNow
  rw [h.setback]

/-- Figures that are current stay so while neither they nor the inputs change. -/
theorem State.figuresCurrent_of_same (computes : s.air.Computes t.air) (figures : t.air.figures = s.air.figures)
    (loader : t.loader = s.loader) (current : s.figuresCurrent) : t.figuresCurrent := by
  unfold State.figuresCurrent at *
  rw [figures, current, loader, computes.demandNow, computes.minimumNow, computes.inputs.regime, computes.inputs.mode]

/-! ### The damper and the shortfall state settle -/

theorem compareDamper_settles (s : State) : AirSettles s (compareDamper s) := by
  refine ⟨compareDamper_frame s, ?_, ?_⟩
  all_goals
    unfold compareDamper
    split
    · split <;> rfl
    · rfl

theorem setAir_settles (s : State) (grant command : Nat) : AirSettles s (s.setAir { s.air with grant := grant, command := command }) :=
  ⟨AirFrame.setAir s _ rfl, rfl, rfl⟩

theorem setCommand_settles (command : Nat) (s : State) : AirSettles s (setCommand command s) := by
  unfold setCommand
  split
  · exact .refl s
  · exact (setAir_settles s s.air.grant command).trans (compareDamper_settles _)

theorem setGrant_settles (grant : Nat) (s : State) : AirSettles s (setGrant grant s) :=
  (setAir_settles s grant s.air.command).trans (setCommand_settles _ _)

theorem regrant_settles (s : State) : AirSettles s (regrant s) := by
  unfold regrant
  split
  · exact .refl s
  · exact setGrant_settles _ s

theorem judgeShortfall_settles (s : State) : AirSettles s (judgeShortfall s) := by
  refine ⟨judgeShortfall_frame s, ?_, ?_⟩
  all_goals
    unfold judgeShortfall
    split
    · split <;> rfl
    · split <;> rfl

/-! ### CLAIMs -/

theorem offerFigures_claims (s : State) : AirClaims s (offerFigures s) := by
  refine ⟨offerFigures_frame s, offerAnswered_alert _ _, ?_⟩
  rw [show (offerFigures s).air = _ from (offer_frame _ _).air]
  rfl

theorem offerWithdrawal_claims (s : State) : AirClaims s (offerWithdrawal s) := by
  refine ⟨offerWithdrawal_frame s, offerAnswered_alert _ _, ?_⟩
  rw [show (offerWithdrawal s).air = _ from (offer_frame _ _).air]
  rfl

theorem offerClaim_claims (s : State) : AirClaims s (offerClaim s) := by
  unfold offerClaim
  split
  · exact offerWithdrawal_claims s
  · exact offerFigures_claims s

theorem triggerClaim_claims (s : State) : AirClaims s (triggerClaim s) := by
  unfold triggerClaim
  split
  · split
    · exact offerClaim_claims s
    · exact ⟨AirFrame.setAir s _ rfl, rfl, rfl⟩
  · exact .refl s

theorem testTrigger_claims (s : State) : AirClaims s (testTrigger s) := by
  unfold testTrigger
  split
  · exact triggerClaim_claims s
  · exact .refl s

/-! ### Recomputation (R110) -/

/-- D, M and the class computed from the inputs as they stand. -/
def figured (s : State) : State :=
  s.setAir { s.air with
    demand := s.air.demandNow s.loader.settings
    minimum := s.air.minimumNow s.loader.settings
    claimClass := claimClassOf s.air.regime s.air.mode }

/-- The state before the trigger test of a recomputation. -/
def regranted (s : State) : State :=
  judgeShortfall (if (figured s).air.figures = s.air.figures then figured s else regrant (figured s))

theorem recomputeDemand_of_normal (normal : s.isNormal = true) : recomputeDemand s = testTrigger (regranted s) :=
  if_neg (by simp [normal])

theorem recomputeDemand_of_fallback (fallback : s.isNormal = false) : recomputeDemand s = s := if_pos (by simp [fallback])

theorem figured_computes (s : State) : s.air.Computes (figured s).air := ⟨⟨rfl, rfl, rfl, rfl, rfl, rfl⟩, rfl, rfl, rfl, rfl, rfl⟩

theorem figured_current (s : State) : (figured s).figuresCurrent := rfl

theorem regranted_settles (s : State) : AirSettles (figured s) (regranted s) := by
  refine AirSettles.trans ?_ (judgeShortfall_settles _)
  split
  · exact .refl _
  · exact regrant_settles _

theorem recomputeDemand_computes (s : State) : s.air.Computes (recomputeDemand s).air := by
  cases normal : s.isNormal with
  | false =>
    rw [recomputeDemand_of_fallback normal]
    exact .refl _
  | true =>
    rw [recomputeDemand_of_normal normal]
    exact (figured_computes s).trans ((regranted_settles s).computes.trans (testTrigger_claims _).computes)

theorem recomputeDemand_current (normal : s.isNormal = true) : (recomputeDemand s).figuresCurrent := by
  rw [recomputeDemand_of_normal normal]
  exact State.figuresCurrent_of_same (testTrigger_claims _).computes (testTrigger_claims _).figures (testTrigger_claims _).loader
    (State.figuresCurrent_of_same (regranted_settles s).computes (regranted_settles s).figures (regranted_settles s).loader
      (figured_current s))

theorem recomputeDemand_alertsKept (s : State) : AlertsKept [.damperFault, .shortfall] s (recomputeDemand s) :=
  (alertsKept_closed _ s).recomputeDemand (by simp) (by simp) (AlertsKept.refl _ s)

/-! ### CO2 (R104 to R106) -/

/-- The state in which a CO2 reading has been taken, before demand is recomputed. -/
def co2Read (ppm : Nat) (s : State) : State :=
  let read := setCo2 ppm (s.setAir { s.air with co2State := .live, co2Timer := s.timer (minutes 15) })
  if s.air.co2State == .lost then clearAlert .co2Lost read else read

/-- The state in which the loss of CO2 has been taken, before demand is recomputed. -/
def co2Gone (s : State) : State :=
  raiseAlert .co2Lost (setCo2 s.loader.settings.setpoint (s.setAir { s.air with co2State := .lost, co2Timer := none }))

theorem takeCo2_eq (ppm : Nat) (s : State) : takeCo2 ppm s = recomputeDemand (co2Read (clamp 300 5000 ppm) s) := rfl

theorem loseCo2_eq (s : State) : loseCo2 s = recomputeDemand (co2Gone s) := rfl

theorem setCo2_air (ppm : Nat) (s : State) : (setCo2 ppm s).air = { s.air with co2 := ppm } := by
  unfold setCo2 alertIs
  split <;> rfl

theorem setCo2_rest (ppm : Nat) (s : State) : (setCo2 ppm s).bus = s.bus ∧ (setCo2 ppm s).loader = s.loader := by
  unfold setCo2 alertIs
  split <;> exact ⟨rfl, rfl⟩

theorem isRaised_setCo2_high (ppm : Nat) (s : State) :
    (setCo2 ppm s).isRaised .co2High = decide (s.loader.settings.setpoint + 600 ≤ ppm) :=
  (isRaised_alertIs _ _ _ _).trans (if_pos rfl)

theorem isRaised_setCo2_other (ppm : Nat) (s : State) {a : Alert} (other : .co2High ≠ a) :
    (setCo2 ppm s).isRaised a = s.isRaised a :=
  (isRaised_alertIs _ _ _ _).trans (if_neg other)

theorem co2Read_air (ppm : Nat) (s : State) :
    (co2Read ppm s).air = { s.air with co2 := ppm, co2State := .live, co2Timer := some (s.now + 900000) } := by
  unfold co2Read
  dsimp only
  split <;> exact setCo2_air _ _

theorem co2Read_rest (ppm : Nat) (s : State) : (co2Read ppm s).bus = s.bus ∧ (co2Read ppm s).loader = s.loader := by
  unfold co2Read
  dsimp only
  split <;> exact setCo2_rest _ _

theorem isRaised_co2Read_high (ppm : Nat) (s : State) :
    (co2Read ppm s).isRaised .co2High = decide (s.loader.settings.setpoint + 600 ≤ ppm) := by
  unfold co2Read
  dsimp only
  split
  · rw [isRaised_clear, isRaised_setCo2_high]
    exact Bool.and_true _
  · exact isRaised_setCo2_high _ _

theorem isRaised_co2Read_lost (ppm : Nat) {s : State} (lost : s.isRaised .co2Lost = true → s.air.co2State = .lost) :
    (co2Read ppm s).isRaised .co2Lost = false := by
  unfold co2Read
  dsimp only
  split
  · rw [isRaised_clear]
    exact Bool.and_false _
  next live =>
    rw [isRaised_setCo2_other _ _ (by decide), Bool.eq_false_iff]
    intro raised
    exact live (by rw [lost raised]; rfl)

theorem isRaised_co2Read_other (ppm : Nat) (s : State) {a : Alert} (high : .co2High ≠ a) (lost : .co2Lost ≠ a) :
    (co2Read ppm s).isRaised a = s.isRaised a := by
  unfold co2Read
  dsimp only
  split
  · rw [isRaised_clear, isRaised_setCo2_other _ _ high, decide_eq_false lost]
    exact Bool.and_true _
  · exact isRaised_setCo2_other _ _ high

theorem co2Gone_air (s : State) :
    (co2Gone s).air = { s.air with co2 := s.loader.settings.setpoint, co2State := .lost, co2Timer := none } := setCo2_air _ _

theorem isRaised_co2Gone_high (s : State) : (co2Gone s).isRaised .co2High = false := by
  rw [co2Gone, isRaised_raise, isRaised_setCo2_high]
  simp

theorem isRaised_co2Gone_lost (s : State) : (co2Gone s).isRaised .co2Lost = true := by
  rw [co2Gone, isRaised_raise]
  exact Bool.or_true _

theorem isRaised_co2Gone_other (s : State) {a : Alert} (high : .co2High ≠ a) (lost : .co2Lost ≠ a) :
    (co2Gone s).isRaised a = s.isRaised a := by
  rw [co2Gone, isRaised_raise, isRaised_setCo2_other _ _ high, decide_eq_false lost]
  exact Bool.or_false _

/-- A recomputation from a state with given inputs, alerts and settings: what it leaves of them. -/
theorem recomputed_alert {s u : State} {touched : List Alert} (a : Alert)
    (damper : .damperFault ∈ touched) (short : .shortfall ∈ touched) (other : a ∉ touched) (same : u.isRaised a = s.isRaised a) :
    (recomputeDemand u).isRaised a = s.isRaised a :=
  ((alertsKept_closed touched u).recomputeDemand damper short (AlertsKept.refl _ u) a other).trans same

/-- Settles O35: a reading and a loss set the input, and the recomputation leaves it alone. -/
theorem co2IsTakenAndLost : Obligations.Co2IsTakenAndLost := by
  rintro s up lost
  refine ⟨?_, ?_⟩
  · rintro ppm c rfl
    have computes := recomputeDemand_computes (co2Read (max 300 (min ppm 5000)) s)
    have kept := recomputeDemand_alertsKept (co2Read (max 300 (min ppm 5000)) s)
    obtain ⟨bus, loader⟩ := co2Read_rest (max 300 (min ppm 5000)) s
    refine ⟨takeCo2 ppm s, exec_of_started (effectOf_co2Reading ppm s) up, takeCo2_frame ppm s, ?_⟩
    rw [takeCo2_eq, show clamp 300 5000 ppm = max 300 (min ppm 5000) by rw [clamp, Nat.min_comm]]
    have before : s.air.SameInputs (co2Read (max 300 (min ppm 5000)) s).air := by
      rw [co2Read_air]
      exact ⟨rfl, rfl, rfl, rfl, rfl, rfl⟩
    rw [co2Read_air] at computes
    refine ⟨before.trans (recomputeDemand_computes _).inputs, computes.count, computes.vacant, computes.co2,
      computes.co2State, computes.co2Timer, (kept _ (by simp)).trans (isRaised_co2Read_lost _ lost),
      (kept _ (by simp)).trans (isRaised_co2Read_high _ _), fun a other => ?_, fun normal => ?_⟩
    · have ⟨notHigh, notLost⟩ : .co2High ≠ a ∧ .co2Lost ≠ a := by
        constructor <;> rintro rfl <;> simp at other
      exact recomputed_alert a (by simp) (by simp) other (isRaised_co2Read_other _ _ notHigh notLost)
    · have read : (co2Read (max 300 (min ppm 5000)) s).isNormal = true := by
        unfold State.isNormal
        rwa [loader]
      have settles := regranted_settles (co2Read (max 300 (min ppm 5000)) s)
      refine ⟨recomputeDemand_current read, _, recomputeDemand_of_normal read, settles.bus.trans bus, settles.record.trans ?_,
        settles.rateWindow.trans ?_⟩
      · exact (congrArg Air.record (co2Read_air (max 300 (min ppm 5000)) s) :)
      · exact (congrArg Air.rateWindow (co2Read_air (max 300 (min ppm 5000)) s) :)
  · rintro due n runs rfl
    have computes := recomputeDemand_computes (co2Gone (s.setNow (max s.now due)))
    have before : s.air.SameInputs (co2Gone (s.setNow (max s.now due))).air := by
      rw [co2Gone_air]
      exact ⟨rfl, rfl, rfl, rfl, rfl, rfl⟩
    have kept := recomputeDemand_alertsKept (co2Gone (s.setNow (max s.now due)))
    refine ⟨loseCo2 (s.setNow (max s.now due)), exec_of_expiry (timer := (·.air.co2Timer)) (effectOf_co2LossTimerExpiry s) up runs,
      loseCo2_frame _, ?_⟩
    rw [loseCo2_eq]
    rw [co2Gone_air] at computes
    refine ⟨before.trans (recomputeDemand_computes _).inputs, computes.count, computes.vacant, computes.co2,
      computes.co2State, computes.co2Timer, (kept _ (by simp)).trans (isRaised_co2Gone_lost _),
      (kept _ (by simp)).trans (isRaised_co2Gone_high _), fun a other => ?_, fun normal => recomputeDemand_current ?_⟩
    · have ⟨notHigh, notLost⟩ : .co2High ≠ a ∧ .co2Lost ≠ a := by
        constructor <;> rintro rfl <;> simp at other
      exact recomputed_alert a (by simp) (by simp) other (isRaised_co2Gone_other _ notHigh notLost)
    · unfold State.isNormal co2Gone
      rw [show (raiseAlert .co2Lost _).loader = _ from (setCo2_rest _ _).2]
      exact normal

end Sys2Proof.Machine
end

section
/-!
PROOFS. What the room's laws do not look at: the frames that are no CLAIM, the Week Clock, the Intake and the entries of the list. A
property of the rest is kept by the Session Engine and the Intake where the regime's publication and an end of override keep it.
-/

namespace Sys2Proof.Machine

/-! ### CLAIMs on the transmit side -/

/-- The transmit side carries no CLAIM but those it carried and those of a body. -/
def BusPort.NoClaimBut (b c : BusPort) (body : Option (List Byte)) : Prop :=
  ∀ g, g.kind = .claim → c.carries g → b.carries g ∨ body = some g.body

theorem BusPort.NoClaimBut.refl (b : BusPort) (body : Option (List Byte)) : b.NoClaimBut b body := fun _ _ => .inl

theorem BusPort.NoClaimBut.trans {b c d : BusPort} {body : Option (List Byte)} (h : b.NoClaimBut c body)
    (k : c.NoClaimBut d body) : b.NoClaimBut d body := fun g claim carried =>
  (k g claim carried).elim (h g claim) .inr

/-- What is carried in the queue or on the line of a Bus Port is carried in that of another. -/
theorem BusPort.NoClaimBut.of_subset {b c : BusPort} (h : ∀ g, c.carries g → b.carries g) (body : Option (List Byte)) :
    b.NoClaimBut c body := fun g _ carried => .inl (h g carried)

/-- What takes the place of a CLAIM is a CLAIM (R20). -/
theorem replaces_claim {f w : Frame} (replaced : replaces f w = true) (claim : w.kind = .claim) : f.kind = .claim := by
  rcases (replaces_iff f w).1 replaced with ⟨own, -⟩ | ⟨-, sun⟩ | ⟨-, reply, -⟩
  · exact own
  · exact nomatch sun.symm.trans claim
  · exact nomatch reply.symm.trans claim

theorem noClaimBut_enqueue (b : BusPort) (f : Frame) {body : Option (List Byte)}
    (own : f.kind = .claim → body = some f.body) : b.NoClaimBut (b.enqueue f).1 body := by
  intro g claim carried
  rcases enqueue_shapes b f with ⟨before, w, after, split, replaced, e⟩ | ⟨-, -, e⟩ | e | ⟨before, v, after, split, -, -, e⟩ <;>
    rw [e] at carried
  · rcases carried with queued | sent
    · rcases List.mem_append.1 queued with earlier | later
      · exact .inl (.inl (split ▸ List.mem_append_left _ earlier))
      · rcases List.mem_cons.1 later with rfl | later
        · exact .inr (own (replaces_claim replaced claim))
        · exact .inl (.inl (split ▸ List.mem_append_right _ (List.mem_cons_of_mem _ later)))
    · exact .inl (.inr sent)
  · rcases carried with queued | sent
    · rcases List.mem_append.1 queued with earlier | last
      · exact .inl (.inl earlier)
      · rw [List.mem_singleton.1 last] at claim ⊢
        exact .inr (own claim)
    · exact .inl (.inr sent)
  · exact .inl carried
  · rcases carried with queued | sent
    · rcases List.mem_append.1 queued with stays | last
      · refine .inl (.inl (split ▸ ?_))
        rcases List.mem_append.1 stays with earlier | later
        · exact List.mem_append_left _ earlier
        · exact List.mem_append_right _ (List.mem_cons_of_mem _ later)
      · rw [List.mem_singleton.1 last] at claim ⊢
        exact .inr (own claim)
    · exact .inl (.inr sent)

theorem carries_of_takeHead {b : BusPort} {g : Frame} (h : b.takeHead.carries g) : b.carries g := by
  rcases takeHead_shapes b with e | ⟨before, f, after, idle, -, split, -, e⟩ <;> rw [e] at h
  · exact h
  · refine .inl (split ▸ ?_)
    rcases h with queued | ⟨_, sent⟩ | ⟨_, backs⟩
    · rcases List.mem_append.1 queued with earlier | later
      · exact List.mem_append_left _ earlier
      · exact List.mem_append_right _ (List.mem_cons_of_mem _ later)
    · injection sent with same
      exact List.mem_append_right _ (same ▸ List.mem_cons_self)
    · exact nomatch backs

theorem noClaimBut_offerAnswered (f : Frame) (s : State) {body : Option (List Byte)} (own : f.kind = .claim → body = some f.body) :
    s.bus.NoClaimBut (offerAnswered f s).1.bus body := by
  rcases offerAnswered_cases f s with ⟨-, e⟩ | ⟨-, e⟩ <;> rw [e]
  · exact (noClaimBut_enqueue s.bus f own).trans (.of_subset (fun _ => carries_of_takeHead) _)
  · exact .refl _ _

/-! ### What is aside of the room's laws -/

/-- The state stands as it stood but for what the laws of the room do not look at. -/
structure Aside (s t : State) : Prop where
  loader : t.loader = s.loader
  air : t.air = s.air
  light : t.light = s.light
  blind : t.blind = s.blind
  panel : t.panel = s.panel
  peers : t.peers = s.peers
  asserted : t.alert.emergency = s.alert.emergency
  emergency : t.isRaised .emergency = s.isRaised .emergency
  damperFault : t.isRaised .damperFault = s.isRaised .damperFault
  regime : t.session.regime = s.session.regime
  mode : t.session.mode = s.session.mode
  head : t.session.preparingHead = s.session.preparingHead
  count : t.counter.count = s.counter.count
  vacant : t.counter.vacant = s.counter.vacant
  claims : s.bus.NoClaimBut t.bus none

section Asides

variable {s t u : State}

/-- A change of parts the laws do not look at, and of the Bus Port. -/
theorem Aside.of_bus {s : State} {b : BusPort} (h : s.bus.NoClaimBut b none) : Aside s (s.setBus b) := by
  constructor
  case claims => exact h
  all_goals rfl

theorem Aside.refl (s : State) : Aside s s := by
  constructor
  case claims => exact .refl _ _
  all_goals rfl

theorem Aside.trans (h : Aside s t) (k : Aside t u) : Aside s u where
  loader := k.loader.trans h.loader
  air := k.air.trans h.air
  light := k.light.trans h.light
  blind := k.blind.trans h.blind
  panel := k.panel.trans h.panel
  peers := k.peers.trans h.peers
  asserted := k.asserted.trans h.asserted
  emergency := k.emergency.trans h.emergency
  damperFault := k.damperFault.trans h.damperFault
  regime := k.regime.trans h.regime
  mode := k.mode.trans h.mode
  head := k.head.trans h.head
  count := k.count.trans h.count
  vacant := k.vacant.trans h.vacant
  claims := h.claims.trans k.claims

/-- The entries and the minutes of the Session Engine are aside; the regime it publishes is not. -/
theorem Aside.setSession (s : State) {v : SessionEngine} (regime : v.regime = s.session.regime) (mode : v.mode = s.session.mode)
    (head : v.preparingHead = s.session.preparingHead) : Aside s (s.setSession v) := by
  constructor
  case claims => exact .refl _ _
  case regime => exact regime
  case mode => exact mode
  case head => exact head
  all_goals rfl

theorem Aside.setIntake (s : State) (v : Intake) : Aside s (s.setIntake v) := by
  constructor
  case claims => exact .refl _ _
  all_goals rfl

theorem Aside.setClock (s : State) (v : WeekClock) : Aside s (s.setClock v) := by
  constructor
  case claims => exact .refl _ _
  all_goals rfl

theorem Aside.setDraws (s : State) (n : Nat) : Aside s (s.setDraws n) := by
  constructor
  case claims => exact .refl _ _
  all_goals rfl

theorem Aside.setNow (s : State) (n : Nat) : Aside s (s.setNow n) := by
  constructor
  case claims => exact .refl _ _
  all_goals rfl

theorem Aside.setLines (s : State) (v : Lines) : Aside s (s.setLines v) := by
  constructor
  case claims => exact .refl _ _
  all_goals rfl

theorem Aside.setPending (s : State) (v : List Instr) : Aside s (s.setPending v) := by
  constructor
  case claims => exact .refl _ _
  all_goals rfl

theorem Aside.setInbox (s : State) (v : List Instr) : Aside s (s.setInbox v) := by
  constructor
  case claims => exact .refl _ _
  all_goals rfl

theorem Aside.setDebounce (s : State) (v : Timer) : Aside s (s.setAlert { s.alert with debounce := v }) := by
  constructor
  case claims => exact .refl _ _
  all_goals rfl

/-- A counter with the same N and vacant flag. -/
theorem Aside.setCounter (s : State) {v : Counter} (count : v.count = s.counter.count) (vacant : v.vacant = s.counter.vacant) :
    Aside s (s.setCounter v) := by
  constructor
  case claims => exact .refl _ _
  case count => exact count
  case vacant => exact vacant
  all_goals rfl

/-- An alert other than EMERGENCY and DAMPER_FAULT is aside. -/
theorem Aside.raise (s : State) {a : Alert} (notEmergency : a ≠ .emergency) (notDamper : a ≠ .damperFault) :
    Aside s (raiseAlert a s) := by
  constructor
  case claims => exact .refl _ _
  case emergency => rw [isRaised_raise, decide_eq_false notEmergency, Bool.or_false]
  case damperFault => rw [isRaised_raise, decide_eq_false notDamper, Bool.or_false]
  all_goals rfl

theorem Aside.clear (s : State) {a : Alert} (notEmergency : a ≠ .emergency) (notDamper : a ≠ .damperFault) :
    Aside s (clearAlert a s) := by
  constructor
  case claims => exact .refl _ _
  case emergency => rw [isRaised_clear, decide_eq_false notEmergency, Bool.not_false, Bool.and_true]
  case damperFault => rw [isRaised_clear, decide_eq_false notDamper, Bool.not_false, Bool.and_true]
  all_goals rfl

/-- A frame that is no CLAIM is offered. -/
theorem Aside.offer (s : State) {f : Frame} (kind : f.kind ≠ .claim) : Aside s (offerAnswered f s).1 := by
  have claims := noClaimBut_offerAnswered f s (body := none) fun claim => absurd claim kind
  have raised := isRaised_offer f s
  rcases offerAnswered_cases f s with ⟨-, e⟩ | ⟨-, e⟩ <;> rw [e] at claims ⊢
  · exact .of_bus claims
  · exact .refl s

theorem Aside.offers (s : State) {frames : List Frame} (kinds : ∀ f ∈ frames, f.kind ≠ .claim) :
    Aside s (forEach frames Machine.offer s) := by
  induction frames generalizing s with
  | nil => exact .refl s
  | cons f rest ih =>
    obtain ⟨first, others⟩ := List.forall_mem_cons.1 kinds
    exact (Aside.offer s first).trans (ih _ others)

end Asides

/-! ### The Session Engine offers no CLAIM -/

/-- The reports of a turn are SESSION REPORTS. -/
def Turn.Reported (t : Turn) : Prop := ∀ f ∈ t.reports, f.kind = .sessionReport

/-- The reports of the engine's work are SESSION REPORTS. -/
def EngineWork.Reported (w : EngineWork) : Prop := ∀ f ∈ w.reports, f.kind = .sessionReport

theorem Turn.keep_reported (e : Entry) : (Turn.keep e).Reported := fun _ h => nomatch h

theorem Turn.remove_reported : Turn.remove.Reported := fun _ h => nomatch h

theorem Entry.finish_reported (e : Entry) (cause : EndCause) : (e.finish cause).Reported := by
  intro f mem
  unfold Entry.finish at mem
  dsimp only at mem
  split at mem
  · rw [List.mem_singleton.1 mem]
    rfl
  · exact nomatch mem

theorem Entry.evaluate_reported (m count graceMinutes : Nat) (byJump : Bool) (e : Entry) :
    (e.evaluate m count graceMinutes byJump).Reported := by
  have opened : Turn.Reported { kept := some (e.activate m count graceMinutes byJump), reports := [], boundaries := 1 } :=
    fun _ h => nomatch h
  unfold Entry.evaluate
  dsimp only
  repeat' split
  all_goals simp only [opened, Turn.keep_reported, Entry.finish_reported]

theorem EngineWork.Reported.each {w : EngineWork} {take : Entry → Turn} (h : w.Reported) (turns : ∀ e, (take e).Reported) :
    (w.each take).Reported := by
  intro f mem
  unfold EngineWork.each at mem
  simp only [List.mem_append, List.mem_flatMap] at mem
  rcases mem with (held | ⟨e, -, given⟩) | ⟨e, -, given⟩
  · exact h f held
  · exact turns e f given
  · exact turns e f given

theorem SessionEngine.work_reported (e : SessionEngine) : e.work.Reported := fun _ h => nomatch h

theorem Entry.passEnd_reported (old new graceMinutes : Nat) (e : Entry) : (e.passEnd old new graceMinutes).Reported := by
  unfold Entry.passEnd
  split
  · split
    · exact e.finish_reported _
    · split
      · exact Turn.keep_reported _
      · exact Turn.keep_reported _
  · exact Turn.keep_reported _

theorem Entry.passOccurrence_reported (old new : Nat) (e : Entry) : (e.passOccurrence old new).Reported := by
  have waits : Turn.Reported (if e.passed old new then
      if e.weekly then .keep { e with state := .pending, skip := false, carried := false } else e.finish .missed
      else .keep e) := by
    split
    · split
      · exact Turn.keep_reported _
      · exact e.finish_reported _
    · exact Turn.keep_reported _
  unfold Entry.passOccurrence
  split
  · exact waits
  · exact waits
  · split
    · exact Turn.keep_reported _
    · exact Turn.keep_reported _
  · exact Turn.keep_reported _

theorem Entry.takeBack_reported (new count graceMinutes : Nat) (e : Entry) : (e.takeBack new count graceMinutes).Reported := by
  unfold Entry.takeBack
  split
  · split
    · exact Turn.keep_reported _
    · exact fun _ h => nomatch h
  · unfold Entry.evaluateBack
    split
    · exact Entry.evaluate_reported _ _ _ _ _
    · exact Entry.evaluate_reported _ _ _ _ _

theorem Entry.release_reported (e : Entry) : e.release.Reported := by
  unfold Entry.release
  split
  · exact e.finish_reported _
  · exact Turn.keep_reported _

theorem AtOnce.evaluate_reported (now : AtOnce) (e : Entry) : (now.evaluate e).Reported := by
  unfold AtOnce.evaluate
  split
  · exact e.evaluate_reported _ _ _ _
  · exact Turn.keep_reported _

theorem AtOnce.amend_reported (now : AtOnce) (newEnd : Bool) (e : Entry) : (now.amend newEnd e).Reported := by
  unfold AtOnce.amend
  split
  · split
    · exact e.finish_reported _
    · exact Turn.keep_reported _
  all_goals exact now.evaluate_reported e

theorem Entry.cancelOccurrence_reported (e : Entry) : e.cancelOccurrence.Reported := by
  unfold Entry.cancelOccurrence
  split
  · exact e.finish_reported _
  · exact Turn.keep_reported _
  · exact Turn.keep_reported _
  · exact Turn.keep_reported _
  · exact Turn.remove_reported

theorem Entry.cancelSeries_reported (e : Entry) : e.cancelSeries.Reported := by
  unfold Entry.cancelSeries
  split
  · exact e.finish_reported .cancelled
  · exact Turn.remove_reported

theorem EngineWork.Reported.only {w : EngineWork} {id : Nat} {take : Entry → Turn} (h : w.Reported)
    (turns : ∀ e, (take e).Reported) : (w.only id take).Reported :=
  h.each fun e => by
    split
    · exact turns e
    · exact Turn.keep_reported _

theorem applyItem_reported (capacity : Nat) (now : AtOnce) (item : Item) {w : EngineWork} (h : w.Reported) :
    (applyItem capacity now item w).Reported := by
  unfold applyItem
  split
  · exact EngineWork.Reported.only (by exact h) now.evaluate_reported
  · exact h.only fun e => now.amend_reported _ _
  · exact h.only Entry.cancelOccurrence_reported
  · exact h.only Entry.cancelSeries_reported

theorem forwardWork_reported (old new count graceMinutes : Nat) {w : EngineWork} (h : w.Reported) :
    (forwardWork old new count graceMinutes w).Reported :=
  ((h.each (Entry.passEnd_reported old new graceMinutes)).each (Entry.passOccurrence_reported old new)).each
    (Entry.evaluate_reported new count graceMinutes true)

/-! ### What the Session Engine and the Intake keep -/

/-- The property looks at nothing aside of the room's laws, and is kept by the publication of the regime, by an end of override, and by
the reading of the shortfall record. -/
structure EngineKeeps (P : State → Prop) : Prop where
  aside : ∀ {s t : State}, Aside s t → P s → P t
  regime : ∀ {s : State} (minute : Nat), P s → P (publishRegime minute s)
  ends : ∀ {s : State} (cause : OverrideCause), P s → P (endIfOn cause s)
  record : ∀ {s : State}, P s → P (readShortfall s).2

namespace EngineKeeps

variable {P : State → Prop} {s : State}

theorem finishWork (h : EngineKeeps P) (minute : Nat) {w : EngineWork} (reports : w.Reported) (p : P s) :
    P (finishWork minute w s) :=
  forEach_keeps P _ (fun _ _ p => h.ends _ p) _ _ (h.regime _ (h.aside
    (Aside.offers _ fun f mem kind => nomatch (reports f mem).symm.trans kind) (h.aside (Aside.setSession s rfl rfl rfl) p)))

theorem addTallies (h : EngineKeeps P) (p : P s) : P (addTallies s) :=
  h.aside (Aside.setSession (readShortfall s).2 rfl rfl rfl) (h.record p)

theorem takeClockEvent (h : EngineKeeps P) (e : ClockEvent) (p : P s) : P (takeClockEvent e s) := by
  cases e with
  | minute m =>
    have taken := h.aside (Aside.setSession s (v := { s.session with lastMinute := some m }) rfl rfl rfl) p
    exact h.finishWork _ ((SessionEngine.work_reported _).each (Entry.evaluate_reported _ _ _ _))
      (ite_keeps (h.addTallies taken) taken)
  | jump old _ new _ isForward =>
    refine h.finishWork _ ?_ (h.aside (Aside.setSession s (v := { s.session with lastMinute := some new }) rfl rfl rfl) p)
    dsimp only
    split
    · exact forwardWork_reported _ _ _ _ (SessionEngine.work_reported _)
    · exact (SessionEngine.work_reported _).each (Entry.takeBack_reported _ _ _)

theorem sendClockEvent (h : EngineKeeps P) (e : ClockEvent) (p : P s) : P (sendClockEvent e s) := by
  rcases sendClockEvent_cases e s with ⟨-, sent⟩ | ⟨-, sent⟩ <;> rw [sent]
  · exact h.aside (Aside.setIntake _ _) p
  · exact h.takeClockEvent e p

theorem setClock (h : EngineKeeps P) (v : WeekClock) (p : P s) : P (s.setClock v) := h.aside (Aside.setClock s v) p

theorem setIntake (h : EngineKeeps P) (v : Intake) (p : P s) : P (s.setIntake v) := h.aside (Aside.setIntake s v) p

theorem clockTick (h : EngineKeeps P) (due : Nat) (p : P s) : P (clockTick due s) :=
  ite_keeps (ite_keeps (h.setClock _ (h.setClock _ p)) (h.sendClockEvent _ (h.setClock _ (h.setClock _ p)))) (h.setClock _ p)

theorem takeMark (h : EngineKeeps P) (minute second : Nat) (p : P s) : P (takeMark minute second s) := by
  have quietly (d : Int) : P (adoptQuietly d minute second s) :=
    ite_keeps (h.sendClockEvent _ (h.setClock _ p)) (h.setClock _ p)
  have first : P (adoptFirst minute second s) :=
    h.sendClockEvent _ (h.aside (Aside.clear _ (by decide) (by decide)) (h.setClock _ p))
  exact ite_keeps p (ite_keeps (ite_keeps p (ite_keeps (quietly _) (h.sendClockEvent _ (h.setClock _ p)))) first)

theorem releaseEarly (h : EngineKeeps P) (minute : Nat) (p : P s) : P (releaseEarly minute s) :=
  ite_keeps (h.finishWork _ ((SessionEngine.work_reported _).each Entry.release_reported) p) p

theorem markEntries (h : EngineKeeps P) (count : Nat) (occupied : Bool) (p : P s) : P (markEntries count occupied s) :=
  h.aside (Aside.setSession s rfl rfl rfl) p

theorem sessionOccupancy (h : EngineKeeps P) (e : OccupancyEvent) (p : P s) : P (sessionOccupancy e s) := by
  unfold Machine.sessionOccupancy
  split
  · exact h.aside (Aside.setSession s rfl rfl rfl) p
  · split
    · exact h.releaseEarly _ p
    all_goals exact ite_keeps p (h.markEntries _ _ p)

theorem catchUp (h : EngineKeeps P) (p : P s) : P (catchUp s) := by
  have noted := h.aside (Aside.setSession s (v := { s.session with catchUp := false }) rfl rfl rfl) p
  have marked := ite_keeps (c := 0 < s.counter.count) (h.markEntries s.counter.count true noted) noted
  exact ite_keeps (ite_keeps (h.releaseEarly _ marked) marked) noted

theorem releaseHeld (h : EngineKeeps P) (p : P s) : P (releaseHeld s) :=
  forEach_keeps P _ (fun e _ => h.takeClockEvent e) _ _ (h.catchUp (h.setIntake _ p))

theorem offer (h : EngineKeeps P) {f : Frame} (kind : f.kind ≠ .claim) (p : P s) : P (offer f s) := h.aside (Aside.offer s kind) p

theorem giveResult (h : EngineKeeps P) (item : Item) (verdict : Verdict) (p : P s) : P (giveResult item verdict s) :=
  h.offer (by simp [Frame.plain]) (h.setIntake _ p)

theorem paceSender (h : EngineKeeps P) (sender : Byte) (p : P s) : P (paceSender sender s) := by
  have held := h.offer (f := Frame.plain .hold sender (depthBody s.intake.queue.length)) (by simp [Frame.plain]) p
  exact ite_keeps p (ite_keeps (h.setIntake _ held) held)

theorem resumeSenders (h : EngineKeeps P) (p : P s) : P (resumeSenders s) :=
  ite_keeps p (forEach_keeps P _ (fun _ _ p => h.offer (by simp [Frame.plain]) p) _ _
    (h.setIntake _ (h.aside (Aside.setDraws s _) p)))

theorem beginMerge (h : EngineKeeps P) (p : P s) : P (beginMerge s) := by
  unfold Machine.beginMerge
  split
  · exact h.resumeSenders (h.setIntake _ p)
  · exact p

theorem arrive (h : EngineKeeps P) (item : Item) (p : P s) : P (arrive item s) :=
  ite_keeps (ite_keeps (h.beginMerge (h.paceSender _ (h.setIntake _ p))) (h.paceSender _ (h.giveResult _ _ p)))
    (h.giveResult _ _ p)

theorem settleItem (h : EngineKeeps P) (item : Item) (p : P s) : P (settleItem item s) :=
  h.giveResult _ _ (ite_keeps (h.finishWork _ (applyItem_reported _ _ _ (SessionEngine.work_reported _)) p) p)

theorem completeMerge (h : EngineKeeps P) (item : Item) (p : P s) : P (completeMerge item s) :=
  h.beginMerge (h.setIntake _ (h.releaseHeld (h.settleItem item p)))

theorem intakeRestart (h : EngineKeeps P) (p : P s) : P (intakeRestart s) := h.setIntake _ (h.releaseHeld (h.setIntake _ p))

end EngineKeeps

end Sys2Proof.Machine
end

section
/-!
PROOFS. Which changes of the Peer Table tell of the claims (R101, R118), and what it takes that every event keeps a law of the room: one
clause per event of a block, beside those of the Session Engine.
-/

namespace Sys2Proof.Machine

/-! ### Notices of claims -/

/-- A notice that has the Air Controller compute its grant again (R118). -/
def PeerNotice.ofClaims : PeerNotice → Bool
  | .claimAdded .. | .claimChanged .. | .claimRemoved _ | .emptied => true
  | .sunRecorded .. | .sunFresh .. | .sunStale .. | .sunRemoved _ | .feederChanged .. | .feederRemoved _ | .startHeard ..
  | .endHeard .. => false

theorem airNotice_of_claims {n : PeerNotice} (h : n.ofClaims = true) (s : State) : airNotice n s = airClaimNotice s := by
  cases n with
  | claimAdded | claimChanged | claimRemoved | emptied => rfl
  | sunRecorded | sunFresh | sunStale | sunRemoved | feederChanged | feederRemoved | startHeard | endHeard => exact nomatch h

theorem airNotice_of_others {n : PeerNotice} (h : n.ofClaims = false) (s : State) : airNotice n s = s := by
  cases n with
  | claimAdded | claimChanged | claimRemoved | emptied => exact nomatch h
  | sunRecorded | sunFresh | sunStale | sunRemoved | feederChanged | feederRemoved | startHeard | endHeard => rfl

/-- Work on a table that changes its claims tells of it. -/
def TableWork.Tells (w : TableWork) (t : PeerTable) : Prop :=
  w.table.claims = t.claims ∨ ∃ n ∈ w.notices, n.ofClaims = true

/-- The claim a slot holds, as the claims read answers it (R102). -/
def claimOf (slot : Option Peer) : Option PeerClaim :=
  slot.bind (fun p => p.claim.map (fun f => { peer := p.address, figures := f }))

theorem claims_eq (t : PeerTable) : t.claims = t.slots.filterMap claimOf := rfl

theorem filterMap_set_same {α β : Type} (g : α → Option β) {xs : List α} {i : Nat} {old new : α} (at_i : xs[i]? = some old)
    (same : g new = g old) : (xs.set i new).filterMap g = xs.filterMap g := by
  induction xs generalizing i with
  | nil => rfl
  | cons x xs ih =>
    cases i with
    | zero =>
      injection at_i with e
      rw [List.set_cons_zero, List.filterMap_cons, List.filterMap_cons, same, e]
    | succ i => rw [List.set_cons_succ, List.filterMap_cons, List.filterMap_cons, ih at_i]

namespace PeerTable

variable {t : PeerTable} {i : Nat} {old new : Option Peer}

theorem claims_write (at_i : t.slots[i]? = some old) (same : claimOf new = claimOf old) : (t.write i new).claims = t.claims :=
  filterMap_set_same claimOf at_i same

end PeerTable

/-- A message leaves the claim of its entry alone, or tells of it. -/
theorem Peer.record_tells (p : Peer) (m : PeerMessage) :
    claimOf (some (p.record m).1) = claimOf (some p) ∨ ∃ n ∈ (p.record m).2, n.ofClaims = true := by
  have told {n : PeerNotice} {ns : List PeerNotice} (ofClaims : n.ofClaims = true) :
      ∃ k ∈ m.heard p.address ++ [n] ++ ns, k.ofClaims = true := ⟨n, by simp, ofClaims⟩
  cases m with
  | claim f =>
    cases held : p.claim with
    | none => exact .inr (by simpa [Peer.record, Peer.take, held] using told rfl)
    | some g =>
      by_cases same : g = f
      · exact .inl (by simp [Peer.record, Peer.take, held, same, claimOf])
      · exact .inr (by simpa [Peer.record, Peer.take, held, same] using told rfl)
  | withdraw =>
    by_cases held : p.claim.isSome = true
    · exact .inr (by simpa [Peer.record, Peer.take, held] using told rfl)
    · exact .inl (by simp [Peer.record, Peer.take, held, claimOf])
  | sun => exact .inl rfl
  | start => exact .inl rfl
  | stop =>
    refine .inl ?_
    cases held : p.feeder <;> simp [Peer.record, Peer.take, held, claimOf]

/-- What leaves the table with a claim is told of. -/
theorem Peer.removal_tells (p : Peer) : claimOf (some p) = none ∨ ∃ n ∈ p.removal, n.ofClaims = true := by
  cases held : p.claim with
  | none => exact .inl (by simp [claimOf, held])
  | some f => exact .inr ⟨.claimRemoved p.address, by simp [Peer.removal, held], rfl⟩

theorem PeerTable.take_tells (t : PeerTable) (address : Byte) (m : PeerMessage) : (t.take address m).Tells t := by
  rcases t.take_cases address m with ⟨i, p, -, at_i, e⟩ | ⟨-, -, e⟩ | ⟨i, -, -, free, e⟩ | ⟨i, -, -, -, oldest, e⟩ | ⟨-, -, -, -, e⟩ <;>
    rw [e]
  · exact (p.record_tells m).imp_left (claims_write at_i)
  · exact .inl rfl
  · obtain ⟨slot, at_i, empty, -⟩ := findIdx?_first free
    rw [Option.isNone_iff_eq_none] at empty
    refine ((Peer.new address).record_tells m).imp_left fun same => claims_write at_i ?_
    rw [same, empty]
    rfl
  · cases at_i : t.slots[i]? with
    | none =>
      refine .inl (congrArg (List.filterMap claimOf) (List.set_eq_of_length_le ?_))
      exact List.getElem?_eq_none_iff.1 at_i
    | some slot =>
      rcases (Peer.new address).record_tells m with same | ⟨n, mem, told⟩
      · cases slot with
        | none => exact .inl (claims_write at_i same)
        | some p =>
          rcases p.removal_tells with without | ⟨n, mem, told⟩
          · exact .inl (claims_write at_i (same.trans without.symm))
          · exact .inr ⟨n, List.mem_append_left _ (by rw [entryAt_eq_some_iff.2 at_i]; exact mem), told⟩
      · exact .inr ⟨n, List.mem_append_right _ mem, told⟩
  · exact .inl rfl

theorem PeerTable.expire_tells (t : PeerTable) (address : Byte) : (t.expire address).Tells t := by
  unfold PeerTable.expire
  split
  next i p found =>
    simp only [Option.bind_eq_some_iff, Option.map_eq_some_iff, Prod.mk.injEq, PeerTable.entryAt_eq_some_iff] at found
    obtain ⟨j, -, q, at_i, rfl, rfl⟩ := found
    exact .inl (claims_write at_i rfl)
  next => exact .inl rfl

theorem PeerTable.visit_tells (t : PeerTable) : t.visit.Tells t := by
  cases entry : t.entryAt t.pointer with
  | none => exact .inl (by rw [visit, entry]; rfl)
  | some p =>
    have at_i := entryAt_eq_some_iff.1 entry
    by_cases young : p.age < 2
    · rw [visit_of_young at_i young]
      exact .inl (claims_write at_i rfl)
    · rw [visit_of_old at_i (Nat.le_of_not_lt young)]
      rcases p.removal_tells with without | told
      · exact .inl (claims_write at_i without.symm)
      · exact .inr told

/-! ### One clause per event of a block -/

/-- The property is kept by the Session Engine and the Intake, and by every event of another block but power and the emergency line. -/
structure StationKeeps (P : State → Prop) : Prop extends EngineKeeps P where
  mode : ∀ {s : State} (phase : Phase) (address : Option Byte) (settings : Settings) (clamped : Bool),
    LoaderLaw { phase := phase, readTimer := none, address := address, settings := settings } →
    phase = .normal ∨ phase = .fallback → s.loader.phase = .reading → P s → P (takeMode phase address settings clamped s)
  occupancy : ∀ {s : State} (c : Counter) (kind : OccupancyKind) (kinds : List OccupancyKind) (before : Nat),
    s.started = true → P s → P (sendOccupancy (kind :: kinds) before (s.setCounter c))
  deliver : ∀ {s : State} (w : TableWork), s.started = true → w.Tells s.peers → P s → P (deliver w s)
  report : ∀ {s : State} (sent : Bool) (tag : Nat), P s → P (feederReport sent tag s)
  co2 : ∀ {s : State} (ppm : Nat), P s → P (takeCo2 ppm s)
  co2Loss : ∀ {s : State}, P s → P (loseCo2 s)
  rateWindow : ∀ {s : State}, P s → P (closeRateWindow s)
  refresh : ∀ {s : State}, s.started = true → s.air.refreshTimer ≠ none → P s → P (offerFigures s)
  feedback : ∀ {s : State} (permille : Nat), P s → P (compareDamper (s.setAir { s.air with feedback := permille }))
  damperFault : ∀ {s : State}, s.air.faultTimer ≠ none → P s →
    P (raiseAlert .damperFault (s.setAir { s.air with faultTimer := none }))
  shortfall : ∀ {s : State}, P s → P (raiseAlert .shortfall (s.setAir { s.air with shortfallTimer := none }))
  airRestart : ∀ {s : State}, P s → P (airRestart s)
  photo : ∀ {s : State} (lux : Nat), P s → P (takePhoto lux s)
  photoLoss : ∀ {s : State}, P s → P (losePhoto s)
  harvest : ∀ {s : State} (due : Nat), P s → P (harvestTick due s)
  fade : ∀ {s : State} (number due : Nat) (g : Group), pick? s.light.groups number = some g → g.fade = some due → P s →
    P (withLight (fun l => { l with groups := put l.groups number (g.step due) }) s)
  warning : ∀ {s : State}, P s → P (withLight Light.goDark s)
  holdRelease : ∀ {s : State}, P s → P (withLight ({ · with hold := .off }) s)
  wallSwitch : ∀ {s : State} (number : Nat) (on : Bool) (g : Group), pick? s.light.groups number = some g →
    g.handSelect = true → P s → P (withLight (fun l => { l with groups := put l.groups number { g with switch := on } }) s)
  lightRestart : ∀ {s : State}, P s → P (lightRestart s)
  sun : ∀ {s : State} (glare klux : Nat), P s → P (takeSun glare klux s)
  sunAge : ∀ {s : State}, P s → P (recomputeGlare (withBlind ({ · with ageTimer := none }) s))
  sunSend : ∀ {s : State}, P s → P (sendSun s)
  glareHold : ∀ {s : State}, P s → P (loseSun s)
  dwell : ∀ {s : State}, P s → P (endDwell s)
  window : ∀ {s : State}, P s → P (closeWindow s)
  backoff : ∀ {s : State} (k : GroupBackoff), s.started = true → k ∈ s.blind.backoffs → P s → P (endBackoff k.group s)
  limit : ∀ {s : State} (number : Nat) (limit : Limit) (active : Bool), P s → P (takeLimit number limit active s)
  runTimer : ∀ {s : State} (number goal : Nat), s.blind.runningRun number ≠ none → P s → P (endIntermediate number goal s)
  watchdog : ∀ {s : State} (number : Nat), s.blind.runningRun number ≠ none → P s → P (stallDrive number s)
  blindRestart : ∀ {s : State}, P s → P (blindRestart s)
  blindClear : ∀ {s : State}, P s → P (blindClear s)
  key : ∀ {s : State} (key : Key), s.started = true → P s → P (pressKey key s)
  blink : ∀ {s : State}, P s → P (withPanel ({ · with blinkTimer := none }) s)
  panelClear : ∀ {s : State}, P s → P (panelClear s)

namespace StationKeeps

variable {P : State → Prop} {s : State}

/-! ### The Bus Port -/

theorem withBus (h : StationKeeps P) {change : BusPort → BusPort} (kept : ∀ g, (change s.bus).carries g → s.bus.carries g)
    (p : P s) : P (withBus change s) := h.aside (Aside.of_bus (.of_subset kept none)) p

theorem carries_seeCharacter {b : BusPort} {now : Nat} {g : Frame} (h : (b.seeCharacter now).carries g) : b.carries g := h

theorem carries_collect {b : BusPort} {symbol : LineSymbol} {g : Frame} (h : (b.collect symbol).carries g) : b.carries g := by
  unfold BusPort.collect at h
  split at h <;> exact h

theorem endFrame (h : StationKeeps P) (sent : Bool) (f : Frame) (p : P s) : P (endFrame sent f s) := by
  have ended : P (Machine.withBus (·.endFrame f) s) := h.withBus (fun g carried => by
    rcases carried with queued | ⟨_, sends⟩ | ⟨_, backs⟩
    · exact .inl queued
    · exact nomatch sends
    · exact nomatch backs) p
  exact ite_keeps (h.report _ _ ended) ended

theorem collide (h : StationKeeps P) {f : Frame} (sends : ∃ next, s.bus.transmitter = .sending f next) (p : P s) :
    P (collide f s) := by
  refine ite_keeps (h.endFrame false f p) (h.aside (Aside.setDraws _ _) (h.aside (Aside.of_bus (.of_subset (fun g carried => ?_) _)) p))
  rcases carried with queued | ⟨_, sending⟩ | ⟨_, backs⟩
  · exact .inl queued
  · exact nomatch sending
  · injection backs with same
    exact .inr (.inl (same ▸ sends))

theorem takeCharacter (h : StationKeeps P) (symbol : LineSymbol) (p : P s) : P (takeCharacter symbol s) := by
  have seen : P (Machine.withBus (fun b => (b.seeCharacter s.now).collect symbol) s) :=
    h.withBus (fun g carried => carries_seeCharacter (carries_collect carried)) p
  unfold Machine.takeCharacter
  dsimp only
  split
  next f next sends =>
    refine ite_keeps (ite_keeps (h.endFrame true f seen) (h.withBus (fun g carried => ?_) seen)) (h.collide ⟨next, sends⟩ seen)
    rcases carried with queued | ⟨_, sending⟩ | ⟨_, backs⟩
    · exact .inl queued
    · injection sending with same
      exact .inr (.inl ⟨next, same ▸ sends⟩)
    · exact nomatch backs
  all_goals exact seen

theorem missCharacter (h : StationKeeps P) (p : P s) : P (missCharacter s) := by
  unfold Machine.missCharacter
  split
  next f next sends => exact h.collide ⟨next, sends⟩ (h.withBus (fun _ carried => carried) p)
  all_goals exact p

/-- A frame that starts again was the one that waited. -/
theorem carries_startFrame {b : BusPort} {f g : Frame} {wait : Backoff} (backs : b.transmitter = .backingOff f wait)
    (h : (b.startFrame f).carries g) : b.carries g := by
  rcases h with queued | ⟨_, sends⟩ | ⟨_, waits⟩
  · exact .inl queued
  · injection sends with same
    exact .inr (.inr ⟨wait, same ▸ backs⟩)
  · exact nomatch waits

theorem carries_waits {b : BusPort} {f g : Frame} {wait after : Backoff} (backs : b.transmitter = .backingOff f wait)
    (h : ({ b with transmitter := .backingOff f after } : BusPort).carries g) : b.carries g := by
  rcases h with queued | ⟨_, sends⟩ | ⟨_, waits⟩
  · exact .inl queued
  · exact nomatch sends
  · injection waits with same
    exact .inr (.inr ⟨wait, same ▸ backs⟩)

theorem quietLine (h : StationKeeps P) (p : P s) : P (quietLine s) := by
  have heard : P (completeFrame (Machine.withBus ({ · with line := .quiet, quietTimer := none }) s)) :=
    h.aside (Aside.setInbox _ _) (h.withBus (fun _ carried => carried) (h.withBus (fun _ carried => carried) p))
  refine h.withBus (fun g carried => ?_) heard
  unfold BusPort.quiet at carried
  split at carried
  next => exact carries_of_takeHead carried
  next f slots backs => exact carries_waits backs carried
  next f backs => exact carries_startFrame backs carried
  all_goals exact carried

theorem retry (h : StationKeeps P) (p : P s) : P (Machine.withBus BusPort.retry s) := by
  refine h.withBus (fun g carried => ?_) p
  unfold BusPort.retry at carried
  split at carried
  next f wait backs _ => exact carries_startFrame backs carried
  next f wait backs _ => exact carries_waits backs carried
  all_goals exact carried

/-! ### The doors and the headcount -/

theorem setCounter (h : StationKeeps P) {c : Counter} (count : c.count = s.counter.count) (vacant : c.vacant = s.counter.vacant)
    (p : P s) : P (s.setCounter c) := h.aside (Aside.setCounter s count vacant) p

theorem vacancyLeft (h : StationKeeps P) (c : Counter) (kind : OccupancyKind) (wasVacant : Bool) (before : Nat)
    (up : s.started = true) (p : P s) : P (sendOccupancy (withVacancyLeft kind wasVacant) before (s.setCounter c)) := by
  cases wasVacant with
  | true => exact h.occupancy c kind [.vacancyLeft] before up p
  | false => exact h.occupancy c kind [] before up p

theorem countPass (h : StationKeeps P) (pass : Option Pass) (up : s.started = true) (p : P s) : P (countPass pass s) := by
  unfold Machine.countPass
  split
  · exact p
  · exact h.vacancyLeft _ _ _ _ up p
  · exact h.occupancy _ _ [] _ up p

theorem clearBlocked_started (wasBlocked : Bool) (s : State) : (clearBlocked wasBlocked s).started = s.started := by
  unfold clearBlocked
  split <;> rfl

theorem clearBlocked (h : StationKeeps P) (wasBlocked : Bool) (p : P s) : P (clearBlocked wasBlocked s) :=
  ite_keeps (h.aside (Aside.clear _ (by decide) (by decide)) p) p

theorem takeBeam (h : StationKeeps P) (number : Nat) (beam : Beam) (broken : Bool) (up : s.started = true) (p : P s) :
    P (takeBeam number beam broken s) := by
  unfold Machine.takeBeam
  split
  · exact p
  next d _ =>
    have moved : P (s.setCounter { s.counter with doors := put s.counter.doors number (d.take beam broken s.now).1 }) :=
      h.setCounter rfl rfl p
    exact ite_keeps p (h.countPass _ ((clearBlocked_started _ _).trans up) (h.clearBlocked _ moved))

theorem blockDoor (h : StationKeeps P) (number : Nat) (p : P s) : P (blockDoor number s) := by
  unfold Machine.blockDoor
  split
  · exact p
  · exact h.aside (Aside.raise _ (by decide) (by decide)) (h.setCounter (by exact rfl) (by exact rfl) p)

theorem judgeQuiet (h : StationKeeps P) (up : s.started = true) (p : P s) : P (judgeQuiet s) :=
  ite_keeps (h.occupancy _ .vacancyReached [] _ up p) (h.setCounter rfl rfl p)

/-! ### Restart -/

theorem offerIdentity_aside (s : State) : Aside s (offerIdentity s) := by
  unfold offerIdentity
  split
  · exact .refl s
  next address _ =>
    split
    · refine Aside.of_bus ?_
      refine BusPort.NoClaimBut.trans (c := s.bus.admitHeld (s.identity address)) ?_ (.of_subset (fun _ => carries_of_takeHead) _)
      exact noClaimBut_enqueue s.bus (s.identity address) fun claim => nomatch claim
    · exact .refl s

/-- A Bus Port with nothing in its queue and nothing to send carries nothing. -/
theorem not_carries_of_empty {b : BusPort} (queue : b.queue = []) (idle : b.transmitter = .idle) (g : Frame) : ¬ b.carries g := by
  rintro (queued | ⟨_, sends⟩ | ⟨_, backs⟩)
  · rw [queue] at queued
    exact nomatch queued
  · exact nomatch idle.symm.trans sends
  · exact nomatch idle.symm.trans backs

/-- The Bus Port of a restart carries nothing but the IDENTITY (R27). -/
theorem cut_aside (s : State) : Aside s (offerIdentity (busRestart s)) := by
  have emptied : Aside s (busRestart s) :=
    Aside.of_bus (.of_subset (fun g carried => absurd carried (not_carries_of_empty (by exact rfl) (by exact rfl) g)) _)
  exact emptied.trans (offerIdentity_aside _)

theorem takeRestart_loader (b : Block) (s : State) : (takeRestart b s).loader = s.loader := by
  cases b with
  | intake =>
    obtain ⟨i, d, frame⟩ := intakeRestart_frame s
    exact frame.loader
  | peers => exact (deliver_frame _ s).loader
  | air => exact (airRestart_frame s).loader
  | light => exact (lightRestart_only s).toRoom.loader
  | blind => exact (blindRestart_frame s).loader
  | panel => exact (panelRestart_frame s).loader
  | clock | session | counter | alert => rfl

theorem panelRestart (h : StationKeeps P) (p : P s) : P (panelRestart s) := h.blink (h.ends _ p)

theorem restart (h : StationKeeps P) (up : s.started = true) (p : P s) : P (Machine.restart s) := by
  have cut := h.aside (cut_aside s) p
  have all : (fun u : State => u.loader = s.loader ∧ P u) (Machine.restart s) := by
    refine fanOut_keeps (fun u : State => u.loader = s.loader ∧ P u) _ (fun b u q => ?_) _ _ ⟨(cut_aside s).loader, cut⟩
    obtain ⟨loader, q⟩ := q
    have upU : u.started = true := by
      unfold State.started
      rw [loader]
      exact up
    refine ⟨(takeRestart_loader b u).trans loader, ?_⟩
    cases b with
    | intake => exact h.intakeRestart q
    | peers =>
      exact h.deliver
        { table := { PeerTable.empty with sweepTimer := u.timer (seconds 2) }, full := some false, notices := [.emptied] } upU
        (.inr ⟨.emptied, List.mem_singleton_self _, rfl⟩) q
    | air => exact h.airRestart q
    | light => exact h.lightRestart q
    | blind => exact h.blindRestart q
    | panel => exact h.panelRestart q
    | clock | session | counter | alert => exact q
  exact all.2

/-- What keeps a property block by block keeps it through every command but those of power and of the emergency line. -/
theorem lives (h : StationKeeps P) : Lives P where
  pending v := h.aside (Aside.setPending _ v)
  inbox v := h.aside (Aside.setInbox _ v)
  now v := h.aside (Aside.setNow _ v)
  lines v := h.aside (Aside.setLines _ v)
  debounce v := h.aside (Aside.setDebounce _ v)
  image image reading p := judgeImage_elim image _ fun _ _ _ _ law mode => h.mode _ _ _ _ law mode reading p
  unread reading := h.mode _ _ _ _ (fallback_loaderLaw rfl (fun _ e => nomatch e)) (.inr rfl) reading
  character symbol _ := h.takeCharacter symbol
  missed _ := h.missCharacter
  quiet _ _ _ := h.quietLine
  retry _ := h.retry
  second due _ := h.clockTick due
  mark minute second _ := h.takeMark minute second
  booking item _ := h.arrive item
  merge m _ _ := h.completeMerge m.item
  beam number beam broken := h.takeBeam number beam broken
  block number _ _ _ := h.blockDoor number
  pulse := h.vacancyLeft _ _ _ _
  quietRoom := h.judgeQuiet
  neighbour source m up _ _ := h.deliver _ up (PeerTable.take_tells _ source m)
  sweep due up := h.deliver _ up (PeerTable.visit_tells { State.peers _ with sweepTimer := some (due + seconds 2) })
  guard peer up := h.deliver _ up (PeerTable.expire_tells _ peer)
  co2 ppm _ := h.co2 ppm
  co2Loss _ := h.co2Loss
  rateWindow _ := h.rateWindow
  refresh := h.refresh
  feedback permille _ := h.feedback permille
  damperFault _ := h.damperFault
  shortfall _ _ := h.shortfall
  photo lux _ := h.photo lux
  photoLoss _ := h.photoLoss
  harvest due _ := h.harvest due
  fade number due g _ picked fades := h.fade number due g picked fades
  warning _ := h.warning
  holdRelease _ := h.holdRelease
  wallSwitch number on g _ := h.wallSwitch number on g
  sun glare klux _ := h.sun glare klux
  sunAge _ := h.sunAge
  sunSend _ := h.sunSend
  glareHold _ := h.glareHold
  dwell _ := h.dwell
  window _ := h.window
  backoff := h.backoff
  limit number limit active _ := h.limit number limit active
  runTimer number goal _ := h.runTimer number goal
  watchdog number _ := h.watchdog number
  key := h.key
  blink _ := h.blink
  status _ _ := h.offer (by simp [Frame.plain])
  restart := h.restart
  clear _ p := fanOut_keeps P _ (fun b _ p => by
    cases b with
    | blind => exact h.blindClear p
    | panel => exact h.panelClear p
    | clock | intake | session | counter | peers | air | light | alert => exact p) _ _ p

end StationKeeps

end Sys2Proof.Machine
end

section
/-!
PROOFS. The law of the drives and of the room drive stage (R150, R152, R155). Every operation but the forming of a start group and the
service messages eases the drives: none gains a slot, and none leaves its law.
-/

namespace Sys2Proof.Machine

/-! ### Lists of numbered things, place by place -/

section Places

variable {α : Type} {R : α → α → Prop} {xs ys zs : List α} {n m : Nat} {x y : α}

theorem forall₂_trans (trans : ∀ {a b c}, R a b → R b c → R a c) (h : List.Forall₂ R xs ys) (k : List.Forall₂ R ys zs) :
    List.Forall₂ R xs zs := by
  induction h generalizing zs with
  | nil => exact k
  | cons first rest ih =>
    cases k with
    | cons first' rest' => exact .cons (trans first first') (ih rest')

/-- One place changes. -/
theorem forall₂_put (refl : ∀ a, R a a) (h : ∀ a, pick? xs n = some a → R a x) : List.Forall₂ R xs (put xs n x) := by
  cases n with
  | zero => exact List.forall₂_same.2 fun a _ => refl a
  | succ i =>
    replace h : ∀ a, xs[i]? = some a → R a x := h
    show List.Forall₂ R xs (xs.set i x)
    induction xs generalizing i with
    | nil => exact .nil
    | cons a rest ih =>
      cases i with
      | zero => exact .cons (h a rfl) (List.forall₂_same.2 fun a _ => refl a)
      | succ i => exact .cons (refl a) (ih i h)

theorem map_eq_of_forall₂ {β : Type} {f : α → β} (h : List.Forall₂ (fun a b => f b = f a) xs ys) : ys.map f = xs.map f := by
  induction h with
  | nil => rfl
  | cons first _ ih => rw [List.map_cons, List.map_cons, first, ih]

theorem countP_le_of_forall₂ {p : α → Bool} (h : List.Forall₂ (fun a b => p b = true → p a = true) xs ys) :
    ys.countP p ≤ xs.countP p := by
  induction h with
  | nil => exact le_rfl
  | @cons a b _ _ first _ ih =>
    rw [List.countP_cons, List.countP_cons]
    by_cases holds : p b = true
    · rw [if_pos holds, if_pos (first holds)]
      omega
    · rw [if_neg holds]
      omega

theorem countP_put_le (p : α → Bool) : (put xs n x).countP p ≤ xs.countP p + 1 := by
  cases n with
  | zero => exact Nat.le_succ _
  | succ i =>
    show (xs.set i x).countP p ≤ xs.countP p + 1
    induction xs generalizing i with
    | nil => exact Nat.le_succ _
    | cons a rest ih =>
      cases i with
      | zero =>
        rw [List.set_cons_zero, List.countP_cons, List.countP_cons]
        split <;> split <;> omega
      | succ i =>
        rw [List.set_cons_succ, List.countP_cons, List.countP_cons]
        have := ih i
        omega

theorem pick?_map {β : Type} (f : α → β) : pick? (xs.map f) n = (pick? xs n).map f := by
  cases n with
  | zero => rfl
  | succ i => exact List.getElem?_map

end Places

/-! ### What one drive must meet -/

/-- The law of one drive (R150, R152, R155). -/
structure Drive.Lawful (d : Drive) : Prop where
  out : d.inService = false → d.state = .stopped
  streak : d.streak ≤ 3
  running : d.state = .running → d.run.isSome = true ∧ d.due.isSome = true

theorem driveLaw_iff (b : Blind) : DriveLaw b ↔ b.drives.countP (·.holdsSlot) ≤ 2 ∧ ∀ d ∈ b.drives, d.Lawful :=
  ⟨fun h => ⟨h.slots, fun d mem => ⟨h.out d mem, h.streak d mem, h.running d mem⟩⟩,
    fun ⟨slots, each⟩ => ⟨slots, fun d mem => (each d mem).out, fun d mem => (each d mem).streak, fun d mem => (each d mem).running⟩⟩

theorem Drive.holdsSlot_iff (d : Drive) :
    d.holdsSlot = true ↔ d.state = .waitFeeder ∨ d.state = .settling ∨ d.state = .running := by
  simp [Drive.holdsSlot, or_assoc]

/-- A drive that holds a slot is in service. -/
theorem Drive.Lawful.service {d : Drive} (h : d.Lawful) (moving : d.state ≠ .stopped) : d.inService = true := by
  by_contra out
  exact moving (h.out (by simpa using out))

/-- A drive has changed without gaining a slot, within its law. -/
structure Drive.Eases (d e : Drive) : Prop where
  service : e.inService = d.inService
  lawful : d.Lawful → e.Lawful
  slot : e.holdsSlot = true → d.holdsSlot = true

namespace Drive

theorem Eases.refl (d : Drive) : d.Eases d := ⟨rfl, id, id⟩

theorem Eases.trans {d e f : Drive} (h : d.Eases e) (k : e.Eases f) : d.Eases f :=
  ⟨k.service.trans h.service, k.lawful ∘ h.lawful, h.slot ∘ k.slot⟩

/-- A drive comes to rest: STOPPED, or in service and waiting for the stage. -/
theorem eases_of_rest {d e : Drive} (service : e.inService = d.inService) (streak : e.streak ≤ d.streak)
    (rest : e.state = .stopped ∨ e.state = .waitStage ∧ e.inService = true) : d.Eases e where
  service := service
  lawful h := by
    refine ⟨fun out => ?_, streak.trans h.streak, fun runs => ?_⟩
    · rcases rest with stopped | ⟨-, serves⟩
      · exact stopped
      · exact nomatch out.symm.trans serves
    · rcases rest with stopped | ⟨waits, -⟩
      · exact nomatch runs.symm.trans stopped
      · exact nomatch runs.symm.trans waits
  slot holds := by
    rw [holdsSlot_iff] at holds
    rcases rest with state | ⟨state, -⟩ <;> simp [state] at holds

/-- What the law does not look at changes while the drive is not RUNNING. -/
theorem eases_of_aside {d e : Drive} (service : e.inService = d.inService) (streak : e.streak ≤ d.streak)
    (state : e.state = d.state) (run : d.state = .running → e.run = d.run ∧ e.due = d.due) : d.Eases e where
  service := service
  lawful h := by
    refine ⟨fun out => state.trans (h.out (service ▸ out)), streak.trans h.streak, fun runs => ?_⟩
    obtain ⟨sameRun, sameDue⟩ := run (state ▸ runs)
    rw [sameRun, sameDue]
    exact h.running (state ▸ runs)
  slot holds := by
    rw [holdsSlot_iff, state] at holds
    exact (holdsSlot_iff d).2 holds

/-- A drive that holds a slot moves on to the feeder's states. -/
theorem eases_of_feeder {d e : Drive} (service : e.inService = d.inService) (streak : e.streak ≤ d.streak)
    (held : d.holdsSlot = true) (state : e.state = .waitFeeder ∨ e.state = .settling) : d.Eases e where
  service := service
  lawful h := by
    have moving : d.state ≠ .stopped := fun stopped => by simp [holdsSlot_iff, stopped] at held
    refine ⟨fun out => ?_, streak.trans h.streak, fun runs => ?_⟩
    · exact nomatch out.symm.trans (service.trans (h.service moving))
    · rcases state with waits | settles
      · exact nomatch runs.symm.trans waits
      · exact nomatch runs.symm.trans settles
  slot _ := held

theorem idleState_rest (d : Drive) (target : Nat) :
    d.idleState target = .stopped ∨ d.idleState target = .waitStage ∧ d.inService = true := by
  unfold idleState
  split
  next serves =>
    rw [Bool.and_eq_true] at serves
    exact .inr ⟨rfl, serves.1⟩
  next => exact .inl rfl

theorem halt_eases (d : Drive) (position : Option Nat) : d.Eases (d.halt position) := eases_of_rest rfl le_rfl (.inl rfl)

theorem release_eases (d : Drive) : d.Eases (d.release .stopped) := eases_of_rest rfl le_rfl (.inl rfl)

theorem releaseIdle_eases (d : Drive) (target : Nat) : d.Eases (d.release (d.idleState target)) :=
  eases_of_rest rfl le_rfl (d.idleState_rest target)

theorem idle_eases (d : Drive) (target : Nat) : d.Eases { d with state := d.idleState target } :=
  eases_of_rest rfl le_rfl (d.idleState_rest target)

theorem startMotor_eases {d : Drive} (held : d.holdsSlot = true) (now : Nat) : d.Eases (d.startMotor now) := by
  unfold startMotor
  cases planned : d.run with
  | none => exact .refl d
  | some r =>
    refine ⟨rfl, fun h => ?_, fun _ => held⟩
    have moving : d.state ≠ .stopped := fun stopped => by simp [holdsSlot_iff, stopped] at held
    exact ⟨fun out => (nomatch out.symm.trans (h.service moving)), h.streak, fun _ => ⟨rfl, rfl⟩⟩

theorem startMotor_holds {d : Drive} (held : d.holdsSlot = true) (now : Nat) : (d.startMotor now).holdsSlot = true := by
  unfold startMotor
  split
  · exact held
  · rfl

end Drive

/-! ### The drives together -/

/-- The drives have eased, each in its place. -/
def Blind.Eases (b c : Blind) : Prop := List.Forall₂ Drive.Eases b.drives c.drives

/-- Which drives are in service. -/
def Blind.services (b : Blind) : List Bool := b.drives.map (·.inService)

/-- The drives that hold a slot. -/
def Blind.holders (b : Blind) : Nat := b.drives.countP (·.holdsSlot)

namespace Blind

variable {b c u : Blind}

theorem Eases.of_same (h : c.drives = b.drives) : b.Eases c := by
  unfold Eases
  rw [h]
  exact List.forall₂_same.2 fun d _ => .refl d

theorem Eases.refl (b : Blind) : b.Eases b := .of_same rfl

theorem Eases.trans (h : b.Eases c) (k : c.Eases u) : b.Eases u := forall₂_trans Drive.Eases.trans h k

theorem Eases.map (b : Blind) {f : Drive → Drive} (h : ∀ d : Drive, d.Eases (f d)) :
    b.Eases { b with drives := b.drives.map f } :=
  List.forall₂_map_right_iff.2 (List.forall₂_same.2 fun d _ => h d)

theorem Eases.services (h : b.Eases c) : c.services = b.services := map_eq_of_forall₂ (h.imp fun _ _ eases => eases.service)

theorem Eases.holders (h : b.Eases c) : c.holders ≤ b.holders := countP_le_of_forall₂ (h.imp fun _ _ eases => eases.slot)

theorem Eases.lawful (h : b.Eases c) (each : ∀ d ∈ b.drives, d.Lawful) : ∀ d ∈ c.drives, d.Lawful := by
  unfold Eases at h
  generalize b.drives = xs at h each
  generalize c.drives = ys at h ⊢
  induction h with
  | nil => exact fun _ mem => nomatch mem
  | cons first _ ih =>
    obtain ⟨head, rest⟩ := List.forall_mem_cons.1 each
    exact List.forall_mem_cons.2 ⟨first.lawful head, ih rest⟩

theorem Eases.law (h : b.Eases c) (law : DriveLaw b) : DriveLaw c :=
  have ⟨slots, each⟩ := (driveLaw_iff b).1 law
  (driveLaw_iff c).2 ⟨h.holders.trans slots, h.lawful each⟩

/-! ### Changes of one drive -/

theorem mapDrive_of_fitted {n : Nat} {d : Drive} (fitted : pick? b.drives n = some d) (f : Drive → Drive) :
    b.mapDrive n f = { b with drives := put b.drives n (f d) } := by
  rw [Blind.mapDrive, fitted]

theorem mapDrive_of_absent {n : Nat} (absent : pick? b.drives n = none) (f : Drive → Drive) : b.mapDrive n f = b := by
  rw [Blind.mapDrive, absent]

theorem mapDrive_eases {n : Nat} {f : Drive → Drive} (h : ∀ d, pick? b.drives n = some d → d.Eases (f d)) :
    b.Eases (b.mapDrive n f) := by
  cases fitted : pick? b.drives n with
  | none =>
    rw [mapDrive_of_absent fitted]
    exact .refl b
  | some d =>
    rw [mapDrive_of_fitted fitted]
    refine forall₂_put Drive.Eases.refl fun a picked => ?_
    obtain rfl := Option.some.inj (fitted.symm.trans picked)
    exact h d fitted

theorem pick?_mapDrive_same (b : Blind) (n : Nat) (f : Drive → Drive) :
    pick? (b.mapDrive n f).drives n = (pick? b.drives n).map f := by
  cases fitted : pick? b.drives n with
  | none =>
    rw [mapDrive_of_absent fitted, fitted]
    rfl
  | some d =>
    rw [mapDrive_of_fitted fitted]
    exact pick?_put_same fitted

theorem pick?_mapDrive_other (b : Blind) {n m : Nat} (f : Drive → Drive) (h : m ≠ n) :
    pick? (b.mapDrive n f).drives m = pick? b.drives m := by
  cases fitted : pick? b.drives n with
  | none => rw [mapDrive_of_absent fitted]
  | some d =>
    rw [mapDrive_of_fitted fitted]
    exact pick?_put_other h

/-- Every drive of some numbers meets a condition. -/
def AllOf (b : Blind) (numbers : List Nat) (p : Drive → Prop) : Prop := ∀ n ∈ numbers, ∀ d, pick? b.drives n = some d → p d

theorem AllOf.mapDrive {numbers : List Nat} {p : Drive → Prop} {f : Drive → Drive} (h : b.AllOf numbers p)
    (keep : ∀ d, p d → p (f d)) (n : Nat) : (b.mapDrive n f).AllOf numbers p := by
  intro m mem d picked
  by_cases same : m = n
  · subst same
    rw [pick?_mapDrive_same, Option.map_eq_some_iff] at picked
    obtain ⟨e, held, rfl⟩ := picked
    exact keep e (h m mem e held)
  · rw [pick?_mapDrive_other b f same] at picked
    exact h m mem d picked

/-- A change made to each drive of some numbers. -/
theorem foldl_mapDrive_eases {f : Drive → Drive} {p : Drive → Prop} (eases : ∀ d, p d → d.Eases (f d))
    (keep : ∀ d, p d → p (f d)) {numbers : List Nat} (h : b.AllOf numbers p) :
    b.Eases (numbers.foldl (fun b n => b.mapDrive n f) b) := by
  induction numbers generalizing b with
  | nil => exact .refl b
  | cons n rest ih =>
    have first : b.Eases (b.mapDrive n f) := mapDrive_eases fun d picked => eases d (h n List.mem_cons_self d picked)
    have later : (b.mapDrive n f).AllOf rest p :=
      AllOf.mapDrive (fun m mem => h m (List.mem_cons_of_mem _ mem)) keep n
    exact first.trans (ih later)

theorem foldl_mapDrive_keeps {f : Drive → Drive} {p : Drive → Prop} (keep : ∀ d, p d → p (f d)) {numbers others : List Nat}
    (h : b.AllOf others p) : (numbers.foldl (fun b n => b.mapDrive n f) b).AllOf others p := by
  induction numbers generalizing b with
  | nil => exact h
  | cons n rest ih => exact ih (h.mapDrive keep n)

/-- A change that brings a condition brings it to every drive it is made to. -/
theorem foldl_mapDrive_brings {f : Drive → Drive} {p : Drive → Prop} (bring : ∀ d, p (f d)) (numbers : List Nat) (b : Blind) :
    (numbers.foldl (fun b n => b.mapDrive n f) b).AllOf numbers p := by
  induction numbers generalizing b with
  | nil => exact fun _ mem => nomatch mem
  | cons n rest ih =>
    intro m mem
    rcases List.mem_cons.1 mem with rfl | later
    · refine foldl_mapDrive_keeps (b := b.mapDrive m f) (others := [m]) (fun d _ => bring d) (fun k own d picked => ?_) m (List.mem_singleton_self m)
      rw [List.mem_singleton.1 own, pick?_mapDrive_same, Option.map_eq_some_iff] at picked
      obtain ⟨e, -, rfl⟩ := picked
      exact bring e
    · exact ih (b.mapDrive n f) m later

theorem allOf_numbersOf (b : Blind) (p : Drive → Bool) : b.AllOf (numbersOf b.drives p) (p · = true) := by
  intro n mem d picked
  obtain ⟨e, held, meets⟩ := mem_numbersOf.1 mem
  obtain rfl := Option.some.inj (held.symm.trans picked)
  exact meets

theorem groupIn_state (b : Blind) (group : Nat) (state : DriveState) : b.AllOf (b.groupIn group state) (·.state = state) := by
  intro n mem d picked
  have meets := b.allOf_numbersOf _ n mem d picked
  simp only [Bool.and_eq_true, beq_iff_eq] at meets
  exact meets.2

end Blind

end Sys2Proof.Machine
end

section
/-!
PROOFS. The operations on drives ease them, the stage grants no more slots than are free, and so every step keeps the law of the drives
(R150 to R164).
-/

namespace Sys2Proof.Machine

/-! ### Operations that ease the drives -/

/-- The drives have eased between two states. -/
def Eases (s t : State) : Prop := s.blind.Eases t.blind

variable {s t u : State}

theorem Eases.refl (s : State) : Eases s s := Blind.Eases.refl s.blind

theorem Eases.trans (h : Eases s t) (k : Eases t u) : Eases s u := Blind.Eases.trans h k

theorem Eases.of_same (h : t.blind.drives = s.blind.drives) : Eases s t := Blind.Eases.of_same h

theorem QuietFrame.eases (h : QuietFrame s t) : Eases s t := .of_same (congrArg Blind.drives h.blind)

theorem announceHalt_eases (s : State) : Eases s (announceHalt s) := (announceHalt_frame s).eases

theorem hearHalt_blind (s : State) : (hearHalt s).blind = s.blind := by
  unfold hearHalt
  split <;> rfl

theorem haltDrive_eases (number : Nat) (position : Option Nat) (s : State) : Eases s (haltDrive number position s) := by
  have halted : Eases s (withBlind (·.mapDrive number (·.halt position)) s) :=
    Blind.mapDrive_eases fun d _ => d.halt_eases position
  exact (halted.trans (announceHalt_eases _)).trans (.of_same (congrArg Blind.drives (hearHalt_blind _)))

theorem retake_eases (number : Nat) (s : State) : Eases s (retake number s) :=
  Blind.mapDrive_eases fun d _ => d.idle_eases s.blind.applied

theorem unstreak_eases (number : Nat) (s : State) : Eases s (withBlind (·.mapDrive number fun d => { d with streak := 0 }) s) :=
  Blind.mapDrive_eases fun _ _ => Drive.eases_of_aside rfl (Nat.zero_le _) rfl fun _ => ⟨rfl, rfl⟩

theorem haltAtLimit_eases (number : Nat) (s : State) : Eases s (haltAtLimit number s) := by
  unfold haltAtLimit
  split
  · exact .refl s
  · split
    · exact .refl s
    · exact ((haltDrive_eases _ _ s).trans (unstreak_eases number _)).trans (retake_eases _ _)

theorem checkLimit_eases (number : Nat) (s : State) : Eases s (checkLimit number s) := by
  unfold checkLimit
  split
  · exact haltAtLimit_eases number s
  · exact .refl s

theorem startMotors_eases {numbers : List Nat} (held : s.blind.AllOf numbers (·.holdsSlot = true)) :
    Eases s (startMotors numbers s) := by
  have started : Eases s (withBlind (fun b => numbers.foldl (fun b n => b.mapDrive n (·.startMotor s.now)) b) s) :=
    Blind.foldl_mapDrive_eases (fun _ holds => Drive.startMotor_eases holds s.now)
      (fun _ holds => Drive.startMotor_holds holds s.now) held
  unfold startMotors
  dsimp only
  split
  · exact started
  · exact started

theorem enterRunning_eases {numbers : List Nat} (held : s.blind.AllOf numbers (·.holdsSlot = true)) :
    Eases s (enterRunning numbers s) :=
  (startMotors_eases held).trans (forEach_rel Eases .refl .trans _ checkLimit_eases numbers _)

theorem backOff_eases (group : Nat) (s : State) : Eases s (backOff group s) :=
  Blind.Eases.map s.blind fun d => by
    split
    next settles =>
      rw [Bool.and_eq_true, beq_iff_eq] at settles
      exact Drive.eases_of_feeder rfl le_rfl (d.holdsSlot_iff.2 (.inr (.inl (by simpa using settles.2)))) (.inl rfl)
    next => exact .refl d

theorem awaitReport_eases (group drives : Nat) (s : State) : Eases s (awaitReport group drives s) :=
  Blind.Eases.map s.blind fun d => by
    split
    next waits =>
      rw [Bool.and_eq_true, beq_iff_eq] at waits
      exact Drive.eases_of_feeder rfl le_rfl (d.holdsSlot_iff.2 (.inl (by simpa using waits.2))) (.inr rfl)
    next => exact .refl d

theorem planGroup_eases (group : Nat) (s : State) : Eases s (planGroup group s) :=
  Blind.foldl_mapDrive_eases (f := fun d => { d with run := d.plan s.blind.applied }) (p := (·.state = .waitFeeder))
    (fun _ waits => Drive.eases_of_aside rfl le_rfl rfl fun runs => nomatch waits.symm.trans runs) (fun _ waits => waits)
    (s.blind.groupIn_state group .waitFeeder)

theorem askFeeder_eases (group : Nat) (numbers : List Nat) (s : State) : Eases s (askFeeder group numbers s).1 := by
  have asked : Eases s (awaitReport group numbers.length (offerAnswered (s.feederStart numbers) s).1) :=
    (offerAnswered_frame _ s).eases.trans (awaitReport_eases _ _ _)
  unfold askFeeder
  dsimp only
  split
  · exact asked
  · exact asked.trans (backOff_eases _ _)

theorem feederCheck_eases (group : Nat) (s : State) : Eases s (feederCheck group s).1 := by
  unfold feederCheck
  dsimp only
  split
  · exact planGroup_eases group s
  · split
    · exact planGroup_eases group s
    · exact (planGroup_eases group s).trans (askFeeder_eases _ _ _)

theorem recheckGroups_eases (s : State) : Eases s (recheckGroups s).1 :=
  eachAnswered_rel Eases .refl .trans feederCheck feederCheck_eases _ s

theorem dropHand_eases (s : State) : Eases s (dropHand s) := by
  unfold dropHand
  split
  · exact .refl s
  · exact .of_same rfl
  · exact (Eases.of_same rfl : Eases s (withBlind (fun b => { b with hand := .nothing }) s)).trans (offerFeederEnd_frame _ _).eases

theorem withdrawGroup_eases (group : Nat) (s : State) : Eases s (withdrawGroup group s) :=
  (dropHand_eases s).trans (Blind.Eases.map _ fun d => by
    split
    · exact d.releaseIdle_eases _
    · exact .refl d)

theorem takeTarget_eases (number : Nat) (s : State) : Eases s (takeTarget number s) :=
  takeTarget_elim (.refl s) (retake_eases number s) (Blind.mapDrive_eases fun d _ => d.release_eases) (withdrawGroup_eases · s)
    fun _ => (haltDrive_eases _ _ s).trans (retake_eases _ _)

theorem cutShort_eases (number : Nat) (s : State) : Eases s (cutShort number s) := by
  unfold cutShort
  split
  · exact .refl s
  · exact haltDrive_eases _ _ s

theorem standDown_eases (s : State) : Eases s (withBlind Blind.standDown s) :=
  Blind.Eases.map s.blind fun d => by
    split
    · exact .refl d
    · exact d.release_eases

/-! ### The stage grants what is free (R155) -/

theorem formations_flatten_length (c : Settings) (granted : List Nat) : (formations c granted).flatten.length ≤ granted.length := by
  unfold formations
  split
  · rw [← List.flatMap_def, List.flatMap_singleton']
  · split
    · exact Nat.zero_le _
    · simp

theorem mem_formations {c : Settings} {granted : List Nat} {n : Nat} (h : n ∈ (formations c granted).flatten) : n ∈ granted := by
  unfold formations at h
  split at h
  · rwa [← List.flatMap_def, List.flatMap_singleton'] at h
  · split at h
    · exact nomatch h
    · simpa using h

/-- Drives that are in service form a group: each gains a slot, and none leaves its law. -/
theorem foldl_form {f : Drive → Drive} (waits : ∀ d, (f d).state = .waitFeeder) (service : ∀ d, (f d).inService = d.inService)
    (streak : ∀ d, (f d).streak = d.streak) {numbers : List Nat} {b : Blind} (serving : b.AllOf numbers (·.inService = true))
    (each : ∀ d ∈ b.drives, d.Lawful) :
    (∀ d ∈ (numbers.foldl (fun b n => b.mapDrive n f) b).drives, d.Lawful) ∧
      (numbers.foldl (fun b n => b.mapDrive n f) b).holders ≤ b.holders + numbers.length ∧
      (numbers.foldl (fun b n => b.mapDrive n f) b).services = b.services := by
  induction numbers generalizing b with
  | nil => exact ⟨each, le_rfl, rfl⟩
  | cons n rest ih =>
    have later : (b.mapDrive n f).AllOf rest (·.inService = true) :=
      Blind.AllOf.mapDrive (fun m mem => serving m (List.mem_cons_of_mem _ mem)) (fun d serves => (service d).trans serves) n
    cases fitted : pick? b.drives n with
    | none =>
      rw [Blind.mapDrive_of_absent fitted] at later
      obtain ⟨lawful, holders, services⟩ := ih later each
      rw [List.foldl_cons, Blind.mapDrive_of_absent fitted, List.length_cons]
      exact ⟨lawful, by omega, services⟩
    | some d =>
      have serves : (f d).inService = true := (service d).trans (serving n List.mem_cons_self d fitted)
      have formed : (f d).Lawful :=
        ⟨fun out => (nomatch out.symm.trans serves), (streak d).trans_le (each d (mem_of_pick? fitted)).streak,
          fun runs => nomatch runs.symm.trans (waits d)⟩
      rw [Blind.mapDrive_of_fitted fitted] at later
      have kept : ∀ e ∈ put b.drives n (f d), e.Lawful := fun e mem =>
        (mem_put mem).elim (fun same => same ▸ formed) (each e)
      obtain ⟨lawful, holders, services⟩ := ih later kept
      have gained : ({ b with drives := put b.drives n (f d) } : Blind).holders ≤ b.holders + 1 := countP_put_le _
      have same : ({ b with drives := put b.drives n (f d) } : Blind).services = b.services :=
        map_eq_of_forall₂ (forall₂_put (fun _ => rfl) fun a picked => by
          rw [Option.some.inj (picked.symm.trans fitted)]
          exact service d)
      rw [List.foldl_cons, Blind.mapDrive_of_fitted fitted, List.length_cons]
      exact ⟨lawful, by omega, services.trans same⟩

/-- The drives of some numbers are in service, by the table of those that are. -/
def Serving (services : List Bool) (numbers : List Nat) : Prop := ∀ n ∈ numbers, ∀ serves, pick? services n = some serves → serves = true

theorem Serving.allOf {b : Blind} {numbers : List Nat} (h : Serving b.services numbers) : b.AllOf numbers (·.inService = true) :=
  fun n mem d picked => h n mem d.inService (by rw [Blind.services, pick?_map, picked]; rfl)

/-- A group is launched: its drives gain slots, and no other drive does. -/
theorem launchGroup_lawful {numbers : List Nat} (serving : Serving s.blind.services numbers) (each : ∀ d ∈ s.blind.drives, d.Lawful) :
    (∀ d ∈ (launchGroup numbers s).1.blind.drives, d.Lawful) ∧
      (launchGroup numbers s).1.blind.holders ≤ s.blind.holders + numbers.length ∧
      (launchGroup numbers s).1.blind.services = s.blind.services := by
  obtain ⟨lawful, holders, services⟩ := foldl_form (b := s.blind)
    (f := fun d => { d with state := .waitFeeder, group := some s.blind.nextGroup, run := d.plan s.blind.applied })
    (fun _ => rfl) (fun _ => rfl) (fun _ => rfl) serving.allOf each
  have waiting : (formGroup numbers s).blind.AllOf numbers (·.holdsSlot = true) :=
    Blind.foldl_mapDrive_brings (fun d => (Drive.holdsSlot_iff _).2 (.inl rfl)) numbers s.blind
  have eased : Eases (formGroup numbers s) (launchGroup numbers s).1 := by
    unfold launchGroup
    dsimp only
    split
    · exact enterRunning_eases waiting
    · exact feederCheck_eases _ _
  exact ⟨Blind.Eases.lawful eased lawful, (Blind.Eases.holders eased).trans holders, (Blind.Eases.services eased).trans services⟩

theorem launchGroups_law {groups : List (List Nat)} (law : DriveLaw s.blind) (serving : Serving s.blind.services groups.flatten)
    (free : s.blind.holders + groups.flatten.length ≤ 2) : DriveLaw (eachAnswered launchGroup groups s).1.blind := by
  induction groups generalizing s with
  | nil => exact law
  | cons group rest ih =>
    rw [List.flatten_cons] at serving free
    rw [List.length_append] at free
    obtain ⟨lawful, holders, services⟩ :=
      launchGroup_lawful (fun n mem => serving n (List.mem_append_left _ mem)) ((driveLaw_iff _).1 law).2
    have after : (launchGroup group s).1.blind.holders + rest.flatten.length ≤ 2 := by omega
    exact ih (s := (launchGroup group s).1) ((driveLaw_iff _).2 ⟨le_trans (Nat.le_add_right _ _) after, lawful⟩)
      (services ▸ fun n mem => serving n (List.mem_append_right _ mem)) after

theorem grantSlots_law (law : DriveLaw s.blind) : DriveLaw (grantSlots s).1.blind := by
  obtain ⟨slots, each⟩ := (driveLaw_iff _).1 law
  have free : s.blind.freeSlots = 2 - s.blind.holders := by
    rw [Blind.freeSlots, length_numbersOf]
    rfl
  have granted : ((s.blind.inState .waitStage).take s.blind.freeSlots).length ≤ 2 - s.blind.holders :=
    (List.length_take_le _ _).trans free.le
  have forms := (formations_flatten_length s.loader.settings
    ((s.blind.inState .waitStage).take s.blind.freeSlots)).trans granted
  refine launchGroups_law law (fun n mem serves held => ?_) ?_
  · obtain ⟨d, fitted, waits⟩ := mem_numbersOf.1 (List.mem_of_mem_take (mem_formations mem))
    rw [Blind.services, pick?_map, fitted] at held
    refine (Option.some.inj held).symm.trans ((each d (mem_of_pick? fitted)).service fun stopped => ?_)
    rw [stopped] at waits
    exact nomatch waits
  · have : s.blind.holders ≤ 2 := slots
    omega

/-! ### The Blind Controller's events -/

theorem Eases.law (h : Eases s t) (law : DriveLaw s.blind) : DriveLaw t.blind := Blind.Eases.law h law

theorem settleStage_law : ∀ (rounds : Nat) (recheck : Bool) {s : State}, DriveLaw s.blind →
    DriveLaw (settleStage rounds recheck s).blind
  | 0, _, _, law => law
  | n + 1, recheck, s, law => by
    have granted := grantSlots_law law
    have checked := (recheckGroups_eases (grantSlots s).1).law granted
    unfold settleStage
    split
    · exact law
    · dsimp only
      split
      · split
        · exact settleStage_law n true checked
        · exact checked
      · split
        · exact settleStage_law n true granted
        · exact granted

/-- What leaves the drive records alone keeps their law. -/
theorem DriveLaw.of_same {b c : Blind} (law : DriveLaw b) (h : c.drives = b.drives) : DriveLaw c := (Blind.Eases.of_same h).law law

theorem takeTargets_law (law : DriveLaw s.blind) : DriveLaw (takeTargets s).blind :=
  settleStage_law _ _ (DriveLaw.of_same ((forEach_rel Eases .refl .trans _ takeTarget_eases _ s).law law) rfl)

theorem applyWanted_law (law : DriveLaw s.blind) : DriveLaw (applyWanted s).blind := takeTargets_law (law.of_same rfl)

theorem reapply_law (law : DriveLaw s.blind) : DriveLaw (reapply s).blind := applyWanted_law (law.of_same rfl)

theorem policyEvent_law (glare : Bool) (law : DriveLaw s.blind) : DriveLaw (policyEvent glare s).blind := by
  have worked : DriveLaw (rework s).blind := law.of_same rfl
  unfold policyEvent
  dsimp only
  split
  · exact worked
  · split
    · exact worked.of_same rfl
    · split
      · exact worked.of_same rfl
      · exact applyWanted_law worked

theorem setGlare_law (glare : Nat) (law : DriveLaw s.blind) : DriveLaw (setGlare glare s).blind := by
  unfold setGlare
  dsimp only
  split
  · exact policyEvent_law _ (law.of_same rfl)
  · exact law.of_same rfl

theorem recomputeGlare_law (law : DriveLaw s.blind) : DriveLaw (recomputeGlare s).blind := by
  unfold recomputeGlare
  split
  · split
    · exact law
    · exact law.of_same rfl
  · exact setGlare_law _ (law.of_same rfl)

theorem offerSun_law (r : SunSample) (law : DriveLaw s.blind) : DriveLaw (offerSun r s).blind :=
  (offer_frame _ _).eases.law (law.of_same (by exact rfl))

theorem feederReport_law (sent : Bool) (tag : Nat) (law : DriveLaw s.blind) : DriveLaw (feederReport sent tag s).blind := by
  have orphan : DriveLaw (orphanReport sent tag s).blind := by
    unfold orphanReport
    split
    · exact law
    · dsimp only
      split
      · exact (offerFeederEnd_frame _ _).eases.law (law.of_same (by exact rfl))
      · exact law.of_same rfl
  unfold feederReport
  split
  · split
    · split
      · exact law.of_same rfl
      · exact settleStage_law _ _ ((backOff_eases _ s).law law)
    · exact orphan
  · exact orphan
  · exact orphan

theorem startHeard_law (peer : Byte) (drives arrival : Nat) (law : DriveLaw s.blind) :
    DriveLaw (startHeard peer drives arrival s).blind := by
  unfold startHeard
  split
  · split
    · exact law.of_same rfl
    · exact law
  · exact law
  · exact law

theorem closeWindow_law (law : DriveLaw s.blind) : DriveLaw (closeWindow s).blind := by
  unfold closeWindow
  split
  · dsimp only
    refine settleStage_law _ _ ?_
    split
    · refine Eases.law (enterRunning_eases fun n mem d picked => ?_) (law.of_same rfl)
      exact d.holdsSlot_iff.2 (.inr (.inl (Blind.groupIn_state _ _ _ n mem d picked)))
    · exact ((offerFeederEnd_frame _ _).eases.trans (backOff_eases _ _)).law (law.of_same rfl)
  · exact law
  · exact law

theorem blindNotice_law (n : PeerNotice) (law : DriveLaw s.blind) : DriveLaw (blindNotice n s).blind := by
  cases n with
  | claimAdded | claimChanged | claimRemoved => exact law
  | sunRecorded | sunFresh | sunStale | sunRemoved => exact recomputeGlare_law law
  | feederChanged | feederRemoved | endHeard => exact settleStage_law _ _ law
  | startHeard => exact startHeard_law _ _ _ law
  | emptied => exact settleStage_law _ _ (recomputeGlare_law law)

theorem takeSun_law (glare klux : Nat) (law : DriveLaw s.blind) : DriveLaw (takeSun glare klux s).blind := by
  unfold takeSun
  split
  · dsimp only
    have read : DriveLaw (recomputeGlare (withBlind (fun b =>
        { b with own := some { glare := min glare 100, klux := min klux 150 }, ageTimer := s.timer (seconds 120) }) s)).blind :=
      recomputeGlare_law (law.of_same rfl)
    split
    · exact offerSun_law _ read
    · split
      · exact offerSun_law _ read
      · exact read
  · exact law

theorem sendSun_law (law : DriveLaw s.blind) : DriveLaw (sendSun s).blind := by
  unfold sendSun
  split
  · exact offerSun_law _ law
  · exact law.of_same rfl

theorem endDwell_law (law : DriveLaw s.blind) : DriveLaw (endDwell s).blind := by
  unfold endDwell
  dsimp only
  split
  · exact applyWanted_law (law.of_same rfl)
  · exact law.of_same rfl

theorem endBackoff_law (group : Nat) (law : DriveLaw s.blind) : DriveLaw (endBackoff group s).blind := by
  have checked : DriveLaw (feederCheck group
      (withBlind (fun b => { b with backoffs := b.backoffs.filter (·.group != group) }) s)).1.blind :=
    (feederCheck_eases group _).law (law.of_same rfl)
  unfold endBackoff
  dsimp only
  split
  · exact settleStage_law _ _ checked
  · exact checked

theorem takeLimit_law (number : Nat) (limit : Limit) (active : Bool) (law : DriveLaw s.blind) :
    DriveLaw (takeLimit number limit active s).blind := by
  have limited : Eases s (withBlind (·.mapDrive number fun d => { d with limits := d.limits.set limit active }) s) :=
    Blind.mapDrive_eases fun _ _ => Drive.eases_of_aside rfl le_rfl rfl fun _ => ⟨rfl, rfl⟩
  unfold takeLimit
  split
  · exact law
  · dsimp only
    split
    · exact settleStage_law _ _ ((haltAtLimit_eases _ _).law (limited.law law))
    · exact limited.law law

theorem endIntermediate_law (number goal : Nat) (law : DriveLaw s.blind) : DriveLaw (endIntermediate number goal s).blind :=
  settleStage_law _ _ (((haltDrive_eases _ _ s).trans (retake_eases _ _)).law law)

/-- A change of one drive, out of service perhaps, within its law and without a slot gained. -/
theorem DriveLaw.mapDrive {b : Blind} (law : DriveLaw b) (n : Nat) {f : Drive → Drive}
    (keep : ∀ d, pick? b.drives n = some d → d.Lawful → (f d).Lawful ∧ ((f d).holdsSlot = true → d.holdsSlot = true)) :
    DriveLaw (b.mapDrive n f) := by
  cases fitted : pick? b.drives n with
  | none => rwa [Blind.mapDrive_of_absent fitted]
  | some d =>
    obtain ⟨slots, each⟩ := (driveLaw_iff b).1 law
    obtain ⟨lawful, slot⟩ := keep d fitted (each d (mem_of_pick? fitted))
    rw [Blind.mapDrive_of_fitted fitted, driveLaw_iff]
    refine ⟨le_trans ?_ slots, fun e mem => (mem_put mem).elim (fun same => same ▸ lawful) (each e)⟩
    exact countP_le_of_forall₂ (forall₂_put (fun _ => id) fun a picked => by
      rw [Option.some.inj (picked.symm.trans fitted)]
      exact slot)

/-- A drive that has stopped is judged for a stall. -/
theorem Drive.stall_lawful {d : Drive} (stopped : d.state = .stopped) : d.stall.Lawful where
  out _ := stopped
  streak := Nat.min_le_left _ _
  running runs := nomatch stopped.symm.trans runs

theorem stopped_of_haltDrive (number : Nat) (position : Option Nat) (s : State) :
    (haltDrive number position s).blind.AllOf [number] (·.state = .stopped) := by
  have kept : (haltDrive number position s).blind = (s.blind.mapDrive number (·.halt position)) :=
    (hearHalt_blind _).trans (announceHalt_frame _).blind
  rw [kept]
  exact Blind.foldl_mapDrive_brings (f := (·.halt position)) (p := (·.state = .stopped)) (fun _ => rfl) [number] s.blind

theorem stallDrive_law (number : Nat) (law : DriveLaw s.blind) : DriveLaw (stallDrive number s).blind := by
  have stalled : DriveLaw (withBlind (·.mapDrive number Drive.stall) (haltDrive number none s)).blind := by
    refine ((haltDrive_eases number none s).law law).mapDrive number fun d picked _ => ?_
    have stopped := stopped_of_haltDrive number none s number (List.mem_singleton_self _) d picked
    exact ⟨Drive.stall_lawful stopped, id⟩
  unfold stallDrive
  dsimp only
  refine settleStage_law _ _ ?_
  split
  · exact stalled
  · exact (retake_eases _ _).law stalled

theorem blindRestart_law (law : DriveLaw s.blind) : DriveLaw (blindRestart s).blind := by
  have down : DriveLaw (withBlind Blind.standDown
      (dropHand (withBlind (fun b => { b with orphans := [] }) (forEach (s.blind.inState .running) cutShort s)))).blind :=
    ((dropHand_eases _).trans (standDown_eases _)).law
      (DriveLaw.of_same ((forEach_rel Eases .refl .trans _ cutShort_eases _ s).law law) rfl)
  unfold blindRestart
  dsimp only
  split
  · exact down
  · exact reapply_law down

theorem restoreDrives_law (law : DriveLaw s.blind) : DriveLaw (restoreDrives s).blind := by
  obtain ⟨slots, each⟩ := (driveLaw_iff _).1 law
  refine (driveLaw_iff _).2 ⟨le_trans ?_ slots, fun d mem => ?_⟩
  · show (s.blind.drives.map fun d => if d.inService then d else d.restore).countP _ ≤ _
    rw [List.countP_map]
    refine List.countP_mono_left fun d _ holds => ?_
    simp only [Function.comp_apply] at holds
    split at holds <;> exact holds
  · obtain ⟨e, held, rfl⟩ := List.mem_map.1 (show d ∈ s.blind.drives.map _ from mem)
    have lawful := each e held
    split
    · exact lawful
    next out =>
      have stopped := lawful.out (by simpa using out)
      exact ⟨fun off => (nomatch off), Nat.zero_le _, fun runs => nomatch stopped.symm.trans runs⟩

theorem blindClear_law (law : DriveLaw s.blind) : DriveLaw (blindClear s).blind := by
  unfold blindClear
  split
  · exact law
  · split
    · exact restoreDrives_law law
    · exact settleStage_law _ _ ((forEach_rel Eases .refl .trans _ takeTarget_eases _ _).law (restoreDrives_law law))

theorem startDrives_lawful (travel : List Nat) (limits : List LimitLevels) :
    ∀ d ∈ startDrives travel limits, d.state = .stopped ∧ d.streak = 0 := by
  intro d mem
  obtain ⟨i, inside, rfl⟩ := List.mem_mapIdx.1 mem
  exact ⟨rfl, rfl⟩

/-- Drives that are all STOPPED with streak 0 meet the law. -/
theorem driveLaw_of_stopped {b : Blind} (h : ∀ d ∈ b.drives, d.state = .stopped ∧ d.streak = 0) : DriveLaw b := by
  refine (driveLaw_iff b).2 ⟨?_, fun d mem => ?_⟩
  · rw [List.countP_eq_zero.2 fun d mem => by simp [Drive.holdsSlot, (h d mem).1]]
    exact Nat.zero_le _
  · obtain ⟨stopped, fresh⟩ := h d mem
    exact ⟨fun _ => stopped, fresh ▸ Nat.zero_le _, fun runs => nomatch stopped.symm.trans runs⟩

theorem blindStart_law (s : State) : DriveLaw (blindStart s).blind :=
  ite_keeps (P := fun u => DriveLaw u.blind) (driveLaw_of_stopped (by exact startDrives_lawful _ _))
    (reapply_law (driveLaw_of_stopped (by exact startDrives_lawful _ _)))

theorem blindAssertion_law (law : DriveLaw s.blind) : DriveLaw (blindAssertion s).blind :=
  ((forEach_rel Eases .refl .trans _ cutShort_eases _ _).trans ((dropHand_eases _).trans (standDown_eases _))).law
    (law.of_same (by exact rfl))

/-! ### The law, through every step -/

/-- The law of the drives, as a property of the state. -/
def drivesLawful (s : State) : Prop := DriveLaw s.blind

theorem drivesLawful_of_blind (law : drivesLawful s) (h : t.blind = s.blind) : drivesLawful t :=
  DriveLaw.of_same law (congrArg Blind.drives h)

theorem blindTarget_law (target : Option Nat) (law : drivesLawful s) : drivesLawful (blindTarget target s) :=
  policyEvent_law _ (law.of_same rfl)

theorem blindOccupancy_law (e : OccupancyEvent) (law : drivesLawful s) : drivesLawful (blindOccupancy e s) :=
  ite_keeps law (policyEvent_law _ (law.of_same rfl))

theorem endOverride_law (cause : OverrideCause) (value : Int) (law : drivesLawful s) : drivesLawful (endOverride cause value s) := by
  have reset : drivesLawful (resetOverride cause value s) := law
  have offset : drivesLawful (returnOffset s.panel (resetOverride cause value s)) := ite_keeps reset reset
  have boost : drivesLawful (returnBoost s.panel (returnOffset s.panel (resetOverride cause value s))) :=
    ite_keeps (drivesLawful_of_blind offset (airBoost_frame _ _).blind) offset
  exact ite_keeps (blindTarget_law _ boost) boost

theorem endIfOn_law (cause : OverrideCause) (law : drivesLawful s) : drivesLawful (endIfOn cause s) :=
  ite_keeps (endOverride_law _ _ law) (ite_keeps law law)

theorem keyWhileOn_law (key : Key) (law : drivesLawful s) : drivesLawful (keyWhileOn key s) := by
  have offset (step : Int) : drivesLawful (moveOffset step s) := ite_keeps law (endOverride_law _ _ law)
  have target (step : Int) : drivesLawful (moveTarget step s) := ite_keeps law (blindTarget_law _ law)
  cases key with
  | lightPlus => exact offset 100
  | lightMinus => exact offset (-100)
  | blindUp => exact target (-25)
  | blindDown => exact target 25
  | airPlus =>
    exact ite_keeps (endOverride_law _ _ law) (ite_keeps (endOverride_law _ _ law) (drivesLawful_of_blind law (airBoost_frame _ _).blind))
  | resume => exact endOverride_law _ _ law

theorem panelRegime_law (n : RegimeNotice) (law : drivesLawful s) : drivesLawful (panelRegime n s) :=
  ite_keeps (endIfOn_law _ law) law

theorem panelOccupancy_law (e : OccupancyEvent) (law : drivesLawful s) : drivesLawful (panelOccupancy e s) :=
  ite_keeps (endIfOn_law _ law) law

theorem drivesLawful_engineKeeps : EngineKeeps drivesLawful where
  aside same law := drivesLawful_of_blind law same.blind
  regime minute law := ite_keeps (fanOut_keeps drivesLawful _ (fun b t law => by
    cases b with
    | air => exact drivesLawful_of_blind law (airRegime_frame _ t).blind
    | light => exact law
    | blind => exact policyEvent_law _ (law.of_same rfl)
    | panel => exact panelRegime_law _ law
    | clock | intake | session | counter | peers | alert => exact law) _ _ law) law
  ends := endIfOn_law
  record law := law

theorem takeStart_law (b : Block) (law : drivesLawful s) : drivesLawful (takeStart b s) := by
  cases b with
  | blind => exact blindStart_law s
  | air => exact drivesLawful_of_blind law (airStart_frame s).blind
  | alert => exact ite_keeps law law
  | clock | intake | session | counter | peers | light | panel => exact law

theorem drivesLawful_stationKeeps : StationKeeps drivesLawful where
  toEngineKeeps := drivesLawful_engineKeeps
  mode phase address settings clamped _ _ _ law := by
    refine fanOut_keeps drivesLawful _ (fun b _ => takeStart_law b) _ _ (drivesLawful_of_blind law ?_)
    exact (offerIdentity_frame _).blind.trans ((alertIs_frame _ _ _).blind.trans (alertIs_frame _ _ _).blind)
  occupancy c kind kinds before _ law := forEach_keeps drivesLawful _ (fun k t law =>
    fanOut_keeps drivesLawful _ (fun b t law => by
      cases b with
      | session => exact drivesLawful_engineKeeps.sessionOccupancy _ law
      | air => exact drivesLawful_of_blind law (airOccupancy_frame _ t).blind
      | light => exact drivesLawful_of_blind law (lightOccupancy_only _ t).blind
      | blind => exact blindOccupancy_law _ law
      | panel => exact panelOccupancy_law _ law
      | clock | intake | counter | peers | alert => exact law) _ _ law) _ _ law
  deliver w _ _ law := by
    refine forEach_keeps drivesLawful _ (fun n t law => fanOut_keeps drivesLawful _ (fun b t law => ?_) _ _ law) _ _ ?_
    · cases b with
      | air => exact drivesLawful_of_blind law (airNotice_frame n t).blind
      | blind => exact blindNotice_law n law
      | clock | intake | session | counter | peers | light | panel | alert => exact law
    · split
      · exact law
      · exact drivesLawful_of_blind law (alertIs_frame _ _ _).blind
  report := feederReport_law
  co2 ppm law := drivesLawful_of_blind law (takeCo2_frame ppm _).blind
  co2Loss law := drivesLawful_of_blind law (loseCo2_frame _).blind
  rateWindow law := drivesLawful_of_blind law (closeRateWindow_frame _).blind
  refresh _ _ law := drivesLawful_of_blind law (offerFigures_frame _).blind
  feedback permille law := drivesLawful_of_blind law (compareDamper_frame _).blind
  damperFault _ law := law
  shortfall law := law
  airRestart law := drivesLawful_of_blind law (airRestart_frame _).blind
  photo _ law := law
  photoLoss law := law
  harvest due law := drivesLawful_of_blind law (harvestTick_only due _).blind
  fade _ _ _ _ _ law := law
  warning law := law
  holdRelease law := law
  wallSwitch _ _ _ _ _ law := law
  lightRestart law := law
  sun := takeSun_law
  sunAge law := recomputeGlare_law (law.of_same rfl)
  sunSend := sendSun_law
  glareHold law := setGlare_law _ (law.of_same rfl)
  dwell := endDwell_law
  window := closeWindow_law
  backoff k _ _ := endBackoff_law k.group
  limit := takeLimit_law
  runTimer number goal _ := endIntermediate_law number goal
  watchdog number _ := stallDrive_law number
  blindRestart := blindRestart_law
  blindClear := blindClear_law
  key key _ law := ite_keeps (keyWhileOn_law key law) (ite_keeps law (ite_keeps (keyWhileOn_law key law) law))
  blink law := law
  panelClear law := law

theorem drivesLawful_blindOff {b : Blind} (none : b.drives = []) : DriveLaw b :=
  driveLaw_of_stopped (by simp [none])

theorem drivesLawful_endures : Endures drivesLawful where
  toLives := drivesLawful_stationKeeps.lives
  powerUp {s} law := by
    rcases powerUp_cases s with e | e <;> rw [e]
    · exact law
    · exact drivesLawful_blindOff rfl
  powerOff _ := drivesLawful_blindOff rfl
  emergency _ law := ite_keeps law (fanOut_keeps drivesLawful _ (fun b t law => by
    split
    · cases b with
      | air => exact drivesLawful_of_blind law (airAssertion_frame t).blind
      | blind => exact blindAssertion_law law
      | panel => exact endIfOn_law _ law
      | clock | intake | session | counter | peers | light | alert => exact law
    · cases b with
      | air => exact drivesLawful_of_blind law (airRelease_frame t).blind
      | blind => exact reapply_law (law.of_same rfl)
      | clock | intake | session | counter | peers | light | panel | alert => exact law) _ _ law)

/-- Settles O49: every event eases the drives, forms groups of as many as slots are free, or takes or returns drives that are STOPPED. -/
theorem everyStepKeepsTheDriveLaw : Obligations.EveryStepKeepsTheDriveLaw := fun _ _ law stepped =>
  drivesLawful_endures.step law stepped

end Sys2Proof.Machine
end

section
/-!
PROOFS. The law of the figures, the grant, the damper and the shortfall state, operation by operation, and so by every step (R108, R109,
R116 to R125).
-/

namespace Sys2Proof.Machine

/-! ### The parts of the law -/

/-- The figures, and what the mode and the asserted line fix (R108, R109, R111, R119, R123, R125). -/
structure AirBase (s : State) : Prop where
  maxFlow : 1 ≤ s.loader.settings.maxFlow
  figures : s.air.minimum ≤ s.air.demand ∧ s.air.demand ≤ s.loader.settings.maxFlow ∧ s.air.claimClass ≤ 3
  fallback : s.loader.phase = .fallback → s.air.demand = 0 ∧ s.air.claimClass = 0 ∧ s.air.grant = 0 ∧
    (s.air.emergency = false → s.air.command = 500)
  asserted : s.air.emergency = true → s.air.grant = 0 ∧ s.air.command = 0
  command : s.air.command ≤ 1000
  table : s.started = false → ∀ p, some p ∉ s.peers.slots

/-- The grant is the one the view gives, and within the demand (R116 to R119). -/
structure Granted (s : State) : Prop where
  view : s.loader.phase = .normal → s.air.emergency = false →
    s.air.grant = s.grantNow ∧ s.air.command = commandFor s.loader.settings s.air.grant
  bound : s.air.grant ≤ s.air.demand

/-- The shortfall state is judged (R121). -/
def ShortfallJudged (s : State) : Prop := s.air.shortfall = s.air.shortNow

/-- The damper fault is judged (R120). -/
def FaultJudged (s : State) : Prop :=
  s.air.faultTimer.isSome = true ∨ s.isRaised .damperFault = true → s.air.damperFar = true

theorem airLaw_iff (s : State) : AirLaw s ↔ AirBase s ∧ Granted s ∧ ShortfallJudged s ∧ FaultJudged s :=
  ⟨fun h => ⟨⟨h.maxFlow, h.figures, h.fallback, h.asserted, h.bound.2, h.table⟩, ⟨h.grant, h.bound.1⟩, h.shortfall, h.fault⟩,
    fun ⟨base, granted, short, fault⟩ => ⟨base.maxFlow, base.figures, base.fallback, base.asserted, granted.view,
      ⟨granted.bound, base.command⟩, short, base.table, fault⟩⟩

variable {s t : State}

/-! ### What the parts look at -/

theorem started_of_loader (loader : t.loader = s.loader) : t.started = s.started := by rw [State.started, State.started, loader]

theorem grantNow_of_same (loader : t.loader = s.loader) (claims : t.peers.claims = s.peers.claims)
    (figures : t.air.figures = s.air.figures) : t.grantNow = s.grantNow := by
  have demand : t.air.demand = s.air.demand := congrArg ClaimFigures.demand figures
  unfold State.grantNow State.participants
  rw [loader, claims, figures, demand]

/-- The figures, the grant and the command are the same, and the line. -/
structure Air.Alike (a b : Air) : Prop where
  figures : b.figures = a.figures
  emergency : b.emergency = a.emergency
  grant : b.grant = a.grant
  command : b.command = a.command

theorem Air.Alike.demand {a b : Air} (h : a.Alike b) : b.demand = a.demand := congrArg ClaimFigures.demand h.figures

theorem Air.Alike.minimum {a b : Air} (h : a.Alike b) : b.minimum = a.minimum := congrArg ClaimFigures.minimum h.figures

theorem Air.Alike.claimClass {a b : Air} (h : a.Alike b) : b.claimClass = a.claimClass := congrArg ClaimFigures.claimClass h.figures

theorem AirBase.of_alike (h : AirBase s) (loader : t.loader = s.loader) (peers : t.peers = s.peers) (alike : s.air.Alike t.air) :
    AirBase t where
  maxFlow := by rw [loader]; exact h.maxFlow
  figures := by rw [loader, alike.minimum, alike.demand, alike.claimClass]; exact h.figures
  fallback := by
    rw [loader, alike.grant, alike.command, alike.emergency, alike.demand, alike.claimClass]
    exact h.fallback
  asserted := by rw [alike.emergency, alike.grant, alike.command]; exact h.asserted
  command := by rw [alike.command]; exact h.command
  table := by rw [started_of_loader loader, peers]; exact h.table

theorem Granted.of_alike (h : Granted s) (loader : t.loader = s.loader) (claims : t.peers.claims = s.peers.claims)
    (alike : s.air.Alike t.air) : Granted t where
  view := by
    rw [loader, alike.emergency, alike.grant, alike.command, grantNow_of_same loader claims alike.figures]
    exact h.view
  bound := by rw [alike.grant, alike.demand]; exact h.bound

theorem FaultJudged.of_same (h : FaultJudged s) (timer : t.air.faultTimer = s.air.faultTimer)
    (raised : t.isRaised .damperFault = s.isRaised .damperFault) (command : t.air.command = s.air.command)
    (feedback : t.air.feedback = s.air.feedback) : FaultJudged t := by
  unfold FaultJudged Air.damperFar at *
  rw [timer, raised, command, feedback]
  exact h

/-- A change that leaves the figures, the grant and the command alone, with the shortfall and the fault judged. -/
theorem AirLaw.of_alike (law : AirLaw s) (loader : t.loader = s.loader) (peers : t.peers = s.peers) (alike : s.air.Alike t.air)
    (short : ShortfallJudged t) (fault : FaultJudged t) : AirLaw t := by
  obtain ⟨base, granted, -, -⟩ := (airLaw_iff s).1 law
  exact (airLaw_iff t).2 ⟨base.of_alike loader peers alike,
    granted.of_alike loader (congrArg PeerTable.claims peers) alike, short, fault⟩

/-- The law looks at the Loader, the Peer Table, the Air Controller and one alert. -/
theorem AirLaw.of_same (law : AirLaw s) (loader : t.loader = s.loader) (peers : t.peers = s.peers) (air : t.air = s.air)
    (raised : t.isRaised .damperFault = s.isRaised .damperFault) : AirLaw t := by
  obtain ⟨-, -, short, fault⟩ := (airLaw_iff s).1 law
  refine law.of_alike loader peers ?_ ?_ (fault.of_same (by rw [air]) raised (by rw [air]) (by rw [air]))
  · rw [air]
    exact ⟨rfl, rfl, rfl, rfl⟩
  · unfold ShortfallJudged
    rw [air]
    exact short

theorem AirLaw.of_claims (law : AirLaw s) (h : AirClaims s t) : AirLaw t := by
  obtain ⟨-, -, short, fault⟩ := (airLaw_iff s).1 law
  have raised : t.isRaised .damperFault = s.isRaised .damperFault := by rw [State.isRaised, State.isRaised, h.alert]
  refine law.of_alike h.loader h.peers ?_ ?_ (fault.of_same (by rw [h.air]) raised (by rw [h.air]) (by rw [h.air]))
  · rw [h.air]
    exact ⟨rfl, rfl, rfl, rfl⟩
  · unfold ShortfallJudged
    rw [h.air]
    exact short

/-! ### The figures (R107 to R111) -/

theorem claimClassOf_le (regime : Regime) (mode : Option Mode) : claimClassOf regime mode ≤ 3 := by
  unfold claimClassOf
  split <;> decide

theorem demandNow_le (a : Air) (c : Settings) : a.demandNow c ≤ c.maxFlow := by
  unfold Air.demandNow
  split
  · exact Nat.min_le_right _ _
  · exact Nat.min_le_right _ _

theorem minimumNow_le (a : Air) (c : Settings) : a.minimumNow c ≤ a.demandNow c := by
  unfold Air.minimumNow Air.demandNow
  split
  · exact le_rfl
  · exact min_le_min_right _ (by unfold Air.sub; omega)

theorem grantOf_le {capacity : Nat} {participants : List ClaimFigures} {p : ClaimFigures} (order : p.minimum ≤ p.demand) :
    grantOf capacity participants p ≤ p.demand := by
  by_cases scarce : capacity < totalMinimum participants
  · rw [grantOf_of_scarce scarce]
    refine le_trans (Nat.div_le_of_le_mul ?_) order
    rw [Nat.mul_comm (totalMinimum participants)]
    exact Nat.mul_le_mul_left _ scarce.le
  · rw [grantOf_of_ample (Nat.le_of_not_lt scarce)]
    have extra := extraOf_le (capacity := capacity) (participants := participants) p
    rw [ClaimFigures.extraNeed] at extra
    omega

theorem grantNow_le (order : s.air.minimum ≤ s.air.demand) : s.grantNow ≤ s.air.demand := by
  unfold State.grantNow
  split
  · exact le_rfl
  · exact grantOf_le (p := s.air.figures) order

/-! ### The damper (R119, R120) -/

theorem compareDamper_air (s : State) : ∃ timer, (compareDamper s).air = { s.air with faultTimer := timer } := by
  unfold compareDamper
  split
  · split
    · exact ⟨_, rfl⟩
    next due running => exact ⟨some due, by rw [← running]⟩
  · exact ⟨none, rfl⟩

theorem setCommand_air (command : Nat) (s : State) :
    ∃ timer, (setCommand command s).air = { s.air with command := command, faultTimer := timer } := by
  unfold setCommand
  split
  next same => exact ⟨s.air.faultTimer, by rw [same]⟩
  next => exact compareDamper_air _

theorem setGrant_air (grant : Nat) (s : State) :
    ∃ timer, (setGrant grant s).air =
      { s.air with grant := grant, command := commandFor s.loader.settings grant, faultTimer := timer } := setCommand_air _ _

/-- A comparison judges the fault, whatever stood. -/
theorem compareDamper_fault (s : State) : FaultJudged (compareDamper s) := by
  cases far : s.air.damperFar with
  | true =>
    rw [compareDamper_of_far far]
    exact fun _ => far
  | false =>
    rw [compareDamper_of_near far]
    rintro (timer | raised)
    · exact nomatch timer
    · rw [isRaised_clear] at raised
      simp at raised

theorem setCommand_fault (command : Nat) (h : FaultJudged s) : FaultJudged (setCommand command s) := by
  unfold setCommand
  split
  · exact h
  · exact compareDamper_fault _

theorem setGrant_fault (grant : Nat) (h : FaultJudged s) : FaultJudged (setGrant grant s) :=
  setCommand_fault _ (h.of_same (by exact rfl) (by exact rfl) (by exact rfl) (by exact rfl))

/-- In NORMAL with the line released, a grant set from the view is the one the view gives. -/
theorem setGrant_base (base : AirBase s) (normal : s.isNormal = true) (released : s.air.emergency = false) :
    AirBase (setGrant s.grantNow s) ∧ Granted (setGrant s.grantNow s) := by
  obtain ⟨timer, air⟩ := setGrant_air s.grantNow s
  have frame := setGrant_frame s.grantNow s
  have phase : s.loader.phase = .normal := by simpa [State.isNormal] using normal
  have same : (setGrant s.grantNow s).grantNow = s.grantNow :=
    grantNow_of_same frame.loader (congrArg PeerTable.claims frame.peers) (by rw [air]; rfl)
  refine ⟨?_, ?_⟩
  · refine ⟨by rw [frame.loader]; exact base.maxFlow, by rw [frame.loader, air]; exact base.figures, fun fallback => ?_,
      fun asserted => ?_, ?_, by rw [started_of_loader frame.loader, frame.peers]; exact base.table⟩
    · rw [frame.loader, phase] at fallback
      exact nomatch fallback
    · rw [air] at asserted
      exact nomatch released.symm.trans asserted
    · rw [air]
      exact Nat.min_le_right _ _
  · refine ⟨fun _ _ => ?_, ?_⟩
    · rw [same, frame.loader, air]
      exact ⟨rfl, rfl⟩
    · rw [air]
      exact grantNow_le base.figures.1

/-! ### Shortfall (R121) -/

theorem judgeShortfall_air (s : State) :
    ∃ timer record, (judgeShortfall s).air =
      { s.air with shortfall := s.air.shortNow, shortfallTimer := timer, shortfallRecord := record } := by
  unfold judgeShortfall
  split
  next short =>
    split
    next held => exact ⟨s.air.shortfallTimer, s.air.shortfallRecord, by rw [short, ← held]⟩
    next => exact ⟨_, true, by rw [short]; rfl⟩
  next ample =>
    rw [Bool.not_eq_true] at ample
    split
    next => exact ⟨none, s.air.shortfallRecord, by rw [ample]; rfl⟩
    next held =>
      rw [Bool.not_eq_true] at held
      exact ⟨s.air.shortfallTimer, s.air.shortfallRecord, by rw [ample, ← held]⟩

theorem isRaised_judgeShortfall (s : State) {a : Alert} (h : a ≠ .shortfall) : (judgeShortfall s).isRaised a = s.isRaised a :=
  (alertsKept_closed [.shortfall] s).judgeShortfall (by simp) (AlertsKept.refl _ s) a (by simpa using h)

/-- The shortfall judged, the law holds. -/
theorem judgeShortfall_law (base : AirBase s) (granted : Granted s) (fault : FaultJudged s) : AirLaw (judgeShortfall s) := by
  obtain ⟨timer, record, air⟩ := judgeShortfall_air s
  have frame := judgeShortfall_frame s
  have alike : s.air.Alike (judgeShortfall s).air := by
    rw [air]
    exact ⟨rfl, rfl, rfl, rfl⟩
  refine (airLaw_iff _).2 ⟨base.of_alike frame.loader frame.peers alike,
    granted.of_alike frame.loader (congrArg PeerTable.claims frame.peers) alike, ?_,
    fault.of_same (by rw [air]) (isRaised_judgeShortfall s (by decide)) (by rw [air]) (by rw [air])⟩
  unfold ShortfallJudged
  rw [air]
  rfl

/-! ### Recomputation (R110, R118) -/

theorem regrant_of_held (h : s.air.emergency = true ∨ s.isNormal = false) : regrant s = s := if_pos (by simpa using h)

theorem regrant_of_released (released : s.air.emergency = false) (normal : s.isNormal = true) :
    regrant s = setGrant s.grantNow s := if_neg (by simp [released, normal])

/-- The grant recomputed in NORMAL is the one the view gives. -/
theorem regrant_base (base : AirBase s) (fault : FaultJudged s) (normal : s.isNormal = true) :
    AirBase (regrant s) ∧ Granted (regrant s) ∧ FaultJudged (regrant s) := by
  cases line : s.air.emergency with
  | true =>
    rw [regrant_of_held (.inl line)]
    refine ⟨base, ⟨fun _ released => (nomatch line.symm.trans released), ?_⟩, fault⟩
    rw [(base.asserted line).1]
    exact Nat.zero_le _
  | false =>
    rw [regrant_of_released line normal]
    obtain ⟨based, granted⟩ := setGrant_base base normal line
    exact ⟨based, granted, setGrant_fault _ fault⟩

theorem phase_of_normal (normal : s.isNormal = true) : s.loader.phase = .normal := by simpa [State.isNormal] using normal

theorem AirBase.figured (base : AirBase s) (normal : s.isNormal = true) : AirBase (figured s) where
  maxFlow := base.maxFlow
  figures := ⟨minimumNow_le _ _, demandNow_le _ _, claimClassOf_le _ _⟩
  fallback fallback := nomatch (phase_of_normal normal).symm.trans fallback
  asserted := base.asserted
  command := base.command
  table := base.table

/-- In FALLBACK, and before the blocks start, demand is not recomputed; in NORMAL the recomputation ends in the law. -/
theorem recomputeDemand_law (base : AirBase s) (granted : Granted s) (fault : FaultJudged s)
    (short : s.isNormal = false → ShortfallJudged s) : AirLaw (recomputeDemand s) := by
  cases normal : s.isNormal with
  | false =>
    rw [recomputeDemand_of_fallback normal]
    exact (airLaw_iff s).2 ⟨base, granted, short normal, fault⟩
  | true =>
    rw [recomputeDemand_of_normal normal]
    refine AirLaw.of_claims ?_ (testTrigger_claims _)
    have judged : FaultJudged (figured s) := fault.of_same rfl rfl rfl rfl
    unfold regranted
    split
    next same => exact judgeShortfall_law (base.figured normal) (granted.of_alike rfl rfl ⟨same, rfl, rfl, rfl⟩) judged
    next =>
      obtain ⟨based, given, judged⟩ := regrant_base (base.figured normal) judged normal
      exact judgeShortfall_law based given judged

/-- A started station that is not in NORMAL has no demand, and so no shortfall (R125). -/
theorem AirBase.shortNow_of_fallback (base : AirBase s) (up : s.started = true) (other : s.isNormal = false) :
    s.air.shortNow = false := by
  have fallback : s.loader.phase = .fallback := by
    unfold State.started at up
    unfold State.isNormal at other
    split at up
    next phase => simp [phase] at other
    next phase => exact phase
    all_goals exact nomatch up
  simp [Air.shortNow, (base.fallback fallback).1]

/-! ### The Air Controller's events -/

/-- A change of inputs that are no part of the law, recomputed. -/
theorem AirLaw.recompute {a : Air} (law : AirLaw s) (figures : a.figures = s.air.figures) (emergency : a.emergency = s.air.emergency)
    (grant : a.grant = s.air.grant) (command : a.command = s.air.command) (timer : a.faultTimer = s.air.faultTimer)
    (feedback : a.feedback = s.air.feedback) (shortfall : a.shortfall = s.air.shortfall)
    (short : s.isNormal = false → a.shortNow = s.air.shortNow) : AirLaw (recomputeDemand (s.setAir a)) := by
  obtain ⟨base, granted, judged, fault⟩ := (airLaw_iff s).1 law
  have alike : s.air.Alike a := ⟨figures, emergency, grant, command⟩
  refine recomputeDemand_law (base.of_alike rfl rfl alike) (granted.of_alike rfl rfl alike) (fault.of_same timer rfl command feedback) fun other => ?_
  exact shortfall.trans (judged.trans (short other).symm)

theorem airRegime_law (n : RegimeNotice) (law : AirLaw s) : AirLaw (airRegime n s) :=
  law.recompute rfl rfl rfl rfl rfl rfl rfl fun _ => rfl

theorem airBoost_law (on : Bool) (law : AirLaw s) : AirLaw (airBoost on s) :=
  law.recompute rfl rfl rfl rfl rfl rfl rfl fun _ => rfl

theorem airOccupancy_law (e : OccupancyEvent) (up : s.started = true) (law : AirLaw s) : AirLaw (airOccupancy e s) := by
  obtain ⟨base, -, -, -⟩ := (airLaw_iff s).1 law
  have changed : AirBase (s.setAir { s.air with count := e.count, vacant := e.vacant }) :=
    base.of_alike rfl rfl ⟨rfl, rfl, rfl, rfl⟩
  refine ite_keeps law (law.recompute rfl rfl rfl rfl rfl rfl rfl fun other => ?_)
  exact (changed.shortNow_of_fallback up other).trans (base.shortNow_of_fallback up other).symm

theorem airClaimNotice_law (base : AirBase s) (fault : FaultJudged s) (law : s.isNormal = false → AirLaw s) :
    AirLaw (airClaimNotice s) := by
  cases normal : s.isNormal with
  | false =>
    rw [airClaimNotice, normal]
    exact law normal
  | true =>
    rw [airClaimNotice, if_pos normal]
    obtain ⟨based, granted, judged⟩ := regrant_base base fault normal
    exact judgeShortfall_law based granted judged

theorem setCo2_law {a : Air} (ppm : Nat) (law : AirLaw s) (air : a = { s.air with co2State := a.co2State, co2Timer := a.co2Timer }) :
    AirLaw (setCo2 ppm (s.setAir a)) := by
  obtain ⟨base, granted, judged, fault⟩ := (airLaw_iff s).1 law
  have same : (setCo2 ppm (s.setAir a)).air = { s.air with co2 := ppm, co2State := a.co2State, co2Timer := a.co2Timer } := by
    rw [setCo2_air, State.setAir_air]
    exact congrArg (fun a : Air => { a with co2 := ppm }) air
  have frame := setCo2_frame ppm (s.setAir a)
  have raised : (setCo2 ppm (s.setAir a)).isRaised .damperFault = s.isRaised .damperFault :=
    isRaised_setCo2_other ppm (s.setAir a) (by decide)
  refine law.of_alike frame.loader frame.peers ?_ ?_ (fault.of_same (by rw [same]) raised (by rw [same]) (by rw [same]))
  · rw [same]
    exact ⟨rfl, rfl, rfl, rfl⟩
  · unfold ShortfallJudged
    rw [same]
    exact judged

theorem AirLaw.recomputed (law : AirLaw s) : AirLaw (recomputeDemand s) := by
  obtain ⟨base, granted, judged, fault⟩ := (airLaw_iff s).1 law
  exact recomputeDemand_law base granted fault fun _ => judged

/-- An alert other than DAMPER_FAULT is no part of the law. -/
theorem AirLaw.raise (law : AirLaw s) {a : Alert} (h : a ≠ .damperFault) : AirLaw (raiseAlert a s) :=
  law.of_same rfl rfl rfl (by rw [isRaised_raise, decide_eq_false h, Bool.or_false])

theorem AirLaw.clear (law : AirLaw s) {a : Alert} (h : a ≠ .damperFault) : AirLaw (clearAlert a s) :=
  law.of_same rfl rfl rfl (by rw [isRaised_clear, decide_eq_false h, Bool.not_false, Bool.and_true])

theorem takeCo2_law (ppm : Nat) (law : AirLaw s) : AirLaw (takeCo2 ppm s) := by
  have read : AirLaw (setCo2 (clamp 300 5000 ppm) (s.setAir { s.air with co2State := .live, co2Timer := s.timer (minutes 15) })) :=
    setCo2_law _ law rfl
  exact AirLaw.recomputed (ite_keeps (read.clear (by decide)) read)

theorem loseCo2_law (law : AirLaw s) : AirLaw (loseCo2 s) := by
  have gone : AirLaw (setCo2 s.loader.settings.setpoint (s.setAir { s.air with co2State := .lost, co2Timer := none })) :=
    setCo2_law _ law rfl
  exact (gone.raise (by decide)).recomputed

/-- A change of parts of the Air Controller that the law does not look at. -/
theorem AirLaw.setAir {a : Air} (law : AirLaw s)
    (air : a = { s.air with
      record := a.record, rateWindow := a.rateWindow, pendingTrigger := a.pendingTrigger, refreshTimer := a.refreshTimer
      shortfallTimer := a.shortfallTimer, shortfallRecord := a.shortfallRecord }) : AirLaw (s.setAir a) := by
  obtain ⟨base, granted, judged, fault⟩ := (airLaw_iff s).1 law
  refine law.of_alike rfl rfl ?_ ?_ (fault.of_same ?_ rfl ?_ ?_)
  · rw [State.setAir_air, air]
    exact ⟨rfl, rfl, rfl, rfl⟩
  · unfold ShortfallJudged
    rw [State.setAir_air, air]
    exact judged
  all_goals rw [State.setAir_air, air]

theorem closeRateWindow_law (law : AirLaw s) : AirLaw (closeRateWindow s) := by
  have closed : AirLaw (s.setAir { s.air with rateWindow := none, pendingTrigger := false }) := law.setAir rfl
  exact ite_keeps (closed.of_claims (offerClaim_claims _)) closed

theorem compareDamper_law {feedback : Nat} (law : AirLaw s) :
    AirLaw (compareDamper (s.setAir { s.air with feedback := feedback })) := by
  obtain ⟨base, granted, judged, -⟩ := (airLaw_iff s).1 law
  obtain ⟨timer, air⟩ := compareDamper_air (s.setAir { s.air with feedback := feedback })
  have frame := compareDamper_frame (s.setAir { s.air with feedback := feedback })
  refine law.of_alike frame.loader frame.peers ?_ ?_ (compareDamper_fault _)
  · rw [air]
    exact ⟨rfl, rfl, rfl, rfl⟩
  · unfold ShortfallJudged
    rw [air]
    exact judged

theorem damperFault_law (running : s.air.faultTimer ≠ none) (law : AirLaw s) :
    AirLaw (raiseAlert .damperFault (s.setAir { s.air with faultTimer := none })) := by
  obtain ⟨base, granted, judged, fault⟩ := (airLaw_iff s).1 law
  exact law.of_alike rfl rfl ⟨rfl, rfl, rfl, rfl⟩ judged (fun _ => fault (.inl (Option.isSome_iff_ne_none.2 running)))

theorem AirBase.computed (base : AirBase s) (normal : s.isNormal = true) : AirBase (computeDemand s) where
  maxFlow := base.maxFlow
  figures := ⟨minimumNow_le _ _, demandNow_le _ _, base.figures.2.2⟩
  fallback fallback := nomatch (phase_of_normal normal).symm.trans fallback
  asserted := base.asserted
  command := base.command
  table := base.table

theorem airRestart_law (law : AirLaw s) : AirLaw (airRestart s) := by
  obtain ⟨base, -, -, fault⟩ := (airLaw_iff s).1 law
  unfold airRestart
  split
  next normal =>
    obtain ⟨based, granted, judged⟩ := regrant_base (base.computed normal) (fault.of_same rfl rfl rfl rfl) normal
    exact (judgeShortfall_law based granted judged).of_claims (triggerClaim_claims _)
  next => exact law

/-! ### Assertion, release, start -/

theorem airAssertion_law (law : AirLaw s) : AirLaw (airAssertion s) := by
  obtain ⟨base, -, -, fault⟩ := (airLaw_iff s).1 law
  obtain ⟨timer, air⟩ := setCommand_air 0 (s.setAir { s.air with emergency := true, grant := 0, refreshTimer := none })
  have frame := setCommand_frame 0 (s.setAir { s.air with emergency := true, grant := 0, refreshTimer := none })
  have judged := setCommand_fault 0 (s := s.setAir { s.air with emergency := true, grant := 0, refreshTimer := none })
    (fault.of_same rfl rfl rfl rfl)
  refine AirLaw.of_claims (judgeShortfall_law ?_ ⟨fun _ released => ?_, ?_⟩ judged) (triggerClaim_claims _)
  · refine ⟨by rw [frame.loader]; exact base.maxFlow, by rw [frame.loader, air]; exact base.figures, fun fallback => ?_,
      fun _ => by rw [air]; exact ⟨rfl, rfl⟩, by rw [air]; exact Nat.zero_le _,
      by rw [started_of_loader frame.loader, frame.peers]; exact base.table⟩
    rw [frame.loader] at fallback
    obtain ⟨demand, claimClass, -, -⟩ := base.fallback fallback
    rw [air]
    exact ⟨demand, claimClass, rfl, fun released => nomatch released⟩
  · rw [air] at released
    exact nomatch released
  · rw [air]
    exact Nat.zero_le _

theorem phase_of_started (up : s.started = true) (other : s.isNormal = false) : s.loader.phase = .fallback := by
  unfold State.started at up
  unfold State.isNormal at other
  split at up
  next phase => simp [phase] at other
  next phase => exact phase
  all_goals exact nomatch up

theorem airRelease_of_normal (normal : s.isNormal = true) :
    airRelease s = triggerClaim (judgeShortfall (regrant (s.setAir { s.air with emergency := false }))) := if_pos normal

theorem airRelease_of_fallback (other : s.isNormal = false) :
    airRelease s = setCommand 500 (s.setAir { s.air with emergency := false }) :=
  if_neg (show ¬s.isNormal = true by simp [other])

theorem airRelease_law (up : s.started = true) (law : AirLaw s) : AirLaw (airRelease s) := by
  obtain ⟨base, granted, short, fault⟩ := (airLaw_iff s).1 law
  cases normal : s.isNormal with
  | true =>
    have freed : AirBase (s.setAir { s.air with emergency := false }) :=
      ⟨base.maxFlow, base.figures, fun fallback => (nomatch (phase_of_normal normal).symm.trans fallback),
        fun asserted => (nomatch asserted), base.command, base.table⟩
    obtain ⟨based, granted, judged⟩ := regrant_base freed (fault.of_same rfl rfl rfl rfl) normal
    rw [airRelease_of_normal normal]
    exact (judgeShortfall_law based granted judged).of_claims (triggerClaim_claims _)
  | false =>
    have phase := phase_of_started up normal
    obtain ⟨demand, claimClass, grant, -⟩ := base.fallback phase
    obtain ⟨timer, air⟩ := setCommand_air 500 (s.setAir { s.air with emergency := false })
    have frame := setCommand_frame 500 (s.setAir { s.air with emergency := false })
    rw [airRelease_of_fallback normal]
    refine (airLaw_iff _).2 ⟨⟨by rw [frame.loader]; exact base.maxFlow, by rw [frame.loader, air]; exact base.figures, fun _ => ?_,
      fun asserted => ?_, by rw [air]; exact (by decide : 500 ≤ 1000), by rw [started_of_loader frame.loader, frame.peers]; exact base.table⟩,
      ⟨fun other => ?_, ?_⟩, ?_, setCommand_fault 500 (fault.of_same rfl rfl rfl rfl)⟩
    · rw [air]
      exact ⟨demand, claimClass, grant, fun _ => rfl⟩
    · rw [air] at asserted
      exact nomatch asserted
    · rw [frame.loader] at other
      exact nomatch phase.symm.trans other
    · rw [air]
      exact granted.bound
    · unfold ShortfallJudged
      rw [air]
      exact short

theorem airStart_of_normal (normal : s.isNormal = true) :
    airStart s = triggerClaim (judgeShortfall (compareDamper (startCommand (computeDemand (s.setAir s.airAtStart))))) := if_pos normal

theorem airStart_of_fallback (other : s.isNormal = false) :
    airStart s = compareDamper (startCommand (s.setAir s.airAtStart)) := if_neg (show ¬s.isNormal = true by simp [other])

theorem startCommand_of_asserted (asserted : s.air.emergency = true) : startCommand s = s := if_pos asserted

theorem startCommand_of_normal (released : s.air.emergency = false) (normal : s.isNormal = true) :
    startCommand s = setGrant s.grantNow s := by
  rw [startCommand, if_neg (by simp [released]), if_pos normal]

theorem startCommand_of_fallback (released : s.air.emergency = false) (other : s.isNormal = false) :
    startCommand s = setCommand 500 s := by
  rw [startCommand, if_neg (by simp [released]), if_neg (by simp [other])]

/-- A comparison changes nothing the other parts of the law look at. -/
theorem compareDamper_alike (s : State) : s.air.Alike (compareDamper s).air ∧ (compareDamper s).air.shortfall = s.air.shortfall ∧
    (compareDamper s).air.shortNow = s.air.shortNow := by
  obtain ⟨timer, air⟩ := compareDamper_air s
  rw [air]
  exact ⟨⟨rfl, rfl, rfl, rfl⟩, rfl, rfl⟩

/-- The start meets the law whatever the Air Controller held, where the view is empty (R103, R119, R125). -/
theorem airStart_law (maxFlow : 1 ≤ s.loader.settings.maxFlow) (up : s.started = true) : AirLaw (airStart s) := by
  have table (t : State) (loader : t.loader = s.loader) : t.started = false → ∀ p, some p ∉ t.peers.slots := fun down =>
    nomatch (started_of_loader loader ▸ up).symm.trans down
  cases normal : s.isNormal with
  | true =>
    rw [airStart_of_normal normal]
    have begun : AirBase (computeDemand (s.setAir s.airAtStart)) :=
      ⟨maxFlow, ⟨minimumNow_le s.airAtStart _, demandNow_le s.airAtStart _, Nat.zero_le _⟩,
        fun fallback => (nomatch (phase_of_normal normal).symm.trans fallback), fun _ => ⟨rfl, rfl⟩, Nat.zero_le _, table _ rfl⟩
    have given : AirBase (startCommand (computeDemand (s.setAir s.airAtStart))) ∧
        Granted (startCommand (computeDemand (s.setAir s.airAtStart))) := by
      cases line : s.alert.emergency with
      | true =>
        rw [startCommand_of_asserted (by exact line)]
        exact ⟨begun, fun _ released => (nomatch line.symm.trans released), Nat.zero_le _⟩
      | false =>
        rw [startCommand_of_normal (by exact line) (by exact normal)]
        exact setGrant_base begun normal line
    obtain ⟨base, granted⟩ := given
    have frame := compareDamper_frame (startCommand (computeDemand (s.setAir s.airAtStart)))
    obtain ⟨alike, -, -⟩ := compareDamper_alike (startCommand (computeDemand (s.setAir s.airAtStart)))
    exact (judgeShortfall_law (base.of_alike frame.loader frame.peers alike)
      (granted.of_alike frame.loader (congrArg PeerTable.claims frame.peers) alike) (compareDamper_fault _)).of_claims
      (triggerClaim_claims _)
  | false =>
    rw [airStart_of_fallback normal]
    have phase := phase_of_started up normal
    have begun : ∃ timer, (startCommand (s.setAir s.airAtStart)).air =
        { s.airAtStart with command := if s.alert.emergency then 0 else 500, faultTimer := timer } := by
      cases line : s.alert.emergency with
      | true =>
        rw [startCommand_of_asserted (by exact line)]
        exact ⟨none, rfl⟩
      | false =>
        rw [startCommand_of_fallback (by exact line) (by exact normal)]
        exact setCommand_air 500 _
    obtain ⟨timer, air⟩ := begun
    have frame := startCommand_frame (s.setAir s.airAtStart)
    have base : AirBase (startCommand (s.setAir s.airAtStart)) := by
      refine ⟨by rw [frame.loader]; exact maxFlow, by rw [air]; exact ⟨Nat.zero_le _, Nat.zero_le _, Nat.zero_le _⟩, fun _ => ?_,
        fun asserted => ?_, ?_, table _ frame.loader⟩
      · rw [air]
        exact ⟨rfl, rfl, rfl, fun released => if_neg (by simp [show s.alert.emergency = false from released])⟩
      · rw [air] at asserted ⊢
        exact ⟨rfl, if_pos asserted⟩
      · rw [air]
        show (if s.alert.emergency then 0 else 500) ≤ 1000
        split <;> decide
    have granted : Granted (startCommand (s.setAir s.airAtStart)) := by
      refine ⟨fun other => ?_, by rw [air]; exact Nat.zero_le _⟩
      rw [frame.loader] at other
      exact nomatch phase.symm.trans other
    have compared := compareDamper_frame (startCommand (s.setAir s.airAtStart))
    obtain ⟨alike, shortfall, shortNow⟩ := compareDamper_alike (startCommand (s.setAir s.airAtStart))
    refine (airLaw_iff _).2 ⟨base.of_alike compared.loader compared.peers alike,
      granted.of_alike compared.loader (congrArg PeerTable.claims compared.peers) alike, ?_, compareDamper_fault _⟩
    rw [ShortfallJudged, shortfall, shortNow, air]
    rfl

/-! ### What other blocks do -/

/-- The Air Controller stands, and so does its alert, in what the Light, Blind and Override blocks do by themselves. -/
theorem AirLaw.of_room (law : AirLaw s) (frame : RoomFrame s t) (air : t.air = s.air) {touched : List Alert}
    (kept : AlertsKept touched s t) (untouched : .damperFault ∉ touched) : AirLaw t :=
  law.of_same frame.loader frame.peers air (kept _ untouched)

theorem AirLaw.of_blind (law : AirLaw s) (frame : BlindFrame s t) {touched : List Alert} (kept : AlertsKept touched s t)
    (untouched : .damperFault ∉ touched) : AirLaw t := law.of_room frame.toRoomFrame frame.air kept untouched

theorem AirLaw.of_light (law : AirLaw s) (only : LightOnly s t) : AirLaw t := by
  obtain ⟨l, -, rfl⟩ := only
  exact law.of_same rfl rfl rfl rfl

theorem airLaw_withPanel (change : Panel → Panel) (law : AirLaw s) : AirLaw (withPanel change s) := law.of_same rfl rfl rfl rfl

theorem airLaw_withLight (change : Light → Light) (law : AirLaw s) : AirLaw (withLight change s) := law.of_same rfl rfl rfl rfl

theorem airLaw_blindTarget (target : Option Nat) (law : AirLaw s) : AirLaw (blindTarget target s) :=
  law.of_blind (blindTarget_frame target s) ((alertsKept_closed [] s).blindTarget target (AlertsKept.refl _ s)) (by simp)

theorem airLaw_endOverride (cause : OverrideCause) (value : Int) (law : AirLaw s) : AirLaw (endOverride cause value s) := by
  have reset : AirLaw (resetOverride cause value s) := law.of_same rfl rfl rfl rfl
  have offset : AirLaw (returnOffset s.panel (resetOverride cause value s)) :=
    ite_keeps reset (reset.of_light (lightOffset_only 0 _))
  have boost : AirLaw (returnBoost s.panel (returnOffset s.panel (resetOverride cause value s))) :=
    ite_keeps (airBoost_law false offset) offset
  exact ite_keeps (airLaw_blindTarget _ boost) boost

theorem airLaw_endIfOn (cause : OverrideCause) (law : AirLaw s) : AirLaw (endIfOn cause s) :=
  ite_keeps (airLaw_endOverride _ _ law) (ite_keeps (airLaw_withPanel _ law) law)

theorem airLaw_keyWhileOn (key : Key) (law : AirLaw s) : AirLaw (keyWhileOn key s) := by
  have offset (step : Int) : AirLaw (moveOffset step s) :=
    ite_keeps ((airLaw_withPanel _ law).of_light (lightOffset_only _ _)) (airLaw_endOverride _ _ law)
  have target (step : Int) : AirLaw (moveTarget step s) := ite_keeps law (airLaw_blindTarget _ (airLaw_withPanel _ law))
  cases key with
  | lightPlus => exact offset 100
  | lightMinus => exact offset (-100)
  | blindUp => exact target (-25)
  | blindDown => exact target 25
  | airPlus =>
    exact ite_keeps (airLaw_endOverride _ _ law)
      (ite_keeps (airLaw_endOverride _ _ law) (airBoost_law true (airLaw_withPanel _ law)))
  | resume => exact airLaw_endOverride _ _ law

theorem airLaw_panelRegime (n : RegimeNotice) (law : AirLaw s) : AirLaw (panelRegime n s) :=
  ite_keeps (airLaw_endIfOn _ (airLaw_withPanel _ law)) (airLaw_withPanel _ law)

theorem airLaw_panelOccupancy (e : OccupancyEvent) (law : AirLaw s) : AirLaw (panelOccupancy e s) :=
  ite_keeps (airLaw_endIfOn _ (airLaw_withPanel _ law)) (airLaw_withPanel _ law)

theorem airLaw_engineKeeps : EngineKeeps AirLaw where
  aside same law := law.of_same same.loader same.peers same.air same.damperFault
  regime minute law := by
    have published {v : SessionEngine} : AirLaw (State.setSession _ v) := law.of_same rfl rfl rfl rfl
    refine ite_keeps (fanOut_keeps AirLaw _ (fun b t law => ?_) _ _ published) published
    cases b with
    | air => exact airRegime_law _ law
    | light => exact law.of_light (lightRegime_only _ t)
    | blind =>
      exact law.of_blind (blindRegime_frame _ t) ((alertsKept_closed [] t).blindRegime _ (AlertsKept.refl _ t)) (by simp)
    | panel => exact airLaw_panelRegime _ law
    | clock | intake | session | counter | peers | alert => exact law
  ends := airLaw_endIfOn
  record law := law.setAir rfl

/-- A started station takes an occupancy event (R85). -/
theorem airLaw_occupancy (e : OccupancyEvent) (b : Block) (up : s.started = true) (law : AirLaw s) :
    AirLaw (takeOccupancy e b s) := by
  cases b with
  | session => exact airLaw_engineKeeps.sessionOccupancy _ law
  | air => exact airOccupancy_law e up law
  | light => exact law.of_light (lightOccupancy_only e s)
  | blind =>
    exact law.of_blind (blindOccupancy_frame e s) ((alertsKept_closed [] s).blindOccupancy e (AlertsKept.refl _ s)) (by simp)
  | panel => exact airLaw_panelOccupancy e law
  | clock | intake | counter | peers | alert => exact law

/-- What the Blind Controller raises and clears. -/
def blindAlerts : List Alert := [.sunLost, .driveOut]

/-- The Blind Controller's events leave the Air Controller and its alert alone. -/
theorem AirLaw.of_blindEvent {s t : State} (law : AirLaw s) (frame : BlindFrame s t)
    (keeps : Closed blindAlerts (AlertsKept blindAlerts s) → AlertsKept blindAlerts s s → AlertsKept blindAlerts s t) : AirLaw t :=
  law.of_blind frame (keeps (alertsKept_closed _ s) (AlertsKept.refl _ s)) (by decide)

/-- The parts of the law a table that changes leaves standing, until the Air Controller hears of its claims (R118). -/
structure AirBut (s : State) : Prop where
  base : AirBase s
  bound : s.air.grant ≤ s.air.demand
  short : ShortfallJudged s
  fault : FaultJudged s

theorem AirLaw.but (law : AirLaw s) : AirBut s :=
  have ⟨base, granted, short, fault⟩ := (airLaw_iff s).1 law
  ⟨base, granted.bound, short, fault⟩

/-- Outside NORMAL there is no view, and the parts are the law. -/
theorem AirBut.law (h : AirBut s) (other : s.isNormal = false) : AirLaw s :=
  (airLaw_iff s).2 ⟨h.base, ⟨fun phase => absurd phase (by simpa [State.isNormal] using other), h.bound⟩, h.short, h.fault⟩

theorem AirBut.of_same {s t : State} (h : AirBut s) (loader : t.loader = s.loader) (peers : t.peers = s.peers) (air : t.air = s.air)
    (raised : t.isRaised .damperFault = s.isRaised .damperFault) : AirBut t := by
  obtain ⟨base, bound, short, fault⟩ := h
  refine ⟨base.of_alike loader peers ?_, by rw [air]; exact bound, ?_,
    fault.of_same (by rw [air]) raised (by rw [air]) (by rw [air])⟩
  · rw [air]
    exact ⟨rfl, rfl, rfl, rfl⟩
  · unfold ShortfallJudged
    rw [air]
    exact short

/-- The table of a started station may change. -/
theorem AirBut.setPeers (h : AirBut s) (up : s.started = true) (t : PeerTable) : AirBut (s.setPeers t) :=
  ⟨⟨h.base.maxFlow, h.base.figures, h.base.fallback, h.base.asserted, h.base.command, fun down => (nomatch up.symm.trans down)⟩,
    h.bound, h.short, h.fault⟩

theorem airNotice_but (n : PeerNotice) (h : AirBut s) : AirBut (airNotice n s) := by
  cases ofClaims : n.ofClaims with
  | true =>
    rw [airNotice_of_claims ofClaims]
    exact (airClaimNotice_law h.base h.fault h.law).but
  | false => rwa [airNotice_of_others ofClaims]

theorem airNotice_law (n : PeerNotice) (law : AirLaw s) : AirLaw (airNotice n s) := by
  cases ofClaims : n.ofClaims with
  | true =>
    rw [airNotice_of_claims ofClaims]
    exact airClaimNotice_law law.but.base law.but.fault fun _ => law
  | false => rwa [airNotice_of_others ofClaims]

theorem blindNotice_alerts (n : PeerNotice) (s : State) : AlertsKept blindAlerts s (blindNotice n s) := by
  have closed := alertsKept_closed blindAlerts s
  have kept := AlertsKept.refl blindAlerts s
  cases n with
  | claimAdded | claimChanged | claimRemoved => exact kept
  | sunRecorded | sunFresh | sunStale | sunRemoved => exact closed.recomputeGlare (by decide) kept
  | feederChanged | feederRemoved | endHeard => exact closed.settleStage _ _ kept
  | startHeard => exact closed.startHeard _ _ _ kept
  | emptied => exact closed.settleStage _ _ (closed.recomputeGlare (by decide) kept)

theorem takeNotice_but (n : PeerNotice) (b : Block) (h : AirBut s) : AirBut (takeNotice n b s) := by
  cases b with
  | air => exact airNotice_but n h
  | blind =>
    have frame := blindNotice_frame n s
    exact h.of_same frame.loader frame.peers frame.air (blindNotice_alerts n s _ (by decide))
  | clock | intake | session | counter | peers | light | panel | alert => exact h

theorem takeNotice_law (n : PeerNotice) (b : Block) (law : AirLaw s) : AirLaw (takeNotice n b s) := by
  cases b with
  | air => exact airNotice_law n law
  | blind => exact law.of_blind (blindNotice_frame n s) (blindNotice_alerts n s) (by decide)
  | clock | intake | session | counter | peers | light | panel | alert => exact law

/-- The table's changes are told in time: what changes a claim has the grant computed again (R101, R118). -/
theorem deliver_airLaw {w : TableWork} (up : s.started = true) (tells : w.Tells s.peers) (law : AirLaw s) : AirLaw (deliver w s) := by
  have told (n : PeerNotice) (t : State) (h : AirBut t) : AirBut (fanOut [.air, .blind] (takeNotice n) t) :=
    fanOut_keeps AirBut _ (fun b _ => takeNotice_but n b) _ _ h
  have kept (n : PeerNotice) (t : State) (law : AirLaw t) : AirLaw (fanOut [.air, .blind] (takeNotice n) t) :=
    fanOut_keeps AirLaw _ (fun b _ => takeNotice_law n b) _ _ law
  rcases tells with same | ⟨n, mem, ofClaims⟩
  · refine forEach_keeps AirLaw _ kept _ _ ?_
    obtain ⟨base, granted, short, fault⟩ := (airLaw_iff s).1 law
    have written : AirLaw (s.setPeers w.table) :=
      (airLaw_iff _).2 ⟨(law.but.setPeers up w.table).base, granted.of_alike rfl same ⟨rfl, rfl, rfl, rfl⟩, short, fault⟩
    split
    · exact written
    · exact ite_keeps (written.raise (by decide)) (written.clear (by decide))
  · refine forEach_brings_under (Q := AirBut) n told (fun t h => ?_) (fun k t _ _ law => kept k t law) _ _ mem ?_
    · refine fanOut_brings_under (Q := AirBut) .air (fun b _ => takeNotice_but n b) (fun u h => ?_)
        (fun b u _ _ law => takeNotice_law n b law) (by decide) h
      show AirLaw (airNotice n u)
      rw [airNotice_of_claims ofClaims]
      exact airClaimNotice_law h.base h.fault h.law
    · have written := law.but.setPeers up w.table
      split
      · exact written
      · next full _ =>
        have frame := alertIs_frame .peerTableFull full (s.setPeers w.table)
        exact written.of_same frame.loader frame.peers frame.air (isRaised_alertIs _ _ _ _)

/-! ### Start, and the law through every step -/

theorem claims_of_empty {t : PeerTable} (h : ∀ p, some p ∉ t.slots) : t.claims = [] := by
  rw [claims_eq, List.filterMap_eq_nil_iff]
  intro slot mem
  cases slot with
  | none => rfl
  | some p => exact absurd mem (h p)

/-- What the start of the Air Controller needs: settings in range, the blocks started, the table empty. -/
structure ReadyForAir (s : State) : Prop where
  maxFlow : 1 ≤ s.loader.settings.maxFlow
  up : s.started = true
  table : ∀ p, some p ∉ s.peers.slots

theorem peersStart_empty (s : State) : ∀ p, some p ∉ (peersStart s).peers.slots := by
  intro p
  simp [peersStart, PeerTable.empty]

theorem takeStart_ready (b : Block) (h : ReadyForAir s) : ReadyForAir (takeStart b s) := by
  have loader := (takeStart_frame b s).loader
  refine ⟨by rw [loader]; exact h.maxFlow, by rw [started_of_loader loader]; exact h.up, ?_⟩
  by_cases own : b = .peers
  · subst own
    exact peersStart_empty s
  · rw [takeStart_peers b s own]
    exact h.table

theorem takeStart_airLaw (b : Block) (other : b ≠ .air) (ready : ReadyForAir s) (law : AirLaw s) : AirLaw (takeStart b s) := by
  cases b with
  | air => exact absurd rfl other
  | peers =>
    obtain ⟨-, granted, short, fault⟩ := (airLaw_iff s).1 law
    have same : (peersStart s).peers.claims = s.peers.claims := by
      rw [claims_of_empty (peersStart_empty s), claims_of_empty ready.table]
    exact (airLaw_iff _).2 ⟨(law.but.setPeers ready.up _).base, granted.of_alike rfl same ⟨rfl, rfl, rfl, rfl⟩, short, fault⟩
  | clock =>
    exact law.of_same rfl rfl rfl (by
      show (raiseAlert .clockUnset _).isRaised .damperFault = _
      rw [isRaised_raise, decide_eq_false (by decide), Bool.or_false]
      rfl)
  | alert =>
    have masked : AirLaw (s.setAlert { s.alert with mask := s.loader.settings.mask }) := law.of_same rfl rfl rfl rfl
    exact ite_keeps (masked.raise (by decide)) masked
  | blind =>
    refine law.of_same (blindStart_frame s).loader (blindStart_frame s).peers (blindStart_frame s).air ?_
    exact (alertsKept_closed blindAlerts s).blindStart (AlertsKept.refl _ s) _ (by decide)
  | intake | session | counter | light | panel => exact law.of_same rfl rfl rfl rfl

theorem takeMode_airLaw (phase : Phase) (address : Option Byte) (settings : Settings) (clamped : Bool)
    (loader : LoaderLaw { phase := phase, readTimer := none, address := address, settings := settings })
    (mode : phase = .normal ∨ phase = .fallback) (down : s.started = false) (law : AirLaw s) :
    AirLaw (takeMode phase address settings clamped s) := by
  have frame := modeTaken_frame phase address settings clamped s
  have maxFlow : 1 ≤ settings.maxFlow := le_trans (by decide) loader.settings.maxFlow.1
  refine fanOut_brings_under (Q := ReadyForAir) .air (fun b _ => takeStart_ready b) (fun t ready => airStart_law ready.maxFlow ready.up)
    (fun b t other ready law => takeStart_airLaw b other ready law) (mem_otherBlocks _) ⟨?_, ?_, ?_⟩
  · exact frame.loader ▸ maxFlow
  · refine (started_of_loader frame.loader).trans ?_
    rcases mode with rfl | rfl <;> rfl
  · exact frame.peers ▸ law.table down

theorem airLaw_stationKeeps : StationKeeps AirLaw where
  toEngineKeeps := airLaw_engineKeeps
  mode phase address settings clamped loader mode reading law :=
    takeMode_airLaw phase address settings clamped loader mode (by rw [State.started, reading]) law
  occupancy c kind kinds before up law := by
    have both := forEach_keeps (fun u : State => u.started = true ∧ AirLaw u)
      (fun kind s => fanOut [.session, .air, .light, .blind, .panel]
        (takeOccupancy { kind := kind, before := before, count := s.counter.count, vacant := s.counter.vacant }) s)
      (fun k t h => fanOut_keeps (fun u : State => u.started = true ∧ AirLaw u) _ (fun b u ⟨up, law⟩ =>
        ⟨(started_of_loader (takeOccupancy_frame _ b u).loader).trans up, airLaw_occupancy _ b up law⟩) _ _ h)
      (kind :: kinds) (State.setCounter _ c) ⟨up, law.of_same rfl rfl rfl rfl⟩
    exact both.2
  deliver w up tells law := deliver_airLaw up tells law
  report sent tag law := law.of_blindEvent (feederReport_frame sent tag _) fun closed => closed.feederReport sent tag
  co2 := takeCo2_law
  co2Loss := loseCo2_law
  rateWindow := closeRateWindow_law
  refresh _ _ law := law.of_claims (offerFigures_claims _)
  feedback _ := compareDamper_law
  damperFault := damperFault_law
  shortfall law := AirLaw.raise (law.setAir rfl) (by decide)
  airRestart := airRestart_law
  photo lux law := law.of_light (takePhoto_only lux _)
  photoLoss law := law.of_light (losePhoto_only _)
  harvest due law := law.of_light (harvestTick_only due _)
  fade _ _ _ _ _ := airLaw_withLight _
  warning := airLaw_withLight _
  holdRelease := airLaw_withLight _
  wallSwitch _ _ _ _ _ := airLaw_withLight _
  lightRestart law := law.of_light (lightRestart_only _)
  sun glare klux law := law.of_blindEvent (takeSun_frame glare klux _) fun closed => closed.takeSun (by decide) glare klux
  sunAge law := law.of_blindEvent ((withBlind_frame _ _ rfl).trans (recomputeGlare_frame _)) fun closed kept =>
    closed.recomputeGlare (by decide) (closed.blind _ kept)
  sunSend law := law.of_blindEvent (sendSun_frame _) fun closed kept => by
    unfold sendSun
    split
    · exact closed.offerSun _ kept
    · exact closed.blind _ kept
  glareHold law := law.of_blindEvent (loseSun_frame _) fun closed kept =>
    closed.setGlare _ (closed.raise _ (by decide) (closed.blind _ kept))
  dwell law := law.of_blindEvent (endDwell_frame _) fun closed => closed.endDwell
  window law := law.of_blindEvent (closeWindow_frame _) fun closed => closed.closeWindow
  backoff k _ _ law := law.of_blindEvent (endBackoff_frame _ _) fun closed => closed.endBackoff k.group
  limit number limit active law :=
    law.of_blindEvent (takeLimit_frame number limit active _) fun closed => closed.takeLimit number limit active
  runTimer number goal _ law := law.of_blindEvent (endIntermediate_frame number goal _) fun closed => closed.endIntermediate number goal
  watchdog number _ law := law.of_blindEvent (stallDrive_frame number _) fun closed => closed.stallDrive (by decide) number
  blindRestart law := law.of_blindEvent (blindRestart_frame _) fun closed => closed.blindRestart
  blindClear law := law.of_blindEvent (blindClear_frame _) fun closed => closed.blindClear (by decide)
  key key _ law := ite_keeps (airLaw_keyWhileOn key law)
    (ite_keeps law (ite_keeps (airLaw_keyWhileOn key (airLaw_withPanel _ law)) (airLaw_withPanel _ law)))
  blink := airLaw_withPanel _
  panelClear := airLaw_withPanel _

/-- A station with the Air Controller idle, the table empty and no alert meets the law. -/
theorem airLaw_of_idle (loader : s.loader.settings = Settings.fallback) (phase : s.loader.phase ≠ .normal ∧ s.loader.phase ≠ .fallback)
    (air : s.air = Air.idle) (raised : s.alert.raised = 0#12) (table : ∀ p, some p ∉ s.peers.slots) : AirLaw s := by
  refine (airLaw_iff s).2 ⟨⟨?_, ?_, fun fallback => absurd fallback phase.2, ?_, ?_, fun _ => table⟩,
    ⟨fun normal => absurd normal phase.1, ?_⟩, ?_, ?_⟩
  · rw [loader]
    decide
  · rw [air]
    exact ⟨le_rfl, Nat.zero_le _, Nat.zero_le _⟩
  · rw [air]
    exact fun asserted => nomatch asserted
  · rw [air]
    exact Nat.zero_le _
  · rw [air]
    exact le_rfl
  · unfold ShortfallJudged
    rw [air]
    rfl
  · rintro (timer | fault)
    · rw [air] at timer
      exact nomatch timer
    · rw [State.isRaised, raised] at fault
      simp at fault

theorem takeAssertion_airLaw (b : Block) (law : AirLaw s) : AirLaw (takeAssertion b s) := by
  cases b with
  | air => exact airAssertion_law law
  | light => exact law.of_same rfl rfl rfl rfl
  | blind =>
    refine law.of_same (blindAssertion_frame s).loader (blindAssertion_frame s).peers (blindAssertion_frame s).air ?_
    exact (alertsKept_closed blindAlerts s).blindAssertion (AlertsKept.refl _ s) _ (by decide)
  | panel => exact airLaw_endIfOn _ (airLaw_withPanel _ law)
  | alert => exact law.raise (by decide)
  | clock | intake | session | counter | peers => exact law

theorem takeRelease_airLaw (b : Block) (up : b = .air → s.started = true) (law : AirLaw s) : AirLaw (takeRelease b s) := by
  cases b with
  | air => exact airRelease_law (up rfl) law
  | light => exact law.of_same rfl rfl rfl rfl
  | blind =>
    refine law.of_same (blindRelease_frame s).loader (blindRelease_frame s).peers (blindRelease_frame s).air ?_
    exact (alertsKept_closed blindAlerts s).blindRelease (AlertsKept.refl _ s) _ (by decide)
  | panel => exact law.of_same rfl rfl rfl rfl
  | alert => exact law.clear (by decide)
  | clock | intake | session | counter | peers => exact law

theorem settleEmergency_airLaw (law : AirLaw s) : AirLaw (settleEmergency s) := by
  have noted {v : AlertUnit} (same : v.raised = s.alert.raised) : AirLaw (s.setAlert v) :=
    law.of_same rfl rfl rfl (congrArg (fun raised : BitVec 12 => raised.getLsbD _) same)
  have settled : AirLaw (s.setAlert { s.alert with debounce := none, emergency := s.lines.emergency }) := noted rfl
  by_cases differs : s.lines.emergency = s.alert.emergency
  · rw [settleEmergency_of_same differs]
    exact noted rfl
  · cases up : s.started with
    | false =>
      rw [settleEmergency_of_unstarted differs up]
      split
      · exact takeAssertion_airLaw .alert settled
      · exact takeRelease_airLaw .alert (nomatch ·) settled
    | true =>
      rw [settleEmergency_of_differs differs]
      have both := fanOut_keeps (fun u => u.started = true ∧ AirLaw u)
        (if s.lines.emergency then takeAssertion else takeRelease) (fun b u ⟨up, law⟩ => by
          split
          · exact ⟨(started_of_loader (takeAssertion_frame b u).loader).trans up, takeAssertion_airLaw b law⟩
          · exact ⟨(started_of_loader (takeRelease_frame b u).loader).trans up, takeRelease_airLaw b (fun _ => up) law⟩)
        s.emergencyBlocks (s.setAlert { s.alert with debounce := none, emergency := s.lines.emergency }) ⟨up, settled⟩
      exact both.2

theorem airLaw_endures : Endures AirLaw where
  toLives := airLaw_stationKeeps.lives
  powerUp {s} law := by
    rcases powerUp_cases s with e | e <;> rw [e]
    · exact law
    · exact airLaw_of_idle rfl ⟨(nomatch ·), (nomatch ·)⟩ rfl rfl (airLaw_reset.table rfl)
  powerOff _ := airLaw_reset.of_same rfl rfl rfl rfl
  emergency _ := settleEmergency_airLaw

/-- Settles O37: every operation of the Air Controller ends in the law, every other block leaves alone what it looks at, and a change of
the claims is told before the event ends. -/
theorem everyStepKeepsTheAirLaw : Obligations.EveryStepKeepsTheAirLaw := fun _ _ law stepped => airLaw_endures.step law stepped

end Sys2Proof.Machine
end

section
/-!
PROOFS. What the drives' operations leave of the Blind Controller's policy, and what its events leave of its inputs (R145 to R149).
-/

namespace Sys2Proof.Machine

/-! ### The policy: what the drives and the stage leave alone -/

/-- The Blind Controller but for its drives, its start in hand, its backoffs, and the numbers it gives. -/
def Blind.policy (b : Blind) : Blind :=
  { b with hand := .nothing, orphans := [], drives := [], backoffs := [], nextGroup := 0, nextTag := 0 }

/-- What the Blind Controller copies from other blocks. -/
structure BlindInputs where
  regime : Regime
  mode : Option Mode
  vacant : Bool
  override : Option Nat

def Blind.inputs (b : Blind) : BlindInputs := { regime := b.regime, mode := b.mode, vacant := b.vacant, override := b.override }

/-- The policy stands. -/
def PolicyKept (s t : State) : Prop := t.blind.policy = s.blind.policy

/-- The inputs stand. -/
def InputsKept (s t : State) : Prop := t.blind.inputs = s.blind.inputs

section Kept

variable {s t u : State}

theorem PolicyKept.refl (s : State) : PolicyKept s s := rfl

theorem PolicyKept.trans (h : PolicyKept s t) (k : PolicyKept t u) : PolicyKept s u := Eq.trans k h

theorem InputsKept.refl (s : State) : InputsKept s s := rfl

theorem InputsKept.trans (h : InputsKept s t) (k : InputsKept t u) : InputsKept s u := Eq.trans k h

theorem PolicyKept.inputs (h : PolicyKept s t) : InputsKept s t :=
  (congrArg Blind.inputs (show t.blind.policy = s.blind.policy from h) :)

theorem PolicyKept.of_blind (h : t.blind = s.blind) : PolicyKept s t := congrArg Blind.policy h

theorem InputsKept.of_blind (h : t.blind = s.blind) : InputsKept s t := congrArg Blind.inputs h

end Kept

@[simp] theorem mapDrive_policy (b : Blind) (n : Nat) (f : Drive → Drive) : (b.mapDrive n f).policy = b.policy := by
  unfold Blind.mapDrive
  split <;> rfl

theorem foldl_mapDrive_policy (numbers : List Nat) (f : Drive → Drive) (b : Blind) :
    (numbers.foldl (fun b n => b.mapDrive n f) b).policy = b.policy :=
  foldl_keeps Blind.policy _ (fun b n => mapDrive_policy b n f) numbers b

/-! ### The drives and the stage -/

theorem haltDrive_blind (number : Nat) (position : Option Nat) (s : State) :
    (haltDrive number position s).blind = s.blind.mapDrive number (·.halt position) :=
  (hearHalt_blind _).trans (announceHalt_frame _).blind

theorem haltDrive_policy (number : Nat) (position : Option Nat) (s : State) : PolicyKept s (haltDrive number position s) := by
  unfold PolicyKept
  rw [haltDrive_blind, mapDrive_policy]

theorem withMapDrive_policy (number : Nat) (f : Drive → Drive) (s : State) : PolicyKept s (withBlind (·.mapDrive number f) s) :=
  mapDrive_policy _ _ _

theorem retake_policy (number : Nat) (s : State) : PolicyKept s (retake number s) := mapDrive_policy _ _ _

theorem haltAtLimit_policy (number : Nat) (s : State) : PolicyKept s (haltAtLimit number s) := by
  unfold haltAtLimit
  split
  · exact .refl s
  · split
    · exact .refl s
    · exact ((haltDrive_policy _ _ s).trans (withMapDrive_policy number _ _)).trans (retake_policy _ _)

theorem checkLimit_policy (number : Nat) (s : State) : PolicyKept s (checkLimit number s) :=
  ite_keeps (haltAtLimit_policy number s) (.refl s)

theorem startMotors_blind (numbers : List Nat) (s : State) :
    (startMotors numbers s).blind = numbers.foldl (fun b n => b.mapDrive n (·.startMotor s.now)) s.blind := by
  unfold startMotors
  dsimp only
  split <;> rfl

theorem startMotors_policy (numbers : List Nat) (s : State) : PolicyKept s (startMotors numbers s) := by
  unfold PolicyKept
  rw [startMotors_blind, foldl_mapDrive_policy]

theorem enterRunning_policy (numbers : List Nat) (s : State) : PolicyKept s (enterRunning numbers s) :=
  (startMotors_policy numbers s).trans (forEach_rel PolicyKept .refl .trans _ checkLimit_policy numbers _)

theorem backOff_policy (group : Nat) (s : State) : PolicyKept s (backOff group s) := rfl

theorem planGroup_policy (group : Nat) (s : State) : PolicyKept s (planGroup group s) := foldl_mapDrive_policy _ _ _

theorem askFeeder_policy (group : Nat) (numbers : List Nat) (s : State) : PolicyKept s (askFeeder group numbers s).1 := by
  have asked : PolicyKept s (awaitReport group numbers.length (offerAnswered (s.feederStart numbers) s).1) :=
    (congrArg Blind.policy (offerAnswered_frame (s.feederStart numbers) s).blind :)
  unfold askFeeder
  dsimp only
  split
  · exact asked
  · exact asked

theorem feederCheck_policy (group : Nat) (s : State) : PolicyKept s (feederCheck group s).1 := by
  unfold feederCheck
  dsimp only
  split
  · exact planGroup_policy group s
  · split
    · exact planGroup_policy group s
    · exact (planGroup_policy group s).trans (askFeeder_policy _ _ _)

theorem recheckGroups_policy (s : State) : PolicyKept s (recheckGroups s).1 :=
  eachAnswered_rel PolicyKept .refl .trans feederCheck feederCheck_policy _ s

theorem formGroup_policy (numbers : List Nat) (s : State) : PolicyKept s (formGroup numbers s) := foldl_mapDrive_policy _ _ _

theorem launchGroup_policy (numbers : List Nat) (s : State) : PolicyKept s (launchGroup numbers s).1 := by
  unfold launchGroup
  dsimp only
  split
  · exact (formGroup_policy numbers s).trans (enterRunning_policy numbers _)
  · exact (formGroup_policy numbers s).trans (feederCheck_policy _ _)

theorem grantSlots_policy (s : State) : PolicyKept s (grantSlots s).1 :=
  eachAnswered_rel PolicyKept .refl .trans launchGroup launchGroup_policy _ s

theorem settleStage_policy : ∀ (rounds : Nat) (recheck : Bool) (s : State), PolicyKept s (settleStage rounds recheck s)
  | 0, _, s => .refl s
  | n + 1, recheck, s => by
    have granted := grantSlots_policy s
    have checked := granted.trans (recheckGroups_policy (grantSlots s).1)
    unfold settleStage
    split
    · exact .refl s
    · dsimp only
      split
      · split
        · exact checked.trans (settleStage_policy n true _)
        · exact checked
      · split
        · exact granted.trans (settleStage_policy n true _)
        · exact granted

theorem dropHand_policy (s : State) : PolicyKept s (dropHand s) := by
  unfold dropHand
  split
  · exact .refl s
  · exact rfl
  · exact (congrArg Blind.policy (offerFeederEnd_frame _ _).blind :)

theorem takeTarget_policy (number : Nat) (s : State) : PolicyKept s (takeTarget number s) :=
  takeTarget_elim (.refl s) (retake_policy number s) (withMapDrive_policy number _ s) (fun _ => dropHand_policy s)
    fun _ => (haltDrive_policy _ _ s).trans (retake_policy _ _)

theorem takeTargets_policy (s : State) : PolicyKept s (takeTargets s) :=
  (forEach_rel PolicyKept .refl .trans _ takeTarget_policy _ s).trans
    (PolicyKept.trans (t := withBlind Blind.pruneBackoffs _) rfl (settleStage_policy _ _ _))

theorem cutShort_policy (number : Nat) (s : State) : PolicyKept s (cutShort number s) := by
  unfold cutShort
  split
  · exact .refl s
  · exact haltDrive_policy _ _ s

theorem orphanReport_policy (sent : Bool) (tag : Nat) (s : State) : PolicyKept s (orphanReport sent tag s) := by
  unfold orphanReport
  split
  · exact .refl s
  · dsimp only
    split
    · exact (congrArg Blind.policy (offerFeederEnd_frame _ _).blind :)
    · exact rfl

theorem feederReport_policy (sent : Bool) (tag : Nat) (s : State) : PolicyKept s (feederReport sent tag s) := by
  unfold feederReport
  split
  · split
    · split
      · exact rfl
      · exact (backOff_policy _ s).trans (settleStage_policy _ _ _)
    · exact orphanReport_policy _ _ s
  · exact orphanReport_policy _ _ s
  · exact orphanReport_policy _ _ s

theorem startHeard_policy (peer : Byte) (drives arrival : Nat) (s : State) : PolicyKept s (startHeard peer drives arrival s) := by
  unfold startHeard
  split
  · split
    · exact rfl
    · exact .refl s
  · exact .refl s
  · exact .refl s

theorem closeWindow_policy (s : State) : PolicyKept s (closeWindow s) := by
  unfold closeWindow
  split
  · dsimp only
    refine PolicyKept.trans (t := withBlind (fun b => { b with hand := .nothing }) s) rfl ?_
    refine PolicyKept.trans ?_ (settleStage_policy _ _ _)
    split
    · exact enterRunning_policy _ _
    · exact (PolicyKept.of_blind (offerFeederEnd_frame _ _).blind).trans (backOff_policy _ _)
  · exact .refl s
  · exact .refl s

theorem endBackoff_policy (group : Nat) (s : State) : PolicyKept s (endBackoff group s) := by
  have checked : PolicyKept s (feederCheck group
      (withBlind (fun b => { b with backoffs := b.backoffs.filter (·.group != group) }) s)).1 :=
    PolicyKept.trans (t := withBlind (fun b => { b with backoffs := b.backoffs.filter (·.group != group) }) s) rfl
      (feederCheck_policy group _)
  unfold endBackoff
  dsimp only
  split
  · exact checked.trans (settleStage_policy _ _ _)
  · exact checked

theorem takeLimit_policy (number : Nat) (limit : Limit) (active : Bool) (s : State) :
    PolicyKept s (takeLimit number limit active s) := by
  have limited := withMapDrive_policy number (fun d => { d with limits := d.limits.set limit active }) s
  unfold takeLimit
  split
  · exact .refl s
  · dsimp only
    split
    · exact (limited.trans (haltAtLimit_policy _ _)).trans (settleStage_policy _ _ _)
    · exact limited

theorem endIntermediate_policy (number goal : Nat) (s : State) : PolicyKept s (endIntermediate number goal s) :=
  ((haltDrive_policy _ _ s).trans (retake_policy _ _)).trans (settleStage_policy _ _ _)

theorem stallDrive_policy (number : Nat) (s : State) : PolicyKept s (stallDrive number s) := by
  have stalled := (haltDrive_policy number none s).trans (withMapDrive_policy number Drive.stall _)
  unfold stallDrive
  dsimp only
  refine PolicyKept.trans ?_ (settleStage_policy _ _ _)
  split
  · exact stalled.trans (.of_blind rfl)
  · exact stalled.trans (retake_policy _ _)

theorem blindClear_policy (s : State) : PolicyKept s (blindClear s) := by
  have restored : PolicyKept s (restoreDrives s) := rfl
  unfold blindClear
  split
  · exact .refl s
  · split
    · exact restored
    · exact (restored.trans (forEach_rel PolicyKept .refl .trans _ takeTarget_policy _ _)).trans (settleStage_policy _ _ _)

/-! ### The policy's events leave the inputs alone -/

theorem applyWanted_policy (s : State) :
    PolicyKept (withBlind (fun b => { b with applied := b.wanted, dwellTimer := s.timer (minutes 10), latched := false }) s)
      (applyWanted s) := takeTargets_policy _

theorem applyWanted_inputs (s : State) : InputsKept s (applyWanted s) := (applyWanted_policy s).inputs

theorem reapply_inputs (s : State) : InputsKept s (reapply s) := applyWanted_inputs (rework s)

theorem policyEvent_inputs (glare : Bool) (s : State) : InputsKept s (policyEvent glare s) := by
  unfold policyEvent
  dsimp only
  split
  · exact rfl
  · split
    · exact rfl
    · split
      · exact rfl
      · exact applyWanted_inputs (rework s)

theorem setGlare_inputs (glare : Nat) (s : State) : InputsKept s (setGlare glare s) := by
  unfold setGlare
  dsimp only
  split
  · exact policyEvent_inputs true (withBlind (fun b => { b with glare := glare, glaring := glaringAt glare b.glaring }) s)
  · exact rfl

theorem recomputeGlare_inputs (s : State) : InputsKept s (recomputeGlare s) := by
  unfold recomputeGlare
  split
  · split
    · exact .refl s
    · exact rfl
  · exact setGlare_inputs _ (clearAlert .sunLost (withBlind (fun b => { b with holdTimer := none }) s))

theorem offerSun_inputs (r : SunSample) (s : State) : InputsKept s (offerSun r s) :=
  (InputsKept.of_blind (offer_frame _ _).blind : InputsKept (withBlind (fun b => { b with
    lastSent := some r.glare, sendTimer := s.timer (seconds 60) }) s) (offerSun r s))

theorem takeSun_inputs (glare klux : Nat) (s : State) : InputsKept s (takeSun glare klux s) := by
  have read : InputsKept s (recomputeGlare (withBlind (fun b =>
      { b with own := some { glare := min glare 100, klux := min klux 150 }, ageTimer := s.timer (seconds 120) }) s)) :=
    recomputeGlare_inputs (withBlind (fun b =>
      { b with own := some { glare := min glare 100, klux := min klux 150 }, ageTimer := s.timer (seconds 120) }) s)
  unfold takeSun
  split
  · dsimp only
    split
    · exact read.trans (offerSun_inputs _ _)
    · split
      · exact read.trans (offerSun_inputs _ _)
      · exact read
  · exact .refl s

theorem sendSun_inputs (s : State) : InputsKept s (sendSun s) := by
  unfold sendSun
  split
  · exact offerSun_inputs _ s
  · exact rfl

theorem endDwell_inputs (s : State) : InputsKept s (endDwell s) :=
  ite_keeps (applyWanted_inputs (withBlind (fun b => { b with dwellTimer := none, latched := false }) s)) rfl

theorem blindRestart_inputs (s : State) : InputsKept s (blindRestart s) := by
  have cut : PolicyKept s (forEach (s.blind.inState .running) cutShort s) :=
    forEach_rel PolicyKept .refl .trans _ cutShort_policy _ s
  have down : InputsKept s (withBlind Blind.standDown
      (dropHand (withBlind (fun b => { b with orphans := [] }) (forEach (s.blind.inState .running) cutShort s)))) :=
    (cut.trans (dropHand_policy (withBlind (fun b => { b with orphans := [] }) _))).inputs
  exact ite_keeps down (down.trans (reapply_inputs _))

theorem blindNotice_inputs (n : PeerNotice) (s : State) : InputsKept s (blindNotice n s) := by
  cases n with
  | claimAdded | claimChanged | claimRemoved => exact .refl s
  | sunRecorded | sunFresh | sunStale | sunRemoved => exact recomputeGlare_inputs s
  | feederChanged | feederRemoved | endHeard => exact (settleStage_policy _ _ s).inputs
  | startHeard => exact (startHeard_policy _ _ _ s).inputs
  | emptied => exact (recomputeGlare_inputs s).trans (settleStage_policy _ _ _).inputs

theorem blindAssertion_inputs (s : State) : InputsKept s (blindAssertion s) := by
  have cut := forEach_rel PolicyKept .refl .trans _ cutShort_policy
    ((withBlind (fun b => { b with emergency := true }) s).blind.inState .running) (withBlind (fun b => { b with emergency := true }) s)
  exact (cut.trans (dropHand_policy _)).inputs

end Sys2Proof.Machine
end

section
/-!
PROOFS. The blocks' copies of the regime, of N and the vacant flag, and of the override values: who tells whom, and that every step ends
with the copies in agreement with their owners (R68, R85, R110, R128, R136, R148, R172).
-/

namespace Sys2Proof.Machine

/-! ### Copies -/

/-- What the Air Controller copies from other blocks, but for the emergency state and its feedback. -/
structure AirCopies where
  regime : Regime
  mode : Option Mode
  head : Nat
  count : Nat
  vacant : Bool
  boost : Bool

/-- What the Light Controller copies, with the scene it derives from it (R128). -/
structure LightCopies where
  regime : Regime
  mode : Option Mode
  vacant : Bool
  offset : Int
  scene : Scene

/-- What the Override Unit copies, and the values it owns. -/
structure PanelCopies where
  regime : Regime
  mode : Option Mode
  vacant : Bool
  on : Bool
  offset : Int
  boost : Bool
  target : Option Nat

def Air.copies (a : Air) : AirCopies :=
  { regime := a.regime, mode := a.mode, head := a.preparingHead, count := a.count, vacant := a.vacant, boost := a.boost }

def Light.copies (l : Light) : LightCopies :=
  { regime := l.regime, mode := l.mode, vacant := l.vacant, offset := l.offset, scene := l.scene }

def Panel.copies (p : Panel) : PanelCopies :=
  { regime := p.regime, mode := p.mode, vacant := p.vacant, on := p.on, offset := p.offset, boost := p.boost, target := p.target }

/-- The override values as they are after an end (R172). -/
def PanelCopies.off (p : PanelCopies) : PanelCopies := { p with on := false, offset := 0, boost := false, target := none }

/-- The owners of the room's values, the Session Engine and the Counter, stand. -/
structure OwnersStand (s t : State) : Prop where
  regime : t.session.regime = s.session.regime
  mode : t.session.mode = s.session.mode
  head : t.session.preparingHead = s.session.preparingHead
  count : t.counter.count = s.counter.count
  vacant : t.counter.vacant = s.counter.vacant

/-- No copy and no owner moves. -/
structure Calm (s t : State) : Prop extends OwnersStand s t where
  air : t.air.copies = s.air.copies
  light : t.light.copies = s.light.copies
  blind : t.blind.inputs = s.blind.inputs
  panel : t.panel.copies = s.panel.copies

/-- No copy and no owner moves but for the override values and their copies. -/
structure Readjusts (s t : State) : Prop extends OwnersStand s t where
  air : { t.air.copies with boost := false } = { s.air.copies with boost := false }
  light : { t.light.copies with offset := 0 } = { s.light.copies with offset := 0 }
  blind : { t.blind.inputs with override := none } = { s.blind.inputs with override := none }
  panel : t.panel.copies.off = s.panel.copies.off

section Relations

variable {s t u : State}

theorem OwnersStand.refl (s : State) : OwnersStand s s := ⟨rfl, rfl, rfl, rfl, rfl⟩

theorem OwnersStand.trans (h : OwnersStand s t) (k : OwnersStand t u) : OwnersStand s u :=
  ⟨k.1.trans h.1, k.2.trans h.2, k.3.trans h.3, k.4.trans h.4, k.5.trans h.5⟩

theorem RoomFrame.stand (h : RoomFrame s t) : OwnersStand s t := by
  constructor
  case count | vacant => rw [h.counter]
  all_goals rw [h.session]

theorem Calm.refl (s : State) : Calm s s := ⟨.refl s, rfl, rfl, rfl, rfl⟩

theorem Calm.trans (h : Calm s t) (k : Calm t u) : Calm s u :=
  ⟨h.1.trans k.1, k.2.trans h.2, k.3.trans h.3, k.4.trans h.4, k.5.trans h.5⟩

theorem Readjusts.refl (s : State) : Readjusts s s := ⟨.refl s, rfl, rfl, rfl, rfl⟩

theorem Readjusts.trans (h : Readjusts s t) (k : Readjusts t u) : Readjusts s u :=
  ⟨h.1.trans k.1, k.2.trans h.2, k.3.trans h.3, k.4.trans h.4, k.5.trans h.5⟩

theorem Calm.readjusts (h : Calm s t) : Readjusts s t := by
  refine ⟨h.1, ?_, ?_, ?_, ?_⟩
  · rw [h.air]
  · rw [h.light]
  · rw [h.blind]
  · rw [h.panel]

theorem Air.Computes.copies {a b : Air} (h : a.Computes b) : b.copies = a.copies := by
  unfold Air.copies
  rw [h.inputs.regime, h.inputs.mode, h.inputs.preparingHead, h.inputs.boost, h.count, h.vacant]

theorem BlindFrame.lightCopies (h : BlindFrame s t) : t.light.copies = s.light.copies := (congrArg Light.copies h.light).trans rfl

theorem Calm.of_air (frame : AirFrame s t) (copies : t.air.copies = s.air.copies) : Calm s t :=
  ⟨frame.stand, copies, by rw [frame.light], by rw [frame.blind], by rw [frame.panel]⟩

theorem Calm.of_blind (frame : BlindFrame s t) (inputs : InputsKept s t) : Calm s t :=
  ⟨frame.stand, by rw [frame.air], frame.lightCopies, inputs, by rw [frame.panel]⟩

theorem Calm.of_light (only : LightOnly s t) (copies : t.light.copies = s.light.copies) : Calm s t :=
  ⟨only.toRoom.stand, by rw [only.air], copies, by rw [only.blind], by rw [only.panel]⟩

theorem Calm.of_quiet (frame : QuietFrame s t) : Calm s t :=
  ⟨frame.stand, by rw [frame.air], by rw [frame.light], by rw [frame.blind], by rw [frame.panel]⟩

theorem Calm.of_aside (h : Aside s t) : Calm s t :=
  ⟨⟨h.regime, h.mode, h.head, h.count, h.vacant⟩, by rw [h.air], by rw [h.light], by rw [h.blind], by rw [h.panel]⟩

theorem Calm.withPanel {change : Panel → Panel} (kept : (change s.panel).copies = s.panel.copies) :
    Calm s (withPanel change s) := ⟨⟨rfl, rfl, rfl, rfl, rfl⟩, rfl, rfl, rfl, kept⟩

theorem Calm.withLight {change : Light → Light} (kept : (change s.light).copies = s.light.copies) :
    Calm s (withLight change s) := ⟨⟨rfl, rfl, rfl, rfl, rfl⟩, rfl, kept, rfl, rfl⟩

end Relations

variable {s t : State}

/-! ### What each block knows -/

/-- The block's copy of the regime is the Session Engine's (R68). -/
def Block.KnowsRegime (s : State) : Block → Prop
  | .air => s.air.regime = s.session.regime ∧ s.air.mode = s.session.mode ∧
      (s.session.regime = .prepare → s.air.preparingHead = s.session.preparingHead)
  | .light => s.light.regime = s.session.regime ∧ s.light.mode = s.session.mode
  | .blind => s.blind.regime = s.session.regime ∧ s.blind.mode = s.session.mode
  | .panel => s.panel.regime = s.session.regime ∧ s.panel.mode = s.session.mode
  | .clock | .intake | .session | .counter | .peers | .alert => True

/-- The block's copy of N and the vacant flag is the Counter's (R85). -/
def Block.KnowsCount (s : State) : Block → Prop
  | .air => s.air.count = s.counter.count ∧ s.air.vacant = s.counter.vacant
  | .light => s.light.vacant = s.counter.vacant
  | .blind => s.blind.vacant = s.counter.vacant
  | .panel => s.panel.vacant = s.counter.vacant
  | .clock | .intake | .session | .counter | .peers | .alert => True

/-- The override values are in their bands, held by the blocks they go to, and at rest while override is OFF (R169 to R172). -/
structure Adjusted (s : State) : Prop where
  boost : s.air.boost = s.panel.boost
  offset : s.light.offset = s.panel.offset
  override : s.blind.override = s.panel.target
  off : s.panel.on = false → s.panel.offset = 0 ∧ s.panel.boost = false ∧ s.panel.target = none
  band : -300 ≤ s.panel.offset ∧ s.panel.offset ≤ 300 ∧ s.panel.offset % 100 = 0
  target : ∀ t, s.panel.target = some t → t ≤ 100

/-- The scene is the one the copies give (R128). -/
def SceneHeld (s : State) : Prop := s.light.scene = sceneOf s.light.regime s.light.mode s.light.vacant

/-- What no event that tells the room of a change breaks at any moment: the override values and the scene. -/
def Furnished (s : State) : Prop := Adjusted s ∧ SceneHeld s

theorem roomLaw_iff (s : State) : RoomLaw s ↔ Furnished s ∧ (∀ b : Block, b.KnowsRegime s) ∧ ∀ b : Block, b.KnowsCount s := by
  constructor
  · rintro ⟨⟨airRegime, airMode, airCount, airVacant, boost⟩, ⟨lightRegime, lightMode, lightVacant, offset⟩, scene,
      ⟨blindRegime, blindMode, blindVacant, override⟩, ⟨panelRegime, panelMode, panelVacant⟩, prepare, off, band, target⟩
    refine ⟨⟨⟨boost, offset, override, off, band, target⟩, scene⟩, fun b => ?_, fun b => ?_⟩
    · cases b
      case air => exact ⟨airRegime, airMode, prepare⟩
      case light => exact ⟨lightRegime, lightMode⟩
      case blind => exact ⟨blindRegime, blindMode⟩
      case panel => exact ⟨panelRegime, panelMode⟩
      all_goals trivial
    · cases b
      case air => exact ⟨airCount, airVacant⟩
      case light => exact lightVacant
      case blind => exact blindVacant
      case panel => exact panelVacant
      all_goals trivial
  · rintro ⟨⟨⟨boost, offset, override, off, band, target⟩, scene⟩, regime, count⟩
    obtain ⟨airRegime, airMode, prepare⟩ := regime .air
    obtain ⟨airCount, airVacant⟩ := count .air
    obtain ⟨lightRegime, lightMode⟩ := regime .light
    obtain ⟨blindRegime, blindMode⟩ := regime .blind
    obtain ⟨panelRegime, panelMode⟩ := regime .panel
    exact ⟨⟨airRegime, airMode, airCount, airVacant, boost⟩, ⟨lightRegime, lightMode, count .light, offset⟩, scene,
      ⟨blindRegime, blindMode, count .blind, override⟩, ⟨panelRegime, panelMode, count .panel⟩, prepare, off, band, target⟩

/-- The block's copies stand, but for those of the override values. -/
def Block.Keeps (s t : State) : Block → Prop
  | .air => { t.air.copies with boost := false } = { s.air.copies with boost := false }
  | .light => { t.light.copies with offset := 0 } = { s.light.copies with offset := 0 }
  | .blind => { t.blind.inputs with override := none } = { s.blind.inputs with override := none }
  | .panel => t.panel.copies.off = s.panel.copies.off
  | .clock | .intake | .session | .counter | .peers | .alert => True

theorem Readjusts.block (h : Readjusts s t) (b : Block) : b.Keeps s t := by
  cases b with
  | air => exact h.air
  | light => exact h.light
  | blind => exact h.blind
  | panel => exact h.panel
  | clock | intake | session | counter | peers | alert => trivial

theorem Block.KnowsRegime.of_keeps {b : Block} (known : b.KnowsRegime s) (owners : OwnersStand s t) (keeps : b.Keeps s t) :
    b.KnowsRegime t := by
  cases b with
  | air =>
    obtain ⟨regime, mode, prepare⟩ := known
    exact ⟨((congrArg AirCopies.regime keeps :).trans regime).trans owners.regime.symm,
      ((congrArg AirCopies.mode keeps :).trans mode).trans owners.mode.symm, fun preparing =>
        ((congrArg AirCopies.head keeps :).trans (prepare (owners.regime ▸ preparing))).trans owners.head.symm⟩
  | light =>
    obtain ⟨regime, mode⟩ := known
    exact ⟨((congrArg LightCopies.regime keeps :).trans regime).trans owners.regime.symm,
      ((congrArg LightCopies.mode keeps :).trans mode).trans owners.mode.symm⟩
  | blind =>
    obtain ⟨regime, mode⟩ := known
    exact ⟨((congrArg BlindInputs.regime keeps :).trans regime).trans owners.regime.symm,
      ((congrArg BlindInputs.mode keeps :).trans mode).trans owners.mode.symm⟩
  | panel =>
    obtain ⟨regime, mode⟩ := known
    exact ⟨((congrArg PanelCopies.regime keeps :).trans regime).trans owners.regime.symm,
      ((congrArg PanelCopies.mode keeps :).trans mode).trans owners.mode.symm⟩
  | clock | intake | session | counter | peers | alert => trivial

theorem Block.KnowsCount.of_keeps {b : Block} (known : b.KnowsCount s) (owners : OwnersStand s t) (keeps : b.Keeps s t) :
    b.KnowsCount t := by
  cases b with
  | air =>
    obtain ⟨count, vacant⟩ := known
    exact ⟨((congrArg AirCopies.count keeps :).trans count).trans owners.count.symm,
      ((congrArg AirCopies.vacant keeps :).trans vacant).trans owners.vacant.symm⟩
  | light => exact ((congrArg LightCopies.vacant keeps :).trans known).trans owners.vacant.symm
  | blind => exact ((congrArg BlindInputs.vacant keeps :).trans known).trans owners.vacant.symm
  | panel => exact ((congrArg PanelCopies.vacant keeps :).trans known).trans owners.vacant.symm
  | clock | intake | session | counter | peers | alert => trivial

theorem Block.KnowsRegime.of_readjusts {b : Block} (h : Readjusts s t) (known : b.KnowsRegime s) : b.KnowsRegime t :=
  known.of_keeps h.toOwnersStand (h.block b)

theorem Block.KnowsCount.of_readjusts {b : Block} (h : Readjusts s t) (known : b.KnowsCount s) : b.KnowsCount t :=
  known.of_keeps h.toOwnersStand (h.block b)

/-! Each block's event leaves the copies of the others alone. -/

theorem AirFrame.keeps (frame : AirFrame s t) {b : Block} (other : b ≠ .air) : b.Keeps s t := by
  cases b with
  | air => exact absurd rfl other
  | light => exact (congrArg (fun l : Light => { l.copies with offset := 0 }) frame.light :)
  | blind => exact (congrArg (fun b : Blind => { b.inputs with override := none }) frame.blind :)
  | panel => exact (congrArg (fun p : Panel => p.copies.off) frame.panel :)
  | clock | intake | session | counter | peers | alert => trivial

theorem BlindFrame.keeps (frame : BlindFrame s t) {b : Block} (other : b ≠ .blind) : b.Keeps s t := by
  cases b with
  | air => exact (congrArg (fun a : Air => { a.copies with boost := false }) frame.air :)
  | light => exact (congrArg (fun l : LightCopies => { l with offset := 0 }) frame.lightCopies :)
  | blind => exact absurd rfl other
  | panel => exact (congrArg (fun p : Panel => p.copies.off) frame.panel :)
  | clock | intake | session | counter | peers | alert => trivial

theorem LightOnly.keeps (only : LightOnly s t) {b : Block} (other : b ≠ .light) : b.Keeps s t := by
  obtain ⟨l, -, rfl⟩ := only
  cases b with
  | light => exact absurd rfl other
  | air | blind | panel => rfl
  | clock | intake | session | counter | peers | alert => trivial

/-- An event of the Override Unit that may end override (R173). -/
theorem Readjusts.keeps_after_panel {p : Panel} (h : Readjusts (s.setPanel p) t) {b : Block} (other : b ≠ .panel) : b.Keeps s t := by
  have same := h.block b
  cases b with
  | panel => exact absurd rfl other
  | air | light | blind => exact same
  | clock | intake | session | counter | peers | alert => trivial

theorem SceneHeld.of_copies (light : { t.light.copies with offset := 0 } = { s.light.copies with offset := 0 })
    (held : SceneHeld s) : SceneHeld t := by
  have scene : t.light.scene = s.light.scene := (congrArg LightCopies.scene light :)
  have regime : t.light.regime = s.light.regime := (congrArg LightCopies.regime light :)
  have mode : t.light.mode = s.light.mode := (congrArg LightCopies.mode light :)
  have vacant : t.light.vacant = s.light.vacant := (congrArg LightCopies.vacant light :)
  unfold SceneHeld at *
  rw [scene, regime, mode, vacant, held]

/-- The override values and their copies, wherever the rest of the blocks moves. -/
theorem Adjusted.of_same (h : Adjusted s) (boost : t.air.boost = s.air.boost) (offset : t.light.offset = s.light.offset)
    (override : t.blind.override = s.blind.override) (panel : t.panel.copies = s.panel.copies ∨
      t.panel = { s.panel with regime := t.panel.regime, mode := t.panel.mode, vacant := t.panel.vacant }) :
    Adjusted t := by
  have on : t.panel.on = s.panel.on := panel.elim (congrArg PanelCopies.on) (fun e => by rw [e])
  have held : t.panel.offset = s.panel.offset := panel.elim (congrArg PanelCopies.offset) (fun e => by rw [e])
  have boosted : t.panel.boost = s.panel.boost := panel.elim (congrArg PanelCopies.boost) (fun e => by rw [e])
  have target : t.panel.target = s.panel.target := panel.elim (congrArg PanelCopies.target) (fun e => by rw [e])
  refine ⟨?_, ?_, ?_, ?_, ?_, ?_⟩
  · rw [boost, boosted, h.boost]
  · rw [offset, held, h.offset]
  · rw [override, target, h.override]
  · rw [on, held, boosted, target]
    exact h.off
  · rw [held]
    exact h.band
  · rw [target]
    exact h.target

theorem Furnished.of_calm (h : Calm s t) (f : Furnished s) : Furnished t := by
  obtain ⟨adjusted, scene⟩ := f
  exact ⟨adjusted.of_same (congrArg AirCopies.boost h.air) (congrArg LightCopies.offset h.light)
    (congrArg BlindInputs.override h.blind) (.inl h.panel), scene.of_copies h.readjusts.light⟩

theorem RoomLaw.of_calm (law : RoomLaw s) (h : Calm s t) : RoomLaw t := by
  obtain ⟨furnished, regime, count⟩ := (roomLaw_iff s).1 law
  exact (roomLaw_iff t).2 ⟨furnished.of_calm h, fun b => (regime b).of_readjusts h.readjusts, fun b => (count b).of_readjusts h.readjusts⟩

theorem RoomLaw.of_readjusts (h : Readjusts s t) (adjusted : Adjusted t) (law : RoomLaw s) : RoomLaw t := by
  obtain ⟨⟨-, scene⟩, regime, count⟩ := (roomLaw_iff s).1 law
  exact (roomLaw_iff t).2 ⟨⟨adjusted, scene.of_copies h.light⟩, fun b => (regime b).of_readjusts h, fun b => (count b).of_readjusts h⟩

/-! ### Calm operations -/

theorem compareDamper_calm (s : State) : Calm s (compareDamper s) := .of_air (compareDamper_frame s) (compareDamper_settles s).computes.copies

theorem setCommand_calm (command : Nat) (s : State) : Calm s (setCommand command s) :=
  .of_air (setCommand_frame command s) (setCommand_settles command s).computes.copies

theorem regrant_calm (s : State) : Calm s (regrant s) := .of_air (regrant_frame s) (regrant_settles s).computes.copies

theorem judgeShortfall_calm (s : State) : Calm s (judgeShortfall s) := .of_air (judgeShortfall_frame s) (judgeShortfall_settles s).computes.copies

theorem offerFigures_calm (s : State) : Calm s (offerFigures s) := .of_air (offerFigures_frame s) (offerFigures_claims s).computes.copies

theorem offerClaim_calm (s : State) : Calm s (offerClaim s) := .of_air (offerClaim_claims s).toAirFrame (offerClaim_claims s).computes.copies

theorem triggerClaim_calm (s : State) : Calm s (triggerClaim s) := .of_air (triggerClaim_frame s) (triggerClaim_claims s).computes.copies

/-- A change of the Air Controller that leaves its copies alone. -/
theorem Calm.setAir {a : Air} (kept : a.copies = s.air.copies) : Calm s (s.setAir a) := ⟨⟨rfl, rfl, rfl, rfl, rfl⟩, kept, rfl, rfl, rfl⟩

theorem Calm.setBlind {b : Blind} (kept : b.inputs = s.blind.inputs) : Calm s (s.setBlind b) := ⟨⟨rfl, rfl, rfl, rfl, rfl⟩, rfl, rfl, kept, rfl⟩

theorem takeCo2_calm (ppm : Nat) (s : State) : Calm s (takeCo2 ppm s) := by
  refine .of_air (takeCo2_frame ppm s) ?_
  rw [takeCo2_eq]
  exact (recomputeDemand_computes _).copies.trans (congrArg Air.copies (co2Read_air _ s) :)

theorem loseCo2_calm (s : State) : Calm s (loseCo2 s) := by
  refine .of_air (loseCo2_frame s) ?_
  rw [loseCo2_eq]
  exact (recomputeDemand_computes _).copies.trans (congrArg Air.copies (co2Gone_air s) :)

theorem closeRateWindow_calm (s : State) : Calm s (closeRateWindow s) := by
  have closed : Calm s (s.setAir { s.air with rateWindow := none, pendingTrigger := false }) := Calm.setAir rfl
  exact ite_keeps (closed.trans (offerClaim_calm _)) closed

theorem airRestart_calm (s : State) : Calm s (airRestart s) := by
  have computed : Calm s (computeDemand s) := Calm.setAir rfl
  exact ite_keeps (computed.trans ((regrant_calm _).trans ((judgeShortfall_calm _).trans (triggerClaim_calm _)))) (.refl s)

theorem airNotice_calm (n : PeerNotice) (s : State) : Calm s (airNotice n s) := by
  cases ofClaims : n.ofClaims with
  | true =>
    rw [airNotice_of_claims ofClaims]
    exact ite_keeps ((regrant_calm s).trans (judgeShortfall_calm _)) (.refl s)
  | false =>
    rw [airNotice_of_others ofClaims]
    exact .refl s

theorem airAssertion_calm (s : State) : Calm s (airAssertion s) := by
  have taken : Calm s (s.setAir { s.air with emergency := true, grant := 0, refreshTimer := none }) := Calm.setAir rfl
  exact taken.trans ((setCommand_calm 0 _).trans ((judgeShortfall_calm _).trans (triggerClaim_calm _)))

theorem airRelease_calm (s : State) : Calm s (airRelease s) := by
  have taken : Calm s (s.setAir { s.air with emergency := false }) := Calm.setAir rfl
  exact ite_keeps (taken.trans ((regrant_calm _).trans ((judgeShortfall_calm _).trans (triggerClaim_calm _))))
    (taken.trans (setCommand_calm 500 _))

theorem pin_copies (l : Light) (now : Nat) : (l.pin now).copies = l.copies := by
  unfold Light.pin
  split <;> rfl

theorem harvestTick_calm (due : Nat) (s : State) : Calm s (harvestTick due s) := by
  refine .of_light (harvestTick_only due s) ?_
  unfold harvestTick
  dsimp only
  split
  · rfl
  · split <;> rfl

theorem lightRestart_copies (s : State) : (lightRestart s).light.copies = s.light.copies := by
  show Light.copies (if s.light.warning.isSome then _ else _) = _
  split <;> rfl

theorem takeNotice_calm (n : PeerNotice) (b : Block) (s : State) : Calm s (takeNotice n b s) := by
  cases b with
  | air => exact airNotice_calm n s
  | blind => exact .of_blind (blindNotice_frame n s) (blindNotice_inputs n s)
  | clock | intake | session | counter | peers | light | panel | alert => exact .refl s

theorem deliver_calm (w : TableWork) (s : State) : Calm s (deliver w s) := by
  have written : Calm s (s.setPeers w.table) := ⟨⟨rfl, rfl, rfl, rfl, rfl⟩, rfl, rfl, rfl, rfl⟩
  refine Calm.trans ?_ (forEach_rel Calm .refl .trans _ (fun n t => fanOut_rel Calm .refl .trans _ (takeNotice_calm n) _ t) _ _)
  split
  · exact written
  · exact written.trans (.of_quiet (alertIs_frame _ _ _))

end Sys2Proof.Machine
end

section
/-!
PROOFS. The override values move with their copies, and the regime, N and the vacant flag are told to every block (R68, R85, R169 to
R173): the law of the room, through every step.
-/

namespace Sys2Proof.Machine

variable {s t : State}

/-! ### The notices of the Override Unit -/

theorem airBoost_copies (on : Bool) (s : State) : (airBoost on s).air.copies = { s.air.copies with boost := on } :=
  (recomputeDemand_computes _).copies

theorem airBoost_boost (on : Bool) (s : State) : (airBoost on s).air.boost = on := congrArg AirCopies.boost (airBoost_copies on s)

theorem airBoost_readjusts (on : Bool) (s : State) : Readjusts s (airBoost on s) := by
  have frame := airBoost_frame on s
  refine ⟨frame.stand, ?_, ?_, ?_, ?_⟩
  · rw [airBoost_copies]
  · rw [frame.light]
  · rw [frame.blind]
  · rw [frame.panel]

theorem blindTarget_inputs (target : Option Nat) (s : State) :
    (blindTarget target s).blind.inputs = { s.blind.inputs with override := target } :=
  policyEvent_inputs false (withBlind ({ · with override := target }) s)

theorem blindTarget_override (target : Option Nat) (s : State) : (blindTarget target s).blind.override = target :=
  congrArg BlindInputs.override (blindTarget_inputs target s)

theorem blindTarget_readjusts (target : Option Nat) (s : State) : Readjusts s (blindTarget target s) := by
  have frame := blindTarget_frame target s
  refine ⟨frame.stand, ?_, ?_, ?_, ?_⟩
  · rw [frame.air]
  · rw [frame.lightCopies]
  · rw [blindTarget_inputs]
  · rw [frame.panel]

theorem lightOffset_readjusts (offset : Int) (s : State) : Readjusts s (lightOffset offset s) :=
  ⟨⟨rfl, rfl, rfl, rfl, rfl⟩, rfl, rfl, rfl, rfl⟩

theorem withPanel_readjusts {change : Panel → Panel} (kept : (change s.panel).copies.off = s.panel.copies.off) :
    Readjusts s (withPanel change s) := ⟨⟨rfl, rfl, rfl, rfl, rfl⟩, rfl, rfl, rfl, kept⟩

/-! ### Ends of override (R172, R173) -/

theorem returnOffset_only (held : Panel) (s : State) : LightOnly s (returnOffset held s) :=
  ite_keeps (P := LightOnly s) (.refl s) (lightOffset_only 0 s)

theorem returnBoost_air_frame (held : Panel) (s : State) : AirFrame s (returnBoost held s) :=
  ite_keeps (P := AirFrame s) (airBoost_frame false s) (.refl s)

theorem returnTarget_blind_frame (held : Panel) (s : State) : BlindFrame s (returnTarget held s) :=
  ite_keeps (P := BlindFrame s) (blindTarget_frame none s) (.refl s)

theorem returnOffset_offset {held : Panel} (agree : s.light.offset = held.offset) : (returnOffset held s).light.offset = 0 := by
  unfold returnOffset
  split
  next none => exact agree.trans none
  next => rfl

theorem returnBoost_boost {held : Panel} (agree : s.air.boost = held.boost) : (returnBoost held s).air.boost = false := by
  unfold returnBoost
  split
  · exact airBoost_boost false s
  next off => exact agree.trans (Bool.eq_false_iff.2 off)

theorem returnTarget_override {held : Panel} (agree : s.blind.override = held.target) :
    (returnTarget held s).blind.override = none := by
  unfold returnTarget
  split
  · exact blindTarget_override none s
  next none => exact agree.trans (Option.not_isSome_iff_eq_none.1 none)

theorem returnOffset_readjusts (held : Panel) (s : State) : Readjusts s (returnOffset held s) :=
  ite_keeps (P := Readjusts s) (.refl s) (lightOffset_readjusts 0 s)

theorem returnBoost_readjusts (held : Panel) (s : State) : Readjusts s (returnBoost held s) :=
  ite_keeps (P := Readjusts s) (airBoost_readjusts false s) (.refl s)

theorem returnTarget_readjusts (held : Panel) (s : State) : Readjusts s (returnTarget held s) :=
  ite_keeps (P := Readjusts s) (blindTarget_readjusts none s) (.refl s)

theorem endOverride_panel (cause : OverrideCause) (value : Int) (s : State) :
    (endOverride cause value s).panel = (resetOverride cause value s).panel :=
  (returnTarget_blind_frame _ _).panel.trans ((returnBoost_air_frame _ _).panel.trans (returnOffset_only _ _).panel)

theorem endOverride_readjusts (cause : OverrideCause) (value : Int) (s : State) : Readjusts s (endOverride cause value s) := by
  refine Readjusts.trans (t := resetOverride cause value s) ⟨⟨rfl, rfl, rfl, rfl, rfl⟩, rfl, rfl, rfl, rfl⟩ ?_
  exact (returnOffset_readjusts _ _).trans ((returnBoost_readjusts _ _).trans (returnTarget_readjusts _ _))

theorem endOverride_adjusted (cause : OverrideCause) (value : Int) (h : Adjusted s) : Adjusted (endOverride cause value s) := by
  have panel := endOverride_panel cause value s
  have only := returnOffset_only s.panel (resetOverride cause value s)
  have boosted := returnBoost_air_frame s.panel (returnOffset s.panel (resetOverride cause value s))
  have targeted := returnTarget_blind_frame s.panel (returnBoost s.panel (returnOffset s.panel (resetOverride cause value s)))
  refine ⟨?_, ?_, ?_, ?_, ?_, ?_⟩
  · rw [panel]
    exact (congrArg Air.boost targeted.air).trans (returnBoost_boost ((congrArg Air.boost only.air).trans h.boost))
  · rw [panel]
    exact (congrArg LightCopies.offset targeted.lightCopies :).trans
      ((congrArg Light.offset boosted.light).trans (returnOffset_offset h.offset))
  · rw [panel]
    exact returnTarget_override ((congrArg Blind.override (boosted.blind.trans only.blind)).trans h.override)
  · rw [panel]
    exact fun _ => ⟨rfl, rfl, rfl⟩
  · rw [panel]
    exact (by decide : (-300 : Int) ≤ 0 ∧ (0 : Int) ≤ 300 ∧ (0 : Int) % 100 = 0)
  · rw [panel]
    exact fun _ none => nomatch none

theorem writeRecord_calm (cause : OverrideCause) (value : Int) (s : State) : Calm s (writeRecord cause value s) := .withPanel rfl

theorem endIfOn_readjusts (cause : OverrideCause) (s : State) : Readjusts s (endIfOn cause s) :=
  ite_keeps (P := Readjusts s) (endOverride_readjusts _ _ s)
    (ite_keeps (P := Readjusts s) (writeRecord_calm _ _ s).readjusts (.refl s))

theorem endIfOn_adjusted (cause : OverrideCause) (h : Adjusted s) : Adjusted (endIfOn cause s) :=
  ite_keeps (endOverride_adjusted _ _ h) (ite_keeps (h.of_same rfl rfl rfl (.inl rfl)) h)

theorem RoomLaw.adjusted (law : RoomLaw s) : Adjusted s := ((roomLaw_iff s).1 law).1.1

theorem endOverride_roomLaw (cause : OverrideCause) (value : Int) (law : RoomLaw s) : RoomLaw (endOverride cause value s) :=
  law.of_readjusts (endOverride_readjusts _ _ s) (endOverride_adjusted _ _ law.adjusted)

theorem endIfOn_roomLaw (cause : OverrideCause) (law : RoomLaw s) : RoomLaw (endIfOn cause s) :=
  law.of_readjusts (endIfOn_readjusts _ s) (endIfOn_adjusted _ law.adjusted)

theorem endIfOn_furnished (cause : OverrideCause) (h : Furnished s) : Furnished (endIfOn cause s) :=
  ⟨endIfOn_adjusted cause h.1, h.2.of_copies (endIfOn_readjusts cause s).light⟩

/-! ### Keys (R169 to R171) -/

theorem moveOffset_roomLaw {step : Int} (hundreds : step % 100 = 0) (on : s.panel.on = true) (law : RoomLaw s) :
    RoomLaw (moveOffset step s) := by
  unfold moveOffset
  dsimp only
  split
  next within =>
    have adjusted := law.adjusted
    have readjusts : Readjusts s (lightOffset (s.panel.offset + step) (withPanel ({ · with offset := s.panel.offset + step }) s)) :=
      ⟨⟨rfl, rfl, rfl, rfl, rfl⟩, rfl, rfl, rfl, rfl⟩
    refine law.of_readjusts readjusts ⟨adjusted.boost, rfl, adjusted.override, fun off => (nomatch on.symm.trans off), ?_,
      adjusted.target⟩
    have whole := adjusted.band.2.2
    exact ⟨within.1, within.2, by show (s.panel.offset + step) % 100 = 0; omega⟩
  next => exact endOverride_roomLaw _ _ law

theorem clampInt_le (low high v : Int) (order : low ≤ high) : clampInt low high v ≤ high := by
  unfold clampInt
  omega

theorem moveTarget_roomLaw (step : Int) (on : s.panel.on = true) (law : RoomLaw s) : RoomLaw (moveTarget step s) := by
  unfold moveTarget
  dsimp only
  split
  · exact law
  · have adjusted := law.adjusted
    generalize target : (clampInt 0 100 (((s.panel.target.getD s.blind.applied : Nat) : Int) + step)).toNat = n
    have le : n ≤ 100 := by
      have := clampInt_le 0 100 (((s.panel.target.getD s.blind.applied : Nat) : Int) + step) (by decide)
      omega
    have frame := blindTarget_frame (some n) (withPanel ({ · with target := some n }) s)
    refine law.of_readjusts ((withPanel_readjusts rfl).trans (blindTarget_readjusts _ _)) ⟨?_, ?_, ?_, ?_, ?_, ?_⟩
    · rw [frame.air, frame.panel]
      exact adjusted.boost
    · rw [frame.panel]
      exact (congrArg LightCopies.offset frame.lightCopies :).trans adjusted.offset
    · rw [blindTarget_override, frame.panel]
      rfl
    · rw [frame.panel]
      exact fun off => (nomatch on.symm.trans off)
    · rw [frame.panel]
      exact adjusted.band
    · rw [frame.panel]
      exact fun _ held => Option.some.inj held ▸ le

theorem boostOn_roomLaw (on : s.panel.on = true) (law : RoomLaw s) :
    RoomLaw (airBoost true (withPanel ({ · with boost := true }) s)) := by
  have adjusted := law.adjusted
  have frame := airBoost_frame true (withPanel ({ · with boost := true }) s)
  refine law.of_readjusts ((withPanel_readjusts rfl).trans (airBoost_readjusts _ _)) ⟨?_, ?_, ?_, ?_, ?_, ?_⟩
  · rw [airBoost_boost, frame.panel]
    rfl
  · rw [frame.light, frame.panel]
    exact adjusted.offset
  · rw [frame.blind, frame.panel]
    exact adjusted.override
  · rw [frame.panel]
    exact fun off => (nomatch on.symm.trans off)
  · rw [frame.panel]
    exact adjusted.band
  · rw [frame.panel]
    exact adjusted.target

theorem keyWhileOn_roomLaw (key : Key) (on : s.panel.on = true) (law : RoomLaw s) : RoomLaw (keyWhileOn key s) := by
  cases key with
  | lightPlus => exact moveOffset_roomLaw (by decide) on law
  | lightMinus => exact moveOffset_roomLaw (by decide) on law
  | blindUp => exact moveTarget_roomLaw _ on law
  | blindDown => exact moveTarget_roomLaw _ on law
  | airPlus =>
    exact ite_keeps (endOverride_roomLaw _ _ law) (ite_keeps (endOverride_roomLaw _ _ law) (boostOn_roomLaw on law))
  | resume => exact endOverride_roomLaw _ _ law

/-- Override becomes ON with its values at rest. -/
theorem enterOverride_roomLaw (law : RoomLaw s) : RoomLaw (withPanel ({ · with on := true, blinkTimer := none }) s) := by
  obtain ⟨boost, offset, override, -, band, target⟩ := law.adjusted
  exact law.of_readjusts (withPanel_readjusts rfl) ⟨boost, offset, override, (nomatch ·), band, target⟩

theorem pressKey_roomLaw (key : Key) (law : RoomLaw s) : RoomLaw (pressKey key s) := by
  unfold pressKey
  split
  next on => exact keyWhileOn_roomLaw key on law
  next =>
    split
    · exact law
    · split
      · exact keyWhileOn_roomLaw key rfl (enterOverride_roomLaw law)
      · exact law.of_calm (.withPanel rfl)

/-! ### The regime is told (R68) -/

/-- The regime notice of what the Session Engine holds. -/
def State.regimeNotice (s : State) : RegimeNotice :=
  { regime := s.session.regime, mode := s.session.mode, head := s.session.preparingHead }

theorem airRegime_copies (n : RegimeNotice) (s : State) :
    (airRegime n s).air.copies = { s.air.copies with regime := n.regime, mode := n.mode, head := n.head } :=
  (recomputeDemand_computes _).copies

theorem rescene_copies (l : Light) (now : Nat) :
    (l.rescene now).copies = { l.copies with scene := sceneOf l.regime l.mode l.vacant } := by
  unfold Light.rescene
  dsimp only
  split
  next held => rw [held]; rfl
  next =>
    split
    · rfl
    · split <;> rfl

theorem rescene_held (l : Light) (now : Nat) :
    (l.rescene now).scene = sceneOf (l.rescene now).regime (l.rescene now).mode (l.rescene now).vacant := by
  have copies := rescene_copies l now
  have regime : (l.rescene now).regime = l.regime := congrArg LightCopies.regime copies
  have mode : (l.rescene now).mode = l.mode := congrArg LightCopies.mode copies
  have vacant : (l.rescene now).vacant = l.vacant := congrArg LightCopies.vacant copies
  rw [regime, mode, vacant]
  exact l.rescene_scene now

theorem lightRegime_copies (n : RegimeNotice) (s : State) :
    (lightRegime n s).light.copies = { s.light.copies with
      regime := n.regime, mode := n.mode, scene := sceneOf n.regime n.mode s.light.vacant } :=
  rescene_copies _ _

theorem blindRegime_inputs (n : RegimeNotice) (s : State) :
    (blindRegime n s).blind.inputs = { s.blind.inputs with regime := n.regime, mode := n.mode } :=
  policyEvent_inputs false (withBlind ({ · with regime := n.regime, mode := n.mode }) s)

/-- What the Override Unit takes of a regime or of an occupancy event, and the end of override it may be. -/
theorem endAfter_furnished {p : Panel} (cause : OverrideCause) (c : Prop) [Decidable c]
    (h : Furnished s)
    (same : p = { s.panel with regime := p.regime, mode := p.mode, vacant := p.vacant }) :
    Furnished (if c then endIfOn cause (s.setPanel p) else s.setPanel p) := by
  have taken : Furnished (s.setPanel p) := ⟨h.1.of_same rfl rfl rfl (.inr same), h.2⟩
  exact ite_keeps (endIfOn_furnished cause taken) taken

theorem endAfter_readjusts (cause : OverrideCause) (c : Prop) [Decidable c] (s : State) :
    Readjusts s (if c then endIfOn cause s else s) := ite_keeps (P := Readjusts s) (endIfOn_readjusts cause s) (.refl s)

theorem panelRegime_readjusts (n : RegimeNotice) (s : State) :
    Readjusts (s.setPanel { s.panel with regime := n.regime, mode := n.mode }) (panelRegime n s) := endAfter_readjusts _ _ _

theorem takeRegime_stand (n : RegimeNotice) (b : Block) (s : State) : OwnersStand s (takeRegime n b s) := (takeRegime_frame n b s).stand

theorem takeRegime_keeps (n : RegimeNotice) {b c : Block} (other : c ≠ b) (s : State) : c.Keeps s (takeRegime n b s) := by
  have still : c.Keeps s s := (Readjusts.refl s).block c
  cases b with
  | air => exact (airRegime_frame n s).keeps other
  | light => exact (lightRegime_only n s).keeps other
  | blind => exact (blindRegime_frame n s).keeps other
  | panel => exact (panelRegime_readjusts n s).keeps_after_panel other
  | clock | intake | session | counter | peers | alert => exact still

theorem takeRegime_furnished (n : RegimeNotice) (b : Block) (h : Furnished s) : Furnished (takeRegime n b s) := by
  obtain ⟨adjusted, scene⟩ := h
  cases b with
  | air =>
    have frame := airRegime_frame n s
    refine ⟨adjusted.of_same (congrArg AirCopies.boost (airRegime_copies n s)) (by rw [takeRegime, frame.light])
      (by rw [takeRegime, frame.blind]) (.inl (by rw [takeRegime, frame.panel])), ?_⟩
    exact scene.of_copies (frame.keeps (b := .light) (by decide))
  | light =>
    exact ⟨adjusted.of_same rfl (congrArg LightCopies.offset (lightRegime_copies n s)) rfl (.inl rfl), rescene_held _ _⟩
  | blind =>
    have frame := blindRegime_frame n s
    refine ⟨adjusted.of_same (by rw [takeRegime, frame.air]) (congrArg LightCopies.offset frame.lightCopies)
      (congrArg BlindInputs.override (blindRegime_inputs n s)) (.inl (by rw [takeRegime, frame.panel])), ?_⟩
    exact scene.of_copies (frame.keeps (b := .light) (by decide))
  | panel => exact endAfter_furnished _ _ ⟨adjusted, scene⟩ rfl
  | clock | intake | session | counter | peers | alert => exact ⟨adjusted, scene⟩

theorem takeRegime_knows {n : RegimeNotice} (told : n = s.regimeNotice) (b : Block) : b.KnowsRegime (takeRegime n b s) := by
  subst told
  have owners := takeRegime_stand s.regimeNotice b s
  cases b with
  | air =>
    have copies := airRegime_copies s.regimeNotice s
    exact ⟨(congrArg AirCopies.regime copies :).trans owners.regime.symm, (congrArg AirCopies.mode copies :).trans owners.mode.symm,
      fun _ => (congrArg AirCopies.head copies :).trans owners.head.symm⟩
  | light =>
    have copies := lightRegime_copies s.regimeNotice s
    exact ⟨(congrArg LightCopies.regime copies :).trans owners.regime.symm,
      (congrArg LightCopies.mode copies :).trans owners.mode.symm⟩
  | blind =>
    have inputs := blindRegime_inputs s.regimeNotice s
    exact ⟨(congrArg BlindInputs.regime inputs :).trans owners.regime.symm,
      (congrArg BlindInputs.mode inputs :).trans owners.mode.symm⟩
  | panel =>
    have copies := (panelRegime_readjusts s.regimeNotice s).panel
    exact ⟨(congrArg PanelCopies.regime copies :).trans owners.regime.symm,
      (congrArg PanelCopies.mode copies :).trans owners.mode.symm⟩
  | clock | intake | session | counter | peers | alert => trivial

theorem takeRegime_count (n : RegimeNotice) (b : Block) {c : Block} (known : c.KnowsCount s) : c.KnowsCount (takeRegime n b s) := by
  have owners := takeRegime_stand n b s
  by_cases other : c = b
  · subst other
    cases c with
    | air =>
      have copies := airRegime_copies n s
      obtain ⟨count, vacant⟩ := known
      exact ⟨((congrArg AirCopies.count copies :).trans count).trans owners.count.symm,
        ((congrArg AirCopies.vacant copies :).trans vacant).trans owners.vacant.symm⟩
    | light => exact ((congrArg LightCopies.vacant (lightRegime_copies n s) :).trans known).trans owners.vacant.symm
    | blind => exact ((congrArg BlindInputs.vacant (blindRegime_inputs n s) :).trans known).trans owners.vacant.symm
    | panel => exact ((congrArg PanelCopies.vacant (panelRegime_readjusts n s).panel :).trans known).trans owners.vacant.symm
    | clock | intake | session | counter | peers | alert => trivial
  · exact known.of_keeps owners (takeRegime_keeps n other s)

/-- What holds while the regime is being told: the room is furnished and the owners stand. -/
def Telling (n : RegimeNotice) (s : State) : Prop := Furnished s ∧ n = s.regimeNotice

theorem takeRegime_telling {n : RegimeNotice} (b : Block) (h : Telling n s) : Telling n (takeRegime n b s) := by
  obtain ⟨furnished, told⟩ := h
  have owners := takeRegime_stand n b s
  refine ⟨takeRegime_furnished n b furnished, ?_⟩
  unfold State.regimeNotice
  rw [owners.regime, owners.mode, owners.head]
  exact told

/-- A regime notice to the four blocks leaves each in the know (R68). -/
theorem tellRegime_knows {n : RegimeNotice} (h : Telling n s) (b : Block) :
    b.KnowsRegime (fanOut [.air, .light, .blind, .panel] (takeRegime n) s) := by
  have told (mem : b ∈ [Block.air, .light, .blind, .panel]) :
      b.KnowsRegime (fanOut [.air, .light, .blind, .panel] (takeRegime n) s) :=
    fanOut_brings_under (Q := Telling n) (P := fun t => b.KnowsRegime t) b (fun c _ => takeRegime_telling c)
      (fun t ⟨_, told⟩ => takeRegime_knows told b)
      (fun c t other _ known => known.of_keeps (takeRegime_stand n c t) (takeRegime_keeps n (Ne.symm other) t)) mem h
  cases b with
  | air | light | blind | panel => exact told (by decide)
  | clock | intake | session | counter | peers | alert => trivial

/-- A view that does not differ is told by what was told (R68). -/
theorem differs_eq_false {now held : RegimeView} (same : now.differs held = false) :
    now.regime = held.regime ∧ now.mode = held.mode ∧ (now.regime = .prepare → now.head = held.head) := by
  unfold RegimeView.differs at same
  simp only [Bool.or_eq_false_iff, bne_eq_false_iff_eq, Bool.and_eq_false_imp, beq_iff_eq] at same
  obtain ⟨⟨regime, mode⟩, prepare⟩ := same
  exact ⟨regime, mode, fun preparing => (prepare preparing).2⟩

theorem Furnished.setSession (h : Furnished s) (v : SessionEngine) : Furnished (s.setSession v) :=
  ⟨h.1.of_same rfl rfl rfl (.inl rfl), h.2⟩

theorem publishRegime_furnished (minute : Nat) (h : Furnished s) : Furnished (publishRegime minute s) :=
  ite_keeps (fanOut_keeps Furnished _ (fun b _ => takeRegime_furnished _ b) _ _ (h.setSession _)) (h.setSession _)

theorem publishRegime_count (minute : Nat) {b : Block} (known : b.KnowsCount s) : b.KnowsCount (publishRegime minute s) := by
  have derived : b.KnowsCount (s.setSession { s.session with
      regime := (deriveRegime minute s.session.entries).regime, mode := (deriveRegime minute s.session.entries).mode
      preparing := (deriveRegime minute s.session.entries).preparing
      preparingHead := (deriveRegime minute s.session.entries).head }) := by
    cases b <;> exact known
  exact ite_keeps (P := fun t => b.KnowsCount t) (fanOut_keeps (fun t => b.KnowsCount t) _
    (fun c _ => takeRegime_count _ c) _ _ derived) derived

theorem publishRegime_knows (minute : Nat) (h : Furnished s) (known : ∀ b : Block, b.KnowsRegime s) (b : Block) :
    b.KnowsRegime (publishRegime minute s) := by
  unfold publishRegime
  dsimp only
  split
  next => exact tellRegime_knows (by exact ⟨h.setSession _, rfl⟩) b
  next same =>
    obtain ⟨regime, mode, prepare⟩ := differs_eq_false (Bool.eq_false_iff.2 same)
    have was := known b
    cases b with
    | air =>
      obtain ⟨airRegime, airMode, head⟩ := was
      exact ⟨airRegime.trans regime.symm, airMode.trans mode.symm, fun preparing =>
        (head (regime.symm.trans preparing)).trans (prepare preparing).symm⟩
    | light => exact ⟨was.1.trans regime.symm, was.2.trans mode.symm⟩
    | blind => exact ⟨was.1.trans regime.symm, was.2.trans mode.symm⟩
    | panel => exact ⟨was.1.trans regime.symm, was.2.trans mode.symm⟩
    | clock | intake | session | counter | peers | alert => trivial

/-! ### What the Session Engine and the Intake keep -/

/-- The room is furnished and each block knows the regime. -/
def Regulated (s : State) : Prop := Furnished s ∧ ∀ b : Block, b.KnowsRegime s

theorem Regulated.of_calm (h : Calm s t) (r : Regulated s) : Regulated t :=
  ⟨r.1.of_calm h, fun b => (r.2 b).of_readjusts h.readjusts⟩

theorem readShortfall_calm (s : State) : Calm s (readShortfall s).2 := Calm.setAir rfl

theorem regulated_engineKeeps : EngineKeeps Regulated where
  aside same h := h.of_calm (.of_aside same)
  regime minute h := ⟨publishRegime_furnished minute h.1, publishRegime_knows minute h.1 h.2⟩
  ends cause h := ⟨endIfOn_furnished cause h.1, fun b => (h.2 b).of_readjusts (endIfOn_readjusts cause _)⟩
  record h := h.of_calm (readShortfall_calm _)

theorem knowsCount_engineKeeps (b : Block) : EngineKeeps (fun s => b.KnowsCount s) where
  aside same known := known.of_readjusts (Calm.of_aside same).readjusts
  regime minute known := publishRegime_count minute known
  ends cause known := known.of_readjusts (endIfOn_readjusts cause _)
  record known := known.of_readjusts (readShortfall_calm _).readjusts

theorem roomLaw_regulated (s : State) : RoomLaw s ↔ Regulated s ∧ ∀ b : Block, b.KnowsCount s :=
  (roomLaw_iff s).trans and_assoc.symm

theorem roomLaw_engineKeeps : EngineKeeps RoomLaw where
  aside same law := law.of_calm (.of_aside same)
  regime minute law := by
    obtain ⟨regulated, count⟩ := (roomLaw_regulated _).1 law
    exact (roomLaw_regulated _).2 ⟨regulated_engineKeeps.regime minute regulated, fun b => publishRegime_count minute (count b)⟩
  ends cause law := endIfOn_roomLaw cause law
  record law := law.of_calm (readShortfall_calm _)

/-! ### N and the vacant flag are told (R85) -/

theorem airOccupancy_copies (e : OccupancyEvent) (s : State) :
    (airOccupancy e s).air.copies = { s.air.copies with count := e.count, vacant := e.vacant } := by
  unfold airOccupancy
  split
  next same =>
    obtain ⟨count, vacant⟩ := same
    rw [count, vacant]
    rfl
  next => exact (recomputeDemand_computes _).copies

theorem lightOccupancy_copies (e : OccupancyEvent) (s : State) :
    { (lightOccupancy e s).light.copies with scene := .off } = { s.light.copies with vacant := e.vacant, scene := .off } := by
  unfold lightOccupancy
  split
  next same =>
    rw [same]
    rfl
  next => exact (congrArg (fun c : LightCopies => { c with scene := .off }) (rescene_copies { s.light with vacant := e.vacant } s.now) :)

theorem lightOccupancy_scene (e : OccupancyEvent) (held : SceneHeld s) : SceneHeld (lightOccupancy e s) := by
  unfold lightOccupancy
  split
  · exact held
  · exact rescene_held _ _

theorem blindOccupancy_inputs (e : OccupancyEvent) (s : State) :
    (blindOccupancy e s).blind.inputs = { s.blind.inputs with vacant := e.vacant } := by
  unfold blindOccupancy
  split
  next same =>
    rw [same]
    rfl
  next => exact policyEvent_inputs false (withBlind ({ · with vacant := e.vacant }) s)

theorem panelOccupancy_readjusts (e : OccupancyEvent) (s : State) :
    Readjusts (s.setPanel { s.panel with vacant := e.vacant }) (panelOccupancy e s) := endAfter_readjusts _ _ _

/-- The blocks that take an occupancy event, but for the Session Engine. -/
theorem takeOccupancy_room (e : OccupancyEvent) {b : Block} (other : b ≠ .session) (s : State) : OwnersStand s (takeOccupancy e b s) := by
  cases b with
  | session => exact absurd rfl other
  | air => exact (airOccupancy_frame e s).stand
  | light => exact (lightOccupancy_only e s).toRoom.stand
  | blind => exact (blindOccupancy_frame e s).stand
  | panel => exact (panelOccupancy_frame e s).stand
  | clock | intake | counter | peers | alert => exact .refl s

theorem takeOccupancy_keeps (e : OccupancyEvent) {b c : Block} (notSession : b ≠ .session) (other : c ≠ b) (s : State) :
    c.Keeps s (takeOccupancy e b s) := by
  have still : c.Keeps s s := (Readjusts.refl s).block c
  cases b with
  | session => exact absurd rfl notSession
  | air => exact (airOccupancy_frame e s).keeps other
  | light => exact (lightOccupancy_only e s).keeps other
  | blind => exact (blindOccupancy_frame e s).keeps other
  | panel => exact (panelOccupancy_readjusts e s).keeps_after_panel other
  | clock | intake | counter | peers | alert => exact still

theorem takeOccupancy_furnished (e : OccupancyEvent) {b : Block} (notSession : b ≠ .session) (h : Furnished s) :
    Furnished (takeOccupancy e b s) := by
  obtain ⟨adjusted, scene⟩ := h
  cases b with
  | session => exact absurd rfl notSession
  | air =>
    have frame := airOccupancy_frame e s
    refine ⟨adjusted.of_same (congrArg AirCopies.boost (airOccupancy_copies e s)) (by rw [takeOccupancy, frame.light])
      (by rw [takeOccupancy, frame.blind]) (.inl (by rw [takeOccupancy, frame.panel])), ?_⟩
    exact scene.of_copies (frame.keeps (b := .light) (by decide))
  | light =>
    have only := lightOccupancy_only e s
    exact ⟨adjusted.of_same (by rw [takeOccupancy, only.air]) (congrArg LightCopies.offset (lightOccupancy_copies e s) :)
      (by rw [takeOccupancy, only.blind]) (.inl (by rw [takeOccupancy, only.panel])), lightOccupancy_scene e scene⟩
  | blind =>
    have frame := blindOccupancy_frame e s
    refine ⟨adjusted.of_same (by rw [takeOccupancy, frame.air]) (congrArg LightCopies.offset frame.lightCopies)
      (congrArg BlindInputs.override (blindOccupancy_inputs e s)) (.inl (by rw [takeOccupancy, frame.panel])), ?_⟩
    exact scene.of_copies (frame.keeps (b := .light) (by decide))
  | panel => exact endAfter_furnished _ _ ⟨adjusted, scene⟩ rfl
  | clock | intake | counter | peers | alert => exact ⟨adjusted, scene⟩

theorem takeOccupancy_knowsRegime (e : OccupancyEvent) {b c : Block} (notSession : b ≠ .session) (known : c.KnowsRegime s) :
    c.KnowsRegime (takeOccupancy e b s) := by
  have owners := takeOccupancy_room e notSession s
  by_cases other : c = b
  · subst other
    cases c with
    | session => exact absurd rfl notSession
    | air =>
      have copies := airOccupancy_copies e s
      obtain ⟨regime, mode, head⟩ := known
      exact ⟨((congrArg AirCopies.regime copies :).trans regime).trans owners.regime.symm,
        ((congrArg AirCopies.mode copies :).trans mode).trans owners.mode.symm, fun preparing =>
          ((congrArg AirCopies.head copies :).trans (head (owners.regime ▸ preparing))).trans owners.head.symm⟩
    | light =>
      have copies := lightOccupancy_copies e s
      obtain ⟨regime, mode⟩ := known
      exact ⟨((congrArg LightCopies.regime copies :).trans regime).trans owners.regime.symm,
        ((congrArg LightCopies.mode copies :).trans mode).trans owners.mode.symm⟩
    | blind =>
      have inputs := blindOccupancy_inputs e s
      obtain ⟨regime, mode⟩ := known
      exact ⟨((congrArg BlindInputs.regime inputs :).trans regime).trans owners.regime.symm,
        ((congrArg BlindInputs.mode inputs :).trans mode).trans owners.mode.symm⟩
    | panel =>
      have copies := (panelOccupancy_readjusts e s).panel
      obtain ⟨regime, mode⟩ := known
      exact ⟨((congrArg PanelCopies.regime copies :).trans regime).trans owners.regime.symm,
        ((congrArg PanelCopies.mode copies :).trans mode).trans owners.mode.symm⟩
    | clock | intake | counter | peers | alert => trivial
  · exact known.of_keeps owners (takeOccupancy_keeps e notSession other s)

/-- The event tells what the Counter holds. -/
def OccupancyEvent.Tells (e : OccupancyEvent) (s : State) : Prop := e.count = s.counter.count ∧ e.vacant = s.counter.vacant

theorem takeOccupancy_knowsCount {e : OccupancyEvent} {b : Block} (notSession : b ≠ .session) (told : e.Tells s) :
    b.KnowsCount (takeOccupancy e b s) := by
  obtain ⟨count, vacant⟩ := told
  have owners := takeOccupancy_room e notSession s
  cases b with
  | session => exact absurd rfl notSession
  | air =>
    have copies := airOccupancy_copies e s
    exact ⟨((congrArg AirCopies.count copies :).trans count).trans owners.count.symm,
      ((congrArg AirCopies.vacant copies :).trans vacant).trans owners.vacant.symm⟩
  | light => exact ((congrArg LightCopies.vacant (lightOccupancy_copies e s) :).trans vacant).trans owners.vacant.symm
  | blind => exact ((congrArg BlindInputs.vacant (blindOccupancy_inputs e s) :).trans vacant).trans owners.vacant.symm
  | panel => exact ((congrArg PanelCopies.vacant (panelOccupancy_readjusts e s).panel :).trans vacant).trans owners.vacant.symm
  | clock | intake | counter | peers | alert => trivial

/-- What holds while N and the vacant flag are being told: the room is furnished, the regime known, and the event tells what the
Counter holds. -/
def Counting (e : OccupancyEvent) (s : State) : Prop := Regulated s ∧ e.Tells s

theorem takeOccupancy_counting {e : OccupancyEvent} (b : Block) (h : Counting e s) : Counting e (takeOccupancy e b s) := by
  obtain ⟨⟨furnished, known⟩, told⟩ := h
  refine ⟨?_, by rw [OccupancyEvent.Tells, (takeOccupancy_frame e b s).counter]; exact told⟩
  by_cases session : b = .session
  · subst session
    exact regulated_engineKeeps.sessionOccupancy e ⟨furnished, known⟩
  · exact ⟨takeOccupancy_furnished e session furnished, fun c => takeOccupancy_knowsRegime e session (known c)⟩

theorem takeOccupancy_keepsCount (e : OccupancyEvent) {b c : Block} (other : b ≠ c) (known : c.KnowsCount s) :
    c.KnowsCount (takeOccupancy e b s) := by
  by_cases session : b = .session
  · subst session
    exact (knowsCount_engineKeeps c).sessionOccupancy e known
  · exact known.of_keeps (takeOccupancy_room e session s) (takeOccupancy_keeps e session (Ne.symm other) s)

/-- An occupancy event leaves each block in the know (R85). -/
theorem tellOccupancy_roomLaw {e : OccupancyEvent} (h : Counting e s) :
    RoomLaw (fanOut [.session, .air, .light, .blind, .panel] (takeOccupancy e) s) := by
  have after : Counting e (fanOut [.session, .air, .light, .blind, .panel] (takeOccupancy e) s) :=
    fanOut_keeps (Counting e) _ (fun b _ => takeOccupancy_counting b) _ _ h
  refine (roomLaw_regulated _).2 ⟨after.1, fun b => ?_⟩
  have told (notSession : b ≠ .session) (mem : b ∈ [Block.session, .air, .light, .blind, .panel]) :
      b.KnowsCount (fanOut [.session, .air, .light, .blind, .panel] (takeOccupancy e) s) :=
    fanOut_brings_under (Q := Counting e) (P := fun t => b.KnowsCount t) b (fun c _ => takeOccupancy_counting c)
      (fun t counting => takeOccupancy_knowsCount notSession counting.2)
      (fun c t other _ known => takeOccupancy_keepsCount e other known) mem h
  cases b with
  | air | light | blind | panel => exact told (by decide) (by decide)
  | clock | intake | session | counter | peers | alert => trivial

theorem RoomLaw.counting (law : RoomLaw s) (c : Counter) (kind : OccupancyKind) (before : Nat) :
    Counting { kind := kind, before := before, count := c.count, vacant := c.vacant } (s.setCounter c) := by
  obtain ⟨⟨furnished, known⟩, -⟩ := (roomLaw_regulated s).1 law
  refine ⟨⟨⟨furnished.1.of_same rfl rfl rfl (.inl rfl), furnished.2⟩, fun b => ?_⟩, rfl, rfl⟩
  have was := known b
  cases b <;> exact was

theorem sendOccupancy_roomLaw (c : Counter) (kind : OccupancyKind) (kinds : List OccupancyKind) (before : Nat) (law : RoomLaw s) :
    RoomLaw (sendOccupancy (kind :: kinds) before (s.setCounter c)) := by
  refine forEach_keeps RoomLaw _ (fun k t law => ?_) kinds _ (tellOccupancy_roomLaw (law.counting c kind before))
  exact tellOccupancy_roomLaw (law.counting t.counter k before)

end Sys2Proof.Machine
end

section
/-!
PROOFS. The law of the room from the start of the blocks on, through every step (R68, R85, R110, R128, R136, R148, R172).
-/

namespace Sys2Proof.Machine

variable {s t : State}

/-! ### The start of the blocks -/

/-- The block's copies, or the values it owns, are those of a station just started. -/
def Block.Fresh (s : State) : Block → Prop
  | .session => s.session = SessionEngine.empty
  | .counter => s.counter.count = 0 ∧ s.counter.vacant = false
  | .air => s.air.copies = Air.idle.copies
  | .light => s.light.copies = Light.idle.copies
  | .blind => s.blind.inputs = Blind.idle.inputs
  | .panel => s.panel.copies = Panel.idle.copies
  | .clock | .intake | .peers | .alert => True

theorem roomLaw_of_fresh (fresh : ∀ b : Block, b.Fresh s) : RoomLaw s := by
  have session : s.session = SessionEngine.empty := fresh .session
  obtain ⟨count, vacant⟩ : s.counter.count = 0 ∧ s.counter.vacant = false := fresh .counter
  have air : s.air.copies = Air.idle.copies := fresh .air
  have light : s.light.copies = Light.idle.copies := fresh .light
  have blind : s.blind.inputs = Blind.idle.inputs := fresh .blind
  have panel : s.panel.copies = Panel.idle.copies := fresh .panel
  exact roomLaw_reset.of_calm ⟨⟨by rw [session]; rfl, by rw [session]; rfl, by rw [session]; rfl, count, vacant⟩, air, light, blind, panel⟩

theorem airStart_copies (s : State) : (airStart s).air.copies = Air.idle.copies := by
  have started : Calm (s.setAir s.airAtStart) (startCommand (s.setAir s.airAtStart)) := by
    unfold startCommand
    exact ite_keeps (P := Calm _) (.refl _) (ite_keeps (P := Calm _)
      (.of_air (setGrant_frame _ _) (setGrant_settles _ _).computes.copies) (setCommand_calm _ _))
  have computed : Calm (s.setAir s.airAtStart) (startCommand (computeDemand (s.setAir s.airAtStart))) := by
    refine Calm.trans (t := computeDemand (s.setAir s.airAtStart)) (Calm.setAir rfl) ?_
    unfold startCommand
    exact ite_keeps (P := Calm _) (.refl _) (ite_keeps (P := Calm _)
      (.of_air (setGrant_frame _ _) (setGrant_settles _ _).computes.copies) (setCommand_calm _ _))
  have begun : Calm (s.setAir s.airAtStart) (airStart s) :=
    ite_keeps (P := Calm _) (computed.trans ((compareDamper_calm _).trans ((judgeShortfall_calm _).trans (triggerClaim_calm _))))
      (started.trans (compareDamper_calm _))
  exact begun.air

theorem lightStart_copies (s : State) : (lightStart s).light.copies = Light.idle.copies := by
  unfold lightStart
  dsimp only
  split <;> rfl

theorem blindStart_inputs (s : State) : (blindStart s).blind.inputs = Blind.idle.inputs := by
  rw [blindStart_eq]
  split
  · rfl
  · exact reapply_inputs _

theorem takeStart_brings (b : Block) (s : State) : b.Fresh (takeStart b s) := by
  cases b with
  | session | panel => rfl
  | counter => exact ⟨rfl, rfl⟩
  | air => exact airStart_copies s
  | light => exact lightStart_copies s
  | blind => exact blindStart_inputs s
  | clock | intake | peers | alert => trivial

theorem Block.Fresh.of_air {c : Block} (other : c ≠ .air) (frame : AirFrame s t) (fresh : c.Fresh s) : c.Fresh t := by
  cases c with
  | air => exact absurd rfl other
  | session => exact frame.session.trans fresh
  | counter =>
    show t.counter.count = 0 ∧ t.counter.vacant = false
    rwa [frame.counter]
  | light => exact (congrArg Light.copies frame.light :).trans fresh
  | blind => exact (congrArg Blind.inputs frame.blind :).trans fresh
  | panel => exact (congrArg Panel.copies frame.panel :).trans fresh
  | clock | intake | peers | alert => trivial

theorem Block.Fresh.of_blind {c : Block} (other : c ≠ .blind) (frame : BlindFrame s t) (fresh : c.Fresh s) : c.Fresh t := by
  cases c with
  | blind => exact absurd rfl other
  | session => exact frame.session.trans fresh
  | counter =>
    show t.counter.count = 0 ∧ t.counter.vacant = false
    rwa [frame.counter]
  | air => exact (congrArg Air.copies frame.air :).trans fresh
  | light => exact frame.lightCopies.trans fresh
  | panel => exact (congrArg Panel.copies frame.panel :).trans fresh
  | clock | intake | peers | alert => trivial

theorem takeStart_fresh {b c : Block} (other : c ≠ b) (fresh : c.Fresh s) : c.Fresh (takeStart b s) := by
  cases b with
  | air =>
    refine Block.Fresh.of_air other (airStart_frame s) ?_
    cases c with
    | air => exact absurd rfl other
    | _ => exact fresh
  | blind =>
    refine Block.Fresh.of_blind other (blindStart_frame s) ?_
    cases c with
    | blind => exact absurd rfl other
    | _ => exact fresh
  | alert =>
    show c.Fresh (alertStart s)
    rw [alertStart_alert]
    cases c <;> exact fresh
  | session =>
    cases c with
    | session => exact absurd rfl other
    | _ => exact fresh
  | counter =>
    cases c with
    | counter => exact absurd rfl other
    | _ => exact fresh
  | light =>
    cases c with
    | light => exact absurd rfl other
    | _ => exact fresh
  | panel =>
    cases c with
    | panel => exact absurd rfl other
    | _ => exact fresh
  | clock | intake | peers => cases c <;> exact fresh

theorem takeMode_roomLaw (phase : Phase) (address : Option Byte) (settings : Settings) (clamped : Bool) (s : State) :
    RoomLaw (takeMode phase address settings clamped s) :=
  roomLaw_of_fresh fun b => fanOut_brings_under (Q := fun _ => True) (P := fun t => b.Fresh t) b (fun _ _ _ => trivial)
    (fun t _ => takeStart_brings b t) (fun _ _ other _ fresh => takeStart_fresh (Ne.symm other) fresh) (mem_otherBlocks b) trivial

/-! ### The law, through every step -/

theorem Calm.of_blindEvent (frame : BlindFrame s t) (policy : PolicyKept s t) : Calm s t := .of_blind frame policy.inputs

theorem roomLaw_stationKeeps : StationKeeps RoomLaw where
  toEngineKeeps := roomLaw_engineKeeps
  mode phase address settings clamped _ _ _ _ := takeMode_roomLaw phase address settings clamped _
  occupancy c kind kinds before _ := sendOccupancy_roomLaw c kind kinds before
  deliver w _ _ law := law.of_calm (deliver_calm w _)
  report sent tag law := law.of_calm (.of_blindEvent (feederReport_frame sent tag _) (feederReport_policy sent tag _))
  co2 ppm law := law.of_calm (takeCo2_calm ppm _)
  co2Loss law := law.of_calm (loseCo2_calm _)
  rateWindow law := law.of_calm (closeRateWindow_calm _)
  refresh _ _ law := law.of_calm (offerFigures_calm _)
  feedback _ law := law.of_calm (.trans (.setAir (by exact rfl)) (compareDamper_calm _))
  damperFault _ law := law.of_calm (by exact ⟨⟨rfl, rfl, rfl, rfl, rfl⟩, rfl, rfl, rfl, rfl⟩)
  shortfall law := law.of_calm (by exact ⟨⟨rfl, rfl, rfl, rfl, rfl⟩, rfl, rfl, rfl, rfl⟩)
  airRestart law := law.of_calm (airRestart_calm _)
  photo _ law := law.of_calm (.withLight rfl)
  photoLoss law := law.of_calm (.withLight (pin_copies _ _))
  harvest due law := law.of_calm (harvestTick_calm due _)
  fade _ _ _ _ _ law := law.of_calm (.withLight rfl)
  warning law := law.of_calm (.withLight rfl)
  holdRelease law := law.of_calm (.withLight rfl)
  wallSwitch _ _ _ _ _ law := law.of_calm (.withLight rfl)
  lightRestart law := law.of_calm (.of_light (lightRestart_only _) (lightRestart_copies _))
  sun glare klux law := law.of_calm (.of_blind (takeSun_frame glare klux _) (takeSun_inputs glare klux _))
  sunAge law := law.of_calm (.trans (.setBlind (by exact rfl)) (.of_blind (recomputeGlare_frame _) (recomputeGlare_inputs _)))
  sunSend law := law.of_calm (.of_blind (sendSun_frame _) (sendSun_inputs _))
  glareHold law := law.of_calm (.of_blind (loseSun_frame _)
    (setGlare_inputs 0 (raiseAlert .sunLost (withBlind ({ · with holdTimer := none }) _))))
  dwell law := law.of_calm (.of_blind (endDwell_frame _) (endDwell_inputs _))
  window law := law.of_calm (.of_blindEvent (closeWindow_frame _) (closeWindow_policy _))
  backoff k _ _ law := law.of_calm (.of_blindEvent (endBackoff_frame _ _) (endBackoff_policy k.group _))
  limit number limit active law := law.of_calm (.of_blindEvent (takeLimit_frame _ _ _ _) (takeLimit_policy number limit active _))
  runTimer number goal _ law := law.of_calm (.of_blindEvent (endIntermediate_frame _ _ _) (endIntermediate_policy number goal _))
  watchdog number _ law := law.of_calm (.of_blindEvent (stallDrive_frame _ _) (stallDrive_policy number _))
  blindRestart law := law.of_calm (.of_blind (blindRestart_frame _) (blindRestart_inputs _))
  blindClear law := law.of_calm (.of_blindEvent (blindClear_frame _) (blindClear_policy _))
  key key _ law := pressKey_roomLaw key law
  blink law := law.of_calm (.withPanel rfl)
  panelClear law := law.of_calm (.withPanel rfl)

theorem takeAssertion_roomLaw (b : Block) (law : RoomLaw s) : RoomLaw (takeAssertion b s) := by
  cases b with
  | air => exact law.of_calm (airAssertion_calm s)
  | light => exact law.of_calm (show Calm s (lightAssertion s) from .withLight rfl)
  | blind =>
    have taken : Calm s (s.setBlind { s.blind with emergency := true }) := Calm.setBlind rfl
    exact law.of_calm (taken.trans (.of_blind (blindAssertion_frame s) (blindAssertion_inputs s)))
  | panel =>
    exact endIfOn_roomLaw _ (law.of_calm (show Calm s (withPanel ({ · with emergency := true }) s) from .withPanel rfl))
  | alert => exact law.of_calm (by exact ⟨⟨rfl, rfl, rfl, rfl, rfl⟩, rfl, rfl, rfl, rfl⟩)
  | clock | intake | session | counter | peers => exact law

/-- The scene of a release is derived anew, and is the one held (R128, R138). -/
theorem lightRelease_copies (held : SceneHeld s) : (lightRelease s).light.copies = s.light.copies :=
  (congrArg (fun scene => { s.light.copies with scene := scene }) held.symm :)

theorem takeRelease_roomLaw (b : Block) (law : RoomLaw s) : RoomLaw (takeRelease b s) := by
  cases b with
  | air => exact law.of_calm (airRelease_calm s)
  | light => exact law.of_calm (show Calm s (lightRelease s) from .withLight (lightRelease_copies law.scene))
  | blind =>
    have taken : Calm s (s.setBlind { s.blind with emergency := false }) := Calm.setBlind rfl
    exact law.of_calm (taken.trans (.of_blind (blindRelease_frame s) (reapply_inputs (s.setBlind { s.blind with emergency := false }))))
  | panel => exact law.of_calm (show Calm s (panelRelease s) from .withPanel rfl)
  | alert => exact law.of_calm (by exact ⟨⟨rfl, rfl, rfl, rfl, rfl⟩, rfl, rfl, rfl, rfl⟩)
  | clock | intake | session | counter | peers => exact law

theorem roomLaw_endures : Endures RoomLaw where
  toLives := roomLaw_stationKeeps.lives
  powerUp {s} law := by
    rcases powerUp_cases s with e | e <;> rw [e]
    · exact law
    · exact roomLaw_reset.of_calm ⟨⟨rfl, rfl, rfl, rfl, rfl⟩, rfl, rfl, rfl, rfl⟩
  powerOff _ := roomLaw_reset.of_calm ⟨⟨rfl, rfl, rfl, rfl, rfl⟩, rfl, rfl, rfl, rfl⟩
  emergency _ law := by
    have noted {v : AlertUnit} : RoomLaw (State.setAlert _ v) := law.of_calm (by exact ⟨⟨rfl, rfl, rfl, rfl, rfl⟩, rfl, rfl, rfl, rfl⟩)
    refine ite_keeps noted (fanOut_keeps RoomLaw _ (fun b t law => ?_) _ _ ?_)
    · split
      · exact takeAssertion_roomLaw b law
      · exact takeRelease_roomLaw b law
    · exact law.of_calm (by exact ⟨⟨rfl, rfl, rfl, rfl, rfl⟩, rfl, rfl, rfl, rfl⟩)

/-- Settles O24: what changes the regime, N, the vacant flag or an override value tells every block that copies it before the event
ends; nothing else moves a copy. -/
theorem everyStepKeepsTheRoomLaw : Obligations.EveryStepKeepsTheRoomLaw := fun _ _ law stepped => roomLaw_endures.step law stepped

end Sys2Proof.Machine
end

section
/-!
PROOFS. Every block knows the emergency state (R175), and what each operation of a block does while the line is asserted: it keeps the
room bound, and offers no CLAIM but a withdrawal (R123, R138, R161, R173, R176).
-/

namespace Sys2Proof.Machine

variable {s t u : State} {e : Bool}

/-! ### Every block knows the emergency state -/

/-- The station is started and the emergency state is `e`, in the Alert Unit, its alert, and every block's copy. -/
structure Minded (e : Bool) (s : State) : Prop where
  up : s.started = true
  asserted : s.alert.emergency = e
  raised : s.isRaised .emergency = e
  air : s.air.emergency = e
  light : s.light.emergency = e
  blind : s.blind.emergency = e
  panel : s.panel.emergency = e

/-- The alerts other than EMERGENCY. -/
def otherAlerts : List Alert :=
  [.configFallback, .damperFault, .driveOut, .shortfall, .co2High, .doorBlocked, .sunLost, .co2Lost, .peerTableFull,
    .clockUnset, .configClamped]

theorem Minded.of_frame (h : Minded e s) (frame : SessionFrame s t) (kept : AlertsKept otherAlerts s t) : Minded e t :=
  ⟨(started_of_loader frame.loader).trans h.up, frame.emergency.trans h.asserted, (kept _ (by decide)).trans h.raised,
    frame.airEmergency.trans h.air, frame.lightEmergency.trans h.light, frame.blindEmergency.trans h.blind,
    frame.panelEmergency.trans h.panel⟩

theorem Minded.of_room (h : Minded e s) (frame : RoomFrame s t) (kept : AlertsKept otherAlerts s t) : Minded e t :=
  h.of_frame frame.toSessionFrame kept

theorem Minded.of_light (h : Minded e s) (only : LightOnly s t) : Minded e t :=
  h.of_room only.toRoom fun _ _ => by rw [State.isRaised, State.isRaised, only.alert]

theorem closed_otherAlerts (s : State) : Closed otherAlerts (AlertsKept otherAlerts s) := alertsKept_closed otherAlerts s

/-- What the blocks' operations leave of the alerts, from the lemmas on what keeps a property. -/
theorem Minded.of_closed (h : Minded e s) (frame : RoomFrame s t)
    (kept : Closed otherAlerts (AlertsKept otherAlerts s) → AlertsKept otherAlerts s s → AlertsKept otherAlerts s t) : Minded e t :=
  h.of_room frame (kept (closed_otherAlerts s) (.refl _ s))

theorem minded_engineKeeps (e : Bool) : EngineKeeps (Minded e) where
  aside same h := ⟨(started_of_loader same.loader).trans h.up, same.asserted.trans h.asserted, same.emergency.trans h.raised,
    by rw [same.air]; exact h.air, by rw [same.light]; exact h.light, by rw [same.blind]; exact h.blind,
    by rw [same.panel]; exact h.panel⟩
  regime minute h := h.of_frame (publishRegime_frame minute _)
    ((closed_otherAlerts _).publishRegime minute (by decide) (by decide) (.refl _ _))
  ends cause h := h.of_closed (endIfOn_frame cause _) fun closed => closed.endIfOn (by decide) (by decide) cause
  record h := h.of_closed (readShortfall_frame _).toRoomFrame fun closed => closed.air _

theorem Minded.setPeers (h : Minded e s) (v : PeerTable) : Minded e (s.setPeers v) :=
  ⟨h.up, h.asserted, h.raised, h.air, h.light, h.blind, h.panel⟩

theorem Minded.setCounter (h : Minded e s) (v : Counter) : Minded e (s.setCounter v) :=
  ⟨h.up, h.asserted, h.raised, h.air, h.light, h.blind, h.panel⟩

theorem minded_deliver (w : TableWork) (h : Minded e s) : Minded e (deliver w s) :=
  (h.setPeers w.table).of_closed (deliver_frame w s) fun closed kept =>
    closed.deliver (by decide) (by decide) (by decide) (by decide) w kept

theorem alertsKept_setCo2 {r : State} (ppm : Nat) (kept : AlertsKept otherAlerts r s) : AlertsKept otherAlerts r (setCo2 ppm s) := by
  have closed := closed_otherAlerts r
  exact ite_keeps (closed.raise _ (by decide) (closed.air _ kept)) (closed.clear _ (by decide) (closed.air _ kept))

theorem alertsKept_takeCo2 (ppm : Nat) (s : State) : AlertsKept otherAlerts s (takeCo2 ppm s) := by
  have closed := closed_otherAlerts s
  have read := alertsKept_setCo2 (clamp 300 5000 ppm) (closed.air { s.air with co2State := .live, co2Timer := s.timer (minutes 15) }
    (AlertsKept.refl _ s))
  exact closed.recomputeDemand (by decide) (by decide) (ite_keeps (closed.clear _ (by decide) read) read)

theorem alertsKept_loseCo2 (s : State) : AlertsKept otherAlerts s (loseCo2 s) := by
  have closed := closed_otherAlerts s
  exact closed.recomputeDemand (by decide) (by decide) (closed.raise _ (by decide) (alertsKept_setCo2 _ (closed.air _ (.refl _ s))))

theorem minded_stationKeeps (e : Bool) : StationKeeps (Minded e) where
  toEngineKeeps := minded_engineKeeps e
  mode _ _ _ _ _ _ reading h := by
    have up := h.up
    rw [State.started, reading] at up
    exact nomatch up
  occupancy c kind kinds before _ h := (h.setCounter c).of_frame (sendOccupancy_frame _ _ _)
    ((closed_otherAlerts _).sendOccupancy (by decide) (by decide) _ _ (.refl _ _))
  deliver w _ _ := minded_deliver w
  report sent tag h := h.of_closed (feederReport_frame sent tag _).toRoomFrame fun closed => closed.feederReport sent tag
  co2 ppm h := h.of_room (takeCo2_frame ppm _).toRoomFrame (alertsKept_takeCo2 ppm _)
  co2Loss h := h.of_room (loseCo2_frame _).toRoomFrame (alertsKept_loseCo2 _)
  rateWindow h := h.of_closed (closeRateWindow_frame _).toRoomFrame fun closed kept =>
    ite_keeps (closed.offerClaim (closed.air _ kept)) (closed.air _ kept)
  refresh _ _ h := h.of_closed (offerFigures_frame _).toRoomFrame fun closed kept => closed.offer _ (closed.air _ kept)
  feedback _ h := h.of_closed ((AirFrame.setAir _ _ (by exact rfl)).trans (compareDamper_frame _)).toRoomFrame fun closed kept =>
    closed.compareDamper (by decide) (closed.air _ kept)
  damperFault _ h := h.of_closed ((RoomFrame.setAir _ _ (by exact rfl)).trans (raiseAlert_frame _ _).toRoomFrame) fun closed kept =>
    closed.raise _ (by decide) (closed.air _ kept)
  shortfall h := h.of_closed ((RoomFrame.setAir _ _ (by exact rfl)).trans (raiseAlert_frame _ _).toRoomFrame) fun closed kept =>
    closed.raise _ (by decide) (closed.air _ kept)
  airRestart h := h.of_closed (airRestart_frame _).toRoomFrame fun closed => closed.airRestart (by decide) (by decide)
  photo lux h := h.of_light (takePhoto_only lux _)
  photoLoss h := h.of_light (losePhoto_only _)
  harvest due h := h.of_light (harvestTick_only due _)
  fade _ _ _ _ _ h := h.of_light ⟨_, by exact rfl, rfl⟩
  warning h := h.of_light ⟨_, by exact rfl, rfl⟩
  holdRelease h := h.of_light ⟨_, by exact rfl, rfl⟩
  wallSwitch _ _ _ _ _ h := h.of_light ⟨_, by exact rfl, rfl⟩
  lightRestart h := h.of_light (lightRestart_only _)
  sun glare klux h := h.of_closed (takeSun_frame glare klux _).toRoomFrame fun closed => closed.takeSun (by decide) glare klux
  sunAge h := h.of_closed ((withBlind_frame _ _ rfl).trans (recomputeGlare_frame _)).toRoomFrame fun closed kept =>
    closed.recomputeGlare (by decide) (closed.blind _ kept)
  sunSend h := h.of_closed (sendSun_frame _).toRoomFrame fun closed kept => by
    unfold sendSun
    split
    · exact closed.offerSun _ kept
    · exact closed.blind _ kept
  glareHold h := h.of_closed (loseSun_frame _).toRoomFrame fun closed kept =>
    closed.setGlare _ (closed.raise _ (by decide) (closed.blind _ kept))
  dwell h := h.of_closed (endDwell_frame _).toRoomFrame fun closed => closed.endDwell
  window h := h.of_closed (closeWindow_frame _).toRoomFrame fun closed => closed.closeWindow
  backoff k _ _ h := h.of_closed (endBackoff_frame _ _).toRoomFrame fun closed => closed.endBackoff k.group
  limit number limit active h := h.of_closed (takeLimit_frame number limit active _).toRoomFrame fun closed =>
    closed.takeLimit number limit active
  runTimer number goal _ h := h.of_closed (endIntermediate_frame number goal _).toRoomFrame fun closed =>
    closed.endIntermediate number goal
  watchdog number _ h := h.of_closed (stallDrive_frame number _).toRoomFrame fun closed => closed.stallDrive (by decide) number
  blindRestart h := h.of_closed (blindRestart_frame _).toRoomFrame fun closed => closed.blindRestart
  blindClear h := h.of_closed (blindClear_frame _).toRoomFrame fun closed => closed.blindClear (by decide)
  key key _ h := h.of_closed (pressKey_frame key _) fun closed => closed.pressKey (by decide) (by decide) key
  blink h := h.of_closed (withPanel_frame _ _ rfl) fun closed => closed.panel _
  panelClear h := h.of_closed (panelClear_frame _) fun closed => closed.panel _

/-! ### The Air Controller while the line is asserted (R123) -/

/-- The body of a withdrawal (R123). -/
def State.withdrawal (s : State) : List Byte := [byte s.loader.settings.trunk, 0, 0, 0, 0, 0, 1]

/-- The grant, the command and the refresh timer stand, and no CLAIM but a withdrawal is offered. -/
structure AirStays (s t : State) : Prop extends AirFrame s t where
  grant : t.air.grant = s.air.grant
  command : t.air.command = s.air.command
  refresh : t.air.refreshTimer = s.air.refreshTimer
  claims : s.bus.NoClaimBut t.bus (some s.withdrawal)

theorem withdrawal_of_loader (h : t.loader = s.loader) : t.withdrawal = s.withdrawal := by
  unfold State.withdrawal
  rw [h]

theorem AirStays.refl (s : State) : AirStays s s := ⟨.refl s, rfl, rfl, rfl, .refl _ _⟩

theorem AirStays.trans (h : AirStays s t) (k : AirStays t u) : AirStays s u :=
  ⟨h.1.trans k.1, k.grant.trans h.grant, k.command.trans h.command, k.refresh.trans h.refresh,
    h.claims.trans (withdrawal_of_loader h.loader ▸ k.claims)⟩

theorem AirStays.setAir {a : Air} (emergency : a.emergency = s.air.emergency) (grant : a.grant = s.air.grant)
    (command : a.command = s.air.command) (refresh : a.refreshTimer = s.air.refreshTimer) : AirStays s (s.setAir a) :=
  ⟨.setAir s a emergency, grant, command, refresh, .refl _ _⟩

theorem compareDamper_stays (s : State) : AirStays s (compareDamper s) := by
  obtain ⟨timer, air⟩ := compareDamper_air s
  exact ⟨compareDamper_frame s, by rw [air], by rw [air], by rw [air], by rw [(compareDamper_settles s).bus]; exact .refl _ _⟩

theorem judgeShortfall_stays (s : State) : AirStays s (judgeShortfall s) := by
  have settles := judgeShortfall_settles s
  have stays : (judgeShortfall s).air.grant = s.air.grant ∧ (judgeShortfall s).air.command = s.air.command := by
    unfold judgeShortfall
    split
    · split <;> exact ⟨rfl, rfl⟩
    · split <;> exact ⟨rfl, rfl⟩
  exact ⟨judgeShortfall_frame s, stays.1, stays.2, by rw [settles.air], by rw [settles.bus]; exact .refl _ _⟩

theorem offerWithdrawal_stays (s : State) : AirStays s (offerWithdrawal s) := by
  have air : (offerWithdrawal s).air = { s.air with rateWindow := s.timer (seconds 2) } := (offer_frame _ _).air
  refine ⟨offerWithdrawal_frame s, by rw [air], by rw [air], by rw [air], ?_⟩
  exact noClaimBut_offerAnswered _ (s.setAir { s.air with rateWindow := s.timer (seconds 2) }) fun _ => rfl

theorem offerClaim_stays (asserted : s.air.emergency = true) : AirStays s (offerClaim s) := by
  rw [offerClaim_of_asserted asserted]
  exact offerWithdrawal_stays s

theorem triggerClaim_stays (asserted : s.air.emergency = true) : AirStays s (triggerClaim s) := by
  unfold triggerClaim
  split
  · split
    · exact offerClaim_stays asserted
    · exact AirStays.setAir rfl rfl rfl rfl
  · exact .refl s

theorem testTrigger_of_asserted (asserted : s.air.emergency = true) : testTrigger s = s := if_neg (by simp [asserted])

theorem recomputeDemand_stays (asserted : s.air.emergency = true) : AirStays s (recomputeDemand s) := by
  cases normal : s.isNormal with
  | false =>
    rw [recomputeDemand_of_fallback normal]
    exact .refl s
  | true =>
    have held : regrant (figured s) = figured s := regrant_of_held (.inl asserted)
    have stands : regranted s = judgeShortfall (figured s) := by
      rw [regranted, held, ite_self]
    have judged : AirStays s (judgeShortfall (figured s)) :=
      .trans (t := figured s) (.setAir rfl rfl rfl rfl) (judgeShortfall_stays _)
    rw [recomputeDemand_of_normal normal, stands, testTrigger_of_asserted (judged.airEmergency.trans asserted)]
    exact judged

/-- A recomputation after a change of the inputs. -/
theorem recomputed_stays {a : Air} (asserted : s.air.emergency = true) (emergency : a.emergency = s.air.emergency)
    (grant : a.grant = s.air.grant) (command : a.command = s.air.command) (refresh : a.refreshTimer = s.air.refreshTimer) :
    AirStays s (recomputeDemand (s.setAir a)) :=
  .trans (.setAir emergency grant command refresh) (recomputeDemand_stays (emergency.trans asserted))

theorem alertIs_stays (a : Alert) (c : Bool) (s : State) : AirStays s (alertIs a c s) :=
  ⟨(alertIs_frame a c s).toAir, by rw [(alertIs_frame a c s).air], by rw [(alertIs_frame a c s).air],
    by rw [(alertIs_frame a c s).air], by unfold alertIs; split <;> exact .refl _ _⟩

theorem takeCo2_stays (ppm : Nat) (asserted : s.air.emergency = true) : AirStays s (takeCo2 ppm s) := by
  have bus : (co2Read (clamp 300 5000 ppm) s).bus = s.bus := (co2Read_rest _ s).1
  have loader : (co2Read (clamp 300 5000 ppm) s).loader = s.loader := (co2Read_rest _ s).2
  have air := co2Read_air (clamp 300 5000 ppm) s
  have stays := recomputeDemand_stays (s := co2Read (clamp 300 5000 ppm) s) (by rw [air]; exact asserted)
  refine ⟨takeCo2_frame ppm s, ?_, ?_, ?_, ?_⟩
  · exact stays.grant.trans (by rw [air])
  · exact stays.command.trans (by rw [air])
  · exact stays.refresh.trans (by rw [air])
  · have claims := stays.claims
    rwa [bus, withdrawal_of_loader loader] at claims

theorem loseCo2_stays (asserted : s.air.emergency = true) : AirStays s (loseCo2 s) := by
  obtain ⟨bus, loader⟩ : (co2Gone s).bus = s.bus ∧ (co2Gone s).loader = s.loader := setCo2_rest _ _
  have air := co2Gone_air s
  have stays := recomputeDemand_stays (s := co2Gone s) (by rw [air]; exact asserted)
  refine ⟨loseCo2_frame s, ?_, ?_, ?_, ?_⟩
  · exact stays.grant.trans (by rw [air])
  · exact stays.command.trans (by rw [air])
  · exact stays.refresh.trans (by rw [air])
  · have claims := stays.claims
    rwa [bus, withdrawal_of_loader loader] at claims

theorem closeRateWindow_stays (asserted : s.air.emergency = true) : AirStays s (closeRateWindow s) := by
  have closed : AirStays s (s.setAir { s.air with rateWindow := none, pendingTrigger := false }) := .setAir rfl rfl rfl rfl
  exact ite_keeps (closed.trans (offerClaim_stays asserted)) closed

theorem airRestart_stays (asserted : s.air.emergency = true) : AirStays s (airRestart s) := by
  have computed : AirStays s (computeDemand s) := .setAir rfl rfl rfl rfl
  have held : regrant (computeDemand s) = computeDemand s := regrant_of_held (.inl asserted)
  have judged := computed.trans (judgeShortfall_stays _)
  refine ite_keeps (P := AirStays s) ?_ (.refl s)
  rw [held]
  exact judged.trans (triggerClaim_stays (judged.airEmergency.trans asserted))

theorem airNotice_stays (n : PeerNotice) (asserted : s.air.emergency = true) : AirStays s (airNotice n s) := by
  cases ofClaims : n.ofClaims with
  | true =>
    rw [airNotice_of_claims ofClaims]
    refine ite_keeps (P := AirStays s) ?_ (.refl s)
    rw [regrant_of_held (.inl asserted)]
    exact judgeShortfall_stays s
  | false =>
    rw [airNotice_of_others ofClaims]
    exact .refl s

/-! ### The Light Controller while the line is asserted (R138) -/

/-- No warning runs, and the only fades are those the photosensor pin has started (R131, R138). -/
def Light.Bound (l : Light) : Prop :=
  l.warning = none ∧ ∀ g ∈ l.groups, g.fade.isSome = true →
    g.window = true ∧ g.handSelect = false ∧ g.target ∈ [150, 500, 600, 700, 800, 900]

theorem Light.Bound.of_same {l m : Light} (h : l.Bound) (warning : m.warning = l.warning) (groups : m.groups = l.groups) : m.Bound :=
  ⟨warning.trans h.1, groups ▸ h.2⟩

theorem rescene_bound {l : Light} (asserted : l.emergency = true) (now : Nat) (h : l.Bound) : (l.rescene now).Bound := by
  by_cases held : sceneOf l.regime l.mode l.vacant = l.scene
  · rwa [Light.rescene_of_held now held]
  · rw [Light.rescene_of_asserted now held asserted]
    exact h.of_same rfl rfl

theorem innerLevel_mem {scene : Scene} (lit : scene ≠ .off) : scene.innerLevel ∈ [150, 500, 600, 700, 800, 900] := by
  cases scene <;> simp [Scene.innerLevel] at lit ⊢

theorem pin_bound {l : Light} (now : Nat) (h : l.Bound) : (l.pin now).Bound := by
  refine ⟨(pin_warning l now).trans h.1, fun g mem fades => ?_⟩
  rcases mem_pin l now g mem with held | ⟨lit, window, follows, target⟩
  · exact h.2 g held fades
  · exact ⟨window, follows, target ▸ innerLevel_mem lit⟩

/-- The end of a warning leaves a fade to no group but a hand-select one. -/
theorem goDark_bound {l : Light} (h : l.Bound) : l.goDark.Bound := by
  refine ⟨rfl, fun g mem fades => ?_⟩
  obtain ⟨g', held, rfl⟩ := List.mem_map.1 mem
  split at fades
  next hand =>
    rw [if_pos hand]
    exact h.2 g' held fades
  next => exact nomatch fades

theorem fadeStep_bound {l : Light} (number due : Nat) {g : Group} (picked : pick? l.groups number = some g) (fades : g.fade = some due)
    (h : l.Bound) : ({ l with groups := put l.groups number (g.step due) } : Light).Bound := by
  refine ⟨h.1, fun g' mem fades' => ?_⟩
  rcases mem_put mem with rfl | held
  · exact h.2 g (mem_of_pick? picked) (by rw [fades]; rfl)
  · exact h.2 g' held fades'

theorem harvestTick_of_asserted (due : Nat) (asserted : s.light.emergency = true) :
    harvestTick due s = withLight ({ · with harvestTimer := some (due + seconds 10) }) s := by
  have none : ({ s.light with harvestTimer := some (due + seconds 10) } : Light).harvestPair = none := by
    simp [Light.harvestPair, asserted]
  unfold harvestTick
  dsimp only
  split
  next => rfl
  next pair => exact nomatch none.symm.trans pair

/-! ### The Blind Controller while the line is asserted (R161) -/

/-- No start is in hand, no group backs off, every drive is STOPPED. -/
def Blind.Rests (b : Blind) : Prop :=
  b.emergency = true ∧ b.hand = .nothing ∧ b.backoffs = [] ∧ ∀ d ∈ b.drives, d.state = .stopped

/-- The Blind Controller rests, and no CLAIM has been offered. -/
structure BlindStays (s t : State) : Prop extends BlindFrame s t where
  rests : t.blind.Rests
  claims : s.bus.NoClaimBut t.bus none

theorem BlindStays.refl (h : s.blind.Rests) : BlindStays s s := ⟨.refl s, h, .refl _ _⟩

theorem BlindStays.trans (h : BlindStays s t) (k : BlindStays t u) : BlindStays s u :=
  ⟨h.1.trans k.1, k.rests, h.claims.trans k.claims⟩

theorem Blind.Rests.of_same {b c : Blind} (h : b.Rests) (emergency : c.emergency = b.emergency) (hand : c.hand = b.hand)
    (backoffs : c.backoffs = b.backoffs) (drives : c.drives = b.drives) : c.Rests := by
  obtain ⟨asserted, nothing, none, stopped⟩ := h
  exact ⟨emergency.trans asserted, hand.trans nothing, backoffs.trans none, drives ▸ stopped⟩

/-- A change of the Blind Controller that leaves the stage alone. -/
theorem BlindStays.withBlind (h : s.blind.Rests) {change : Blind → Blind} (emergency : (change s.blind).emergency = s.blind.emergency)
    (hand : (change s.blind).hand = s.blind.hand) (backoffs : (change s.blind).backoffs = s.blind.backoffs)
    (drives : (change s.blind).drives = s.blind.drives) : BlindStays s (withBlind change s) :=
  ⟨.setBlind s _ emergency, h.of_same emergency hand backoffs drives, .refl _ _⟩

theorem BlindStays.setAlert (h : s.blind.Rests) {a : Alert} : BlindStays s (raiseAlert a s) ∧ BlindStays s (clearAlert a s) :=
  ⟨⟨(raiseAlert_frame a s).toBlind, h, .refl _ _⟩, ⟨(clearAlert_frame a s).toBlind, h, .refl _ _⟩⟩

theorem BlindStays.offer (h : s.blind.Rests) {f : Frame} (kind : f.kind ≠ .claim) : BlindStays s (offer f s) := by
  have frame := offer_frame f s
  exact ⟨frame.toBlind, by rw [frame.blind]; exact h, noClaimBut_offerAnswered f s fun claim => absurd claim kind⟩

theorem policyEvent_stays (glare : Bool) (h : s.blind.Rests) : BlindStays s (policyEvent glare s) := by
  have still : policyEvent glare s = rework s := if_pos (show (rework s).blind.emergency = true from h.1)
  rw [still]
  exact .withBlind h rfl rfl rfl rfl

theorem setGlare_stays (glare : Nat) (h : s.blind.Rests) : BlindStays s (setGlare glare s) := by
  have set : BlindStays s (withBlind (fun b => { b with glare := glare, glaring := glaringAt glare b.glaring }) s) :=
    .withBlind h rfl rfl rfl rfl
  exact ite_keeps (set.trans (policyEvent_stays true set.rests)) set

theorem recomputeGlare_stays (h : s.blind.Rests) : BlindStays s (recomputeGlare s) := by
  unfold recomputeGlare
  split
  · exact ite_keeps (.refl h) (.withBlind h rfl rfl rfl rfl)
  · have stopped : BlindStays s (withBlind (fun b => { b with holdTimer := none }) s) := .withBlind h rfl rfl rfl rfl
    have cleared := stopped.trans (BlindStays.setAlert stopped.rests (a := .sunLost)).2
    exact cleared.trans (setGlare_stays _ cleared.rests)

theorem offerSun_stays (r : SunSample) (h : s.blind.Rests) : BlindStays s (offerSun r s) := by
  have sent : BlindStays s (withBlind (fun b => { b with lastSent := some r.glare, sendTimer := s.timer (seconds 60) }) s) :=
    .withBlind h rfl rfl rfl rfl
  exact sent.trans (.offer sent.rests (nomatch ·))

theorem takeSun_stays (glare klux : Nat) (h : s.blind.Rests) : BlindStays s (takeSun glare klux s) := by
  unfold takeSun
  split
  · have held : BlindStays s (withBlind (fun b =>
        { b with own := some { glare := min glare 100, klux := min klux 150 }, ageTimer := s.timer (seconds 120) }) s) :=
      .withBlind h rfl rfl rfl rfl
    have read := held.trans (recomputeGlare_stays held.rests)
    dsimp only
    split
    · exact read.trans (offerSun_stays _ read.rests)
    · exact ite_keeps (read.trans (offerSun_stays _ read.rests)) read
  · exact .refl h

theorem sendSun_stays (h : s.blind.Rests) : BlindStays s (sendSun s) := by
  unfold sendSun
  split
  · exact offerSun_stays _ h
  · exact .withBlind h rfl rfl rfl rfl

theorem loseSun_stays (h : s.blind.Rests) : BlindStays s (loseSun s) := by
  have stopped : BlindStays s (withBlind (fun b => { b with holdTimer := none }) s) := .withBlind h rfl rfl rfl rfl
  have raised := stopped.trans (BlindStays.setAlert stopped.rests (a := .sunLost)).1
  exact raised.trans (setGlare_stays 0 raised.rests)

theorem endDwell_stays (h : s.blind.Rests) : BlindStays s (endDwell s) := by
  have ended : BlindStays s (withBlind (fun b => { b with dwellTimer := none, latched := false }) s) := .withBlind h rfl rfl rfl rfl
  unfold endDwell
  dsimp only
  split
  next applies => exact nomatch h.1.symm.trans applies.2.1
  next => exact ended

theorem offerFeederEnd_stays (drives : Nat) (h : s.blind.Rests) : BlindStays s (offerFeederEnd drives s) := .offer h (nomatch ·)

theorem orphanReport_stays (sent : Bool) (tag : Nat) (h : s.blind.Rests) : BlindStays s (orphanReport sent tag s) := by
  unfold orphanReport
  split
  · exact .refl h
  · have dropped : BlindStays s (withBlind (fun b => { b with orphans := b.orphans.filter (·.tag != tag) }) s) :=
      .withBlind h rfl rfl rfl rfl
    exact ite_keeps (dropped.trans (offerFeederEnd_stays _ dropped.rests)) dropped

theorem feederReport_stays (sent : Bool) (tag : Nat) (h : s.blind.Rests) : BlindStays s (feederReport sent tag s) := by
  have rest : feederReport sent tag s = orphanReport sent tag s := by
    unfold feederReport
    rw [h.2.1]
  rw [rest]
  exact orphanReport_stays sent tag h

theorem settleStage_of_rests (h : s.blind.Rests) (rounds : Nat) (recheck : Bool) : settleStage rounds recheck s = s :=
  settleStage_of_asserted h.1 rounds recheck

theorem blindNotice_stays (n : PeerNotice) (h : s.blind.Rests) : BlindStays s (blindNotice n s) := by
  have settled (recheck : Bool) : BlindStays s (settleStage stageRounds recheck s) := by
    rw [settleStage_of_rests h]
    exact .refl h
  cases n with
  | claimAdded | claimChanged | claimRemoved => exact .refl h
  | sunRecorded | sunFresh | sunStale | sunRemoved => exact recomputeGlare_stays h
  | feederChanged | feederRemoved | endHeard => exact settled true
  | startHeard peer drives arrival =>
    have none : startHeard peer drives arrival s = s := by
      unfold startHeard
      rw [h.2.1]
    show BlindStays s (startHeard peer drives arrival s)
    rw [none]
    exact .refl h
  | emptied =>
    have read := recomputeGlare_stays h
    show BlindStays s (settleStage stageRounds true (recomputeGlare s))
    rw [settleStage_of_rests read.rests]
    exact read

theorem closeWindow_of_rests (h : s.blind.Rests) : closeWindow s = s := by
  unfold closeWindow
  rw [h.2.1]

theorem runningRun_of_rests (h : s.blind.Rests) (number : Nat) : s.blind.runningRun number = none := by
  unfold Blind.runningRun
  split
  · rfl
  next d picked =>
    have stopped := h.2.2.2 d (mem_of_pick? picked)
    exact if_neg (by rw [stopped]; decide)

theorem mapDrive_rests {b : Blind} (h : b.Rests) (number : Nat) {f : Drive → Drive} (keeps : ∀ d, (f d).state = d.state) :
    (b.mapDrive number f).Rests := by
  unfold Blind.mapDrive
  split
  · exact h
  next d picked =>
    refine ⟨h.1, h.2.1, h.2.2.1, fun d' mem => ?_⟩
    rcases mem_put mem with rfl | held
    · rw [keeps]
      exact h.2.2.2 d (mem_of_pick? picked)
    · exact h.2.2.2 d' held

theorem takeLimit_stays (number : Nat) (limit : Limit) (active : Bool) (h : s.blind.Rests) :
    BlindStays s (takeLimit number limit active s) := by
  have limited : BlindStays s (withBlind (·.mapDrive number fun d => { d with limits := d.limits.set limit active }) s) :=
    ⟨withBlind_frame _ _ (mapDrive_emergency _ _ _), mapDrive_rests h number fun _ => rfl, .refl _ _⟩
  unfold takeLimit
  split
  · exact .refl h
  next d picked =>
    dsimp only
    split
    next runs => exact nomatch (h.2.2.2 d (mem_of_pick? picked)).symm.trans runs.2.1
    next => exact limited

theorem standDown_rests {b : Blind} (h : b.Rests) : b.standDown.Rests := by
  refine ⟨h.1, h.2.1, rfl, fun d mem => ?_⟩
  obtain ⟨d', held, rfl⟩ := List.mem_map.1 mem
  split
  · exact h.2.2.2 d' held
  · rfl

theorem blindRestart_stays (h : s.blind.Rests) : BlindStays s (blindRestart s) := by
  have none : s.blind.inState .running = [] := (inState_eq_nil_iff _ _).2 fun d mem => by
    rw [h.2.2.2 d mem]
    decide
  have dropped : BlindStays s (withBlind (fun b => { b with orphans := [] }) s) := .withBlind h rfl rfl rfl rfl
  have nothing : dropHand (withBlind (fun b => { b with orphans := [] }) s) = withBlind (fun b => { b with orphans := [] }) s := by
    unfold dropHand
    rw [dropped.rests.2.1]
  have down : BlindStays s (withBlind Blind.standDown (withBlind (fun b => { b with orphans := [] }) s)) :=
    dropped.trans ⟨withBlind_frame _ _ rfl, standDown_rests dropped.rests, .refl _ _⟩
  unfold blindRestart
  dsimp only
  rw [none, show forEach [] cutShort s = s from rfl, nothing]
  split
  next => exact down
  next released => exact absurd h.1 released

theorem blindClear_stays (h : s.blind.Rests) : BlindStays s (blindClear s) := by
  have restored : BlindStays s (restoreDrives s) := by
    refine ⟨(withBlind_frame _ s rfl).trans (clearAlert_frame _ _).toBlind, ⟨h.1, h.2.1, h.2.2.1, fun d mem => ?_⟩, .refl _ _⟩
    obtain ⟨d', held, rfl⟩ := List.mem_map.1 (show d ∈ s.blind.drives.map _ from mem)
    split
    · exact h.2.2.2 d' held
    · exact h.2.2.2 d' held
  unfold blindClear
  rw [if_pos h.1]
  exact ite_keeps (.refl h) restored

end Sys2Proof.Machine
end

section
/-!
PROOFS. The room bound by the asserted line, through every step and in every order of the blocks (R123, R138, R161, R173, R175, R176).
-/

namespace Sys2Proof.Machine

variable {s t : State} {b : BusPort}

/-! ### The room bound -/

/-- The room is bound, and the transmit side carries no CLAIM but a withdrawal and those of `b`. -/
structure Bound (b : BusPort) (s : State) : Prop where
  grant : s.air.grant = 0
  command : s.air.command = 0
  refresh : s.air.refreshTimer = none
  light : s.light.Bound
  blind : s.blind.Rests
  panel : s.panel.on = false
  claims : b.NoClaimBut s.bus (some s.withdrawal)

/-- The station is started, every block knows the line is asserted, and the room is bound. -/
def Held (b : BusPort) (s : State) : Prop := Minded true s ∧ Bound b s

theorem Bound.of_air (h : Bound b s) (stays : AirStays s t) : Bound b t := by
  obtain ⟨grant, command, refresh, light, blind, panel, claims⟩ := h
  refine ⟨stays.grant.trans grant, stays.command.trans command, stays.refresh.trans refresh, ?_, ?_, ?_, ?_⟩
  · rwa [stays.light]
  · rwa [stays.blind]
  · rwa [stays.panel]
  · rw [withdrawal_of_loader stays.loader]
    exact claims.trans stays.claims

/-- What offers no CLAIM adds none. -/
theorem BusPort.NoClaimBut.widen {c d : BusPort} {body : Option (List Byte)} (h : c.NoClaimBut d none) : c.NoClaimBut d body :=
  fun g claim carried => (h g claim carried).imp_right (nomatch ·)

theorem Bound.of_blind (h : Bound b s) (stays : BlindStays s t) : Bound b t := by
  obtain ⟨grant, command, refresh, light, -, panel, claims⟩ := h
  refine ⟨?_, ?_, ?_, ?_, stays.rests, ?_, ?_⟩
  · rwa [stays.air]
  · rwa [stays.air]
  · rwa [stays.air]
  · rw [stays.light]
    exact light.of_same rfl rfl
  · rwa [stays.panel]
  · rw [withdrawal_of_loader stays.loader]
    exact claims.trans stays.claims.widen

theorem Bound.of_aside (h : Bound b s) (same : Aside s t) : Bound b t := by
  obtain ⟨grant, command, refresh, light, blind, panel, claims⟩ := h
  refine ⟨?_, ?_, ?_, ?_, ?_, ?_, ?_⟩
  · rwa [same.air]
  · rwa [same.air]
  · rwa [same.air]
  · rwa [same.light]
  · rwa [same.blind]
  · rwa [same.panel]
  · rw [withdrawal_of_loader same.loader]
    exact claims.trans same.claims.widen

theorem Bound.setLight (h : Bound b s) {l : Light} (bound : l.Bound) : Bound b (s.setLight l) :=
  ⟨h.grant, h.command, h.refresh, bound, h.blind, h.panel, h.claims⟩

theorem Bound.setPanel (h : Bound b s) {p : Panel} (off : p.on = false) : Bound b (s.setPanel p) :=
  ⟨h.grant, h.command, h.refresh, h.light, h.blind, off, h.claims⟩

theorem Bound.setPeers (h : Bound b s) (v : PeerTable) : Bound b (s.setPeers v) :=
  ⟨h.grant, h.command, h.refresh, h.light, h.blind, h.panel, h.claims⟩

theorem Bound.setCounter (h : Bound b s) (v : Counter) : Bound b (s.setCounter v) :=
  ⟨h.grant, h.command, h.refresh, h.light, h.blind, h.panel, h.claims⟩

theorem Bound.setSession (h : Bound b s) (v : SessionEngine) : Bound b (s.setSession v) :=
  ⟨h.grant, h.command, h.refresh, h.light, h.blind, h.panel, h.claims⟩

theorem Bound.alertIs (h : Bound b s) (a : Alert) (c : Bool) : Bound b (alertIs a c s) := h.of_air (alertIs_stays a c s)

/-- An override that is OFF takes no end but that of a trap's moment, which writes the record alone (R173). -/
theorem Bound.endIfOn (h : Bound b s) (cause : OverrideCause) : Bound b (endIfOn cause s) := by
  unfold Machine.endIfOn
  split
  next on => exact nomatch h.panel.symm.trans on
  next => exact ite_keeps (h.setPanel h.panel) h

/-! ### The blocks' parts of a regime notice and of an occupancy event -/

theorem Held.takeRegime (h : Held b s) (n : RegimeNotice) (k : Block) : Bound b (takeRegime n k s) := by
  obtain ⟨minded, bound⟩ := h
  cases k with
  | air => exact bound.of_air (recomputed_stays minded.air rfl rfl rfl rfl)
  | light =>
    exact bound.setLight (rescene_bound (l := { s.light with regime := n.regime, mode := n.mode }) minded.light s.now
      (bound.light.of_same rfl rfl))
  | blind =>
    have taken : BlindStays s (withBlind (fun b => { b with regime := n.regime, mode := n.mode }) s) :=
      .withBlind bound.blind rfl rfl rfl rfl
    exact bound.of_blind (taken.trans (policyEvent_stays false taken.rests))
  | panel =>
    have taken : Bound b (withPanel ({ · with regime := n.regime, mode := n.mode }) s) := bound.setPanel bound.panel
    exact ite_keeps (taken.endIfOn _) taken
  | clock | intake | session | counter | peers | alert => exact bound

theorem Held.occupancy (h : Held b s) (e : OccupancyEvent) {k : Block} (other : k ≠ .session) : Bound b (takeOccupancy e k s) := by
  obtain ⟨minded, bound⟩ := h
  cases k with
  | session => exact absurd rfl other
  | air => exact ite_keeps bound (bound.of_air (recomputed_stays minded.air rfl rfl rfl rfl))
  | light =>
    exact ite_keeps bound (bound.setLight (rescene_bound (l := { s.light with vacant := e.vacant }) minded.light s.now
      (bound.light.of_same rfl rfl)))
  | blind =>
    have taken : BlindStays s (withBlind (fun b => { b with vacant := e.vacant }) s) := .withBlind bound.blind rfl rfl rfl rfl
    exact ite_keeps bound (bound.of_blind (taken.trans (policyEvent_stays false taken.rests)))
  | panel =>
    have taken : Bound b (withPanel ({ · with vacant := e.vacant }) s) := bound.setPanel bound.panel
    exact ite_keeps (taken.endIfOn _) taken
  | clock | intake | counter | peers | alert => exact bound

theorem minded_takeRegime {e : Bool} (n : RegimeNotice) (k : Block) (h : Minded e s) : Minded e (takeRegime n k s) :=
  h.of_closed (takeRegime_frame n k s) fun closed => closed.takeRegime (by decide) (by decide) n k

theorem held_engineKeeps (b : BusPort) : EngineKeeps (Held b) where
  aside same h := ⟨(minded_engineKeeps true).aside same h.1, h.2.of_aside same⟩
  regime _ h := ite_keeps (fanOut_keeps (Held b) _ (fun k _ held => ⟨minded_takeRegime _ k held.1, held.takeRegime _ k⟩) _ _
      ⟨⟨h.1.up, h.1.asserted, h.1.raised, h.1.air, h.1.light, h.1.blind, h.1.panel⟩, h.2.setSession _⟩)
    ⟨⟨h.1.up, h.1.asserted, h.1.raised, h.1.air, h.1.light, h.1.blind, h.1.panel⟩, h.2.setSession _⟩
  ends cause h := ⟨(minded_engineKeeps true).ends cause h.1, h.2.endIfOn cause⟩
  record h := ⟨(minded_engineKeeps true).record h.1, h.2.of_air (.setAir rfl rfl rfl rfl)⟩

theorem minded_occupancy {e : Bool} (v : OccupancyEvent) (k : Block) (h : Minded e s) : Minded e (takeOccupancy v k s) := by
  cases k with
  | session => exact (minded_engineKeeps e).sessionOccupancy v h
  | air => exact h.of_closed (airOccupancy_frame v s).toRoomFrame fun closed => closed.airOccupancy (by decide) (by decide) v
  | light => exact h.of_light (lightOccupancy_only v s)
  | blind => exact h.of_closed (blindOccupancy_frame v s).toRoomFrame fun closed => closed.blindOccupancy v
  | panel => exact h.of_closed (panelOccupancy_frame v s) fun closed => closed.panelOccupancy (by decide) (by decide) v
  | clock | intake | counter | peers | alert => exact h

theorem Held.takeOccupancy (h : Held b s) (v : OccupancyEvent) (k : Block) : Held b (takeOccupancy v k s) := by
  by_cases session : k = .session
  · subst session
    exact (held_engineKeeps b).sessionOccupancy v h
  · exact ⟨minded_occupancy v k h.1, h.occupancy v session⟩

theorem Held.notice (h : Held b s) (n : PeerNotice) (k : Block) : Held b (takeNotice n k s) := by
  refine ⟨h.1.of_closed (takeNotice_frame n k s) fun closed => closed.takeNotice (by decide) (by decide) (by decide) n k, ?_⟩
  cases k with
  | air => exact h.2.of_air (airNotice_stays n h.1.air)
  | blind => exact h.2.of_blind (blindNotice_stays n h.2.blind)
  | clock | intake | session | counter | peers | light | panel | alert => exact h.2

theorem Held.deliver (h : Held b s) (w : TableWork) : Held b (deliver w s) := by
  have written : Held b (s.setPeers w.table) := ⟨h.1.setPeers w.table, h.2.setPeers w.table⟩
  refine forEach_keeps (Held b) _ (fun n t held => fanOut_keeps (Held b) _ (fun k _ held => held.notice n k) _ _ held) _ _ ?_
  split
  · exact written
  next full _ =>
    exact ⟨written.1.of_closed (alertIs_frame _ _ _).toRoomFrame fun closed kept =>
      ite_keeps (closed.raise _ (by decide) kept) (closed.clear _ (by decide) kept), written.2.alertIs _ full⟩

/-! ### Every event of a started station -/

/-- While the line is asserted no key enters override (R168). -/
theorem pressKey_bound (key : Key) (h : Held b s) : Bound b (pressKey key s) := by
  obtain ⟨minded, bound⟩ := h
  have barred : s.mayEnterOverride = false := by simp [State.mayEnterOverride, minded.panel]
  unfold pressKey
  rw [if_neg (by simp [bound.panel]), barred]
  exact ite_keeps bound (bound.setPanel bound.panel)

theorem lightRestart_bound (h : Bound b s) : Bound b (lightRestart s) := by
  refine h.setLight ?_
  show Light.Bound (if s.light.warning.isSome then _ else _)
  split
  · exact goDark_bound (l := { s.light with hold := .off }) (h.light.of_same rfl rfl)
  · exact h.light.of_same rfl rfl

theorem held_stationKeeps (b : BusPort) : StationKeeps (Held b) where
  toEngineKeeps := held_engineKeeps b
  mode _ _ _ _ _ _ reading h := by
    have up := h.1.up
    rw [State.started, reading] at up
    exact nomatch up
  occupancy c kind kinds before _ h := forEach_keeps (Held b) _ (fun k t held => fanOut_keeps (Held b) _
    (fun l _ held => held.takeOccupancy _ l) _ _ held) _ _ ⟨h.1.setCounter c, h.2.setCounter c⟩
  deliver w _ _ h := h.deliver w
  report sent tag h := ⟨(minded_stationKeeps true).report sent tag h.1, h.2.of_blind (feederReport_stays sent tag h.2.blind)⟩
  co2 ppm h := ⟨(minded_stationKeeps true).co2 ppm h.1, h.2.of_air (takeCo2_stays ppm h.1.air)⟩
  co2Loss h := ⟨(minded_stationKeeps true).co2Loss h.1, h.2.of_air (loseCo2_stays h.1.air)⟩
  rateWindow h := ⟨(minded_stationKeeps true).rateWindow h.1, h.2.of_air (closeRateWindow_stays h.1.air)⟩
  refresh _ runs h := absurd h.2.refresh runs
  feedback permille h := ⟨(minded_stationKeeps true).feedback permille h.1,
    h.2.of_air (.trans (.setAir (by exact rfl) (by exact rfl) (by exact rfl) (by exact rfl)) (compareDamper_stays _))⟩
  damperFault runs h := ⟨(minded_stationKeeps true).damperFault runs h.1,
    (h.2.of_air (.setAir (by exact rfl) (by exact rfl) (by exact rfl) (by exact rfl))).alertIs .damperFault true⟩
  shortfall h := ⟨(minded_stationKeeps true).shortfall h.1,
    (h.2.of_air (.setAir (by exact rfl) (by exact rfl) (by exact rfl) (by exact rfl))).alertIs .shortfall true⟩
  airRestart h := ⟨(minded_stationKeeps true).airRestart h.1, h.2.of_air (airRestart_stays h.1.air)⟩
  photo lux h := ⟨(minded_stationKeeps true).photo lux h.1, h.2.setLight h.2.light⟩
  photoLoss h := ⟨(minded_stationKeeps true).photoLoss h.1,
    h.2.setLight (pin_bound (l := { State.light _ with photoState := .lost, photoTimer := none }) _ (h.2.light.of_same rfl rfl))⟩
  harvest due h := ⟨(minded_stationKeeps true).harvest due h.1, by
    rw [harvestTick_of_asserted due h.1.light]
    exact h.2.setLight h.2.light⟩
  fade number due g picked fades h := ⟨(minded_stationKeeps true).fade number due g picked fades h.1,
    h.2.setLight (fadeStep_bound number due picked fades h.2.light)⟩
  warning h := ⟨(minded_stationKeeps true).warning h.1, h.2.setLight (goDark_bound h.2.light)⟩
  holdRelease h := ⟨(minded_stationKeeps true).holdRelease h.1, h.2.setLight h.2.light⟩
  wallSwitch number on g picked hand h := ⟨(minded_stationKeeps true).wallSwitch number on g picked hand h.1,
    h.2.setLight ⟨h.2.light.1, fun g' mem fades => by
      rcases mem_put mem with rfl | held
      · obtain ⟨-, follows, -⟩ := h.2.light.2 g (mem_of_pick? picked) fades
        exact nomatch hand.symm.trans follows
      · exact h.2.light.2 g' held fades⟩⟩
  lightRestart h := ⟨(minded_stationKeeps true).lightRestart h.1, lightRestart_bound h.2⟩
  sun glare klux h := ⟨(minded_stationKeeps true).sun glare klux h.1, h.2.of_blind (takeSun_stays glare klux h.2.blind)⟩
  sunAge {s} h := ⟨(minded_stationKeeps true).sunAge h.1, by
    have stopped : BlindStays s (withBlind (fun b => { b with ageTimer := none }) s) := .withBlind h.2.blind rfl rfl rfl rfl
    exact h.2.of_blind (stopped.trans (recomputeGlare_stays stopped.rests))⟩
  sunSend h := ⟨(minded_stationKeeps true).sunSend h.1, h.2.of_blind (sendSun_stays h.2.blind)⟩
  glareHold h := ⟨(minded_stationKeeps true).glareHold h.1, h.2.of_blind (loseSun_stays h.2.blind)⟩
  dwell h := ⟨(minded_stationKeeps true).dwell h.1, h.2.of_blind (endDwell_stays h.2.blind)⟩
  window h := by
    rw [closeWindow_of_rests h.2.blind]
    exact h
  backoff k _ mem h := by
    rw [h.2.blind.2.2.1] at mem
    exact absurd mem List.not_mem_nil
  limit number limit active h := ⟨(minded_stationKeeps true).limit number limit active h.1,
    h.2.of_blind (takeLimit_stays number limit active h.2.blind)⟩
  runTimer number _ running h := absurd (runningRun_of_rests h.2.blind number) running
  watchdog number running h := absurd (runningRun_of_rests h.2.blind number) running
  blindRestart h := ⟨(minded_stationKeeps true).blindRestart h.1, h.2.of_blind (blindRestart_stays h.2.blind)⟩
  blindClear h := ⟨(minded_stationKeeps true).blindClear h.1, h.2.of_blind (blindClear_stays h.2.blind)⟩
  key key up h := ⟨(minded_stationKeeps true).key key up h.1, pressKey_bound key h⟩
  blink h := ⟨(minded_stationKeeps true).blink h.1, h.2.setPanel h.2.panel⟩
  panelClear h := ⟨(minded_stationKeeps true).panelClear h.1, h.2.setPanel h.2.panel⟩

/-! ### The start of the blocks -/

/-- What the start of a block needs to know: the blocks are started, and the emergency state stands in the Alert Unit. -/
structure ReadyForLine (e : Bool) (b : BusPort) (s : State) : Prop where
  up : s.started = true
  asserted : s.alert.emergency = e
  raised : s.isRaised .emergency = e
  claims : e = true → b.NoClaimBut s.bus (some s.withdrawal)

/-- The block has started with the emergency state, and holds what the line binds (R103, R127, R142, R167). -/
def Block.Begun (e : Bool) (s : State) : Block → Prop
  | .air => s.air.emergency = e ∧ (e = true → s.air.grant = 0 ∧ s.air.command = 0 ∧ s.air.refreshTimer = none)
  | .light => s.light.emergency = e ∧ (e = true → s.light.Bound)
  | .blind => s.blind.emergency = e ∧ (e = true → s.blind.Rests)
  | .panel => s.panel.emergency = e ∧ (e = true → s.panel.on = false)
  | .clock | .intake | .session | .counter | .peers | .alert => True

variable {e : Bool}

theorem airStart_stays (asserted : s.alert.emergency = true) : AirStays (s.setAir s.airAtStart) (airStart s) := by
  have computed : AirStays (s.setAir s.airAtStart) (computeDemand (s.setAir s.airAtStart)) := .setAir rfl rfl rfl rfl
  have compared := computed.trans (compareDamper_stays _)
  have judged := compared.trans (judgeShortfall_stays _)
  have normal : AirStays (s.setAir s.airAtStart)
      (triggerClaim (judgeShortfall (compareDamper (startCommand (computeDemand (s.setAir s.airAtStart)))))) := by
    rw [startCommand_of_asserted (by exact asserted)]
    exact judged.trans (triggerClaim_stays (judged.airEmergency.trans asserted))
  refine ite_keeps normal ?_
  rw [startCommand_of_asserted (by exact asserted)]
  exact compareDamper_stays _

theorem takeStart_alerts {k : Block} (other : k ≠ .alert) (s : State) : AlertsKept otherAlerts s (takeStart k s) := by
  have closed := closed_otherAlerts s
  have kept := AlertsKept.refl otherAlerts s
  cases k with
  | air => exact closed.airStart (by decide) (by decide) kept
  | blind => exact closed.blindStart kept
  | clock => exact closed.raise _ (by decide) kept
  | alert => exact absurd rfl other
  | light => exact closed.light _ kept
  | panel => exact closed.panel _ kept
  | session => exact closed.session _ kept
  | intake => exact closed.intake _ kept
  | counter | peers => exact kept

/-- The Alert Unit raises EMERGENCY at its start where the line is asserted (R178). -/
theorem takeStart_raised (k : Block) (asserted : s.alert.emergency = e) (raised : s.isRaised .emergency = e) :
    (takeStart k s).isRaised .emergency = e := by
  by_cases alert : k = .alert
  · subst alert
    show (alertStart s).isRaised .emergency = e
    unfold alertStart
    dsimp only
    split
    next line =>
      have e_true : e = true := asserted.symm.trans line
      rw [isRaised_raise, e_true]
      exact Bool.or_true _
    next => exact raised
  · exact (takeStart_alerts alert s _ (by decide)).trans raised

theorem takeStart_ready_line (k : Block) (h : ReadyForLine e b s) : ReadyForLine e b (takeStart k s) := by
  have frame := takeStart_frame k s
  refine ⟨(started_of_loader frame.loader).trans h.up, frame.emergency.trans h.asserted,
    takeStart_raised k h.asserted h.raised, fun asserted => ?_⟩
  rw [withdrawal_of_loader frame.loader]
  have line : s.alert.emergency = true := h.asserted.trans asserted
  refine (h.claims asserted).trans ?_
  cases k with
  | air => exact (airStart_stays line).claims
  | blind =>
    show s.bus.NoClaimBut (blindStart s).bus _
    rw [blindStart_eq, if_pos line]
    exact .refl _ _
  | alert =>
    show s.bus.NoClaimBut (alertStart s).bus _
    rw [alertStart_alert]
    exact .refl _ _
  | clock | intake | session | counter | peers | light | panel => exact .refl _ _

theorem startGroups_still (settings : List GroupSetting) (switches : List Bool) : ∀ g ∈ startGroups settings switches, g.fade = none := by
  intro g mem
  obtain ⟨i, inside, rfl⟩ := List.mem_mapIdx.1 mem
  rfl

theorem takeStart_begins (k : Block) (h : ReadyForLine e b s) : k.Begun e (takeStart k s) := by
  cases k with
  | air =>
    refine ⟨(airStart_frame s).airEmergency.trans h.asserted, fun asserted => ?_⟩
    have stays := airStart_stays (h.asserted.trans asserted)
    exact ⟨stays.grant, stays.command, stays.refresh⟩
  | light =>
    have line := h.asserted
    show (lightStart s).light.emergency = e ∧ (e = true → (lightStart s).light.Bound)
    cases e with
    | false =>
      refine ⟨?_, (nomatch ·)⟩
      rw [lightStart, line]
      rfl
    | true =>
      rw [lightStart, line]
      refine ⟨rfl, fun _ => ⟨rfl, fun g mem fades => ?_⟩⟩
      rw [startGroups_still _ _ g mem] at fades
      exact nomatch fades
  | blind =>
    refine ⟨(blindStart_frame s).blindEmergency.trans h.asserted, fun asserted => ?_⟩
    have line : s.alert.emergency = true := h.asserted.trans asserted
    show (blindStart s).blind.Rests
    rw [blindStart_eq, if_pos line]
    refine ⟨line, rfl, rfl, fun d mem => ?_⟩
    obtain ⟨i, inside, rfl⟩ := List.mem_mapIdx.1 (show d ∈ startDrives _ _ from mem)
    rfl
  | panel => exact ⟨h.asserted, fun _ => rfl⟩
  | clock | intake | session | counter | peers | alert => trivial

theorem Block.Begun.of_air {k : Block} (other : k ≠ .air) (frame : AirFrame s t) (begun : k.Begun e s) : k.Begun e t := by
  cases k with
  | air => exact absurd rfl other
  | light =>
    show t.light.emergency = e ∧ (e = true → t.light.Bound)
    rwa [frame.light]
  | blind =>
    show t.blind.emergency = e ∧ (e = true → t.blind.Rests)
    rwa [frame.blind]
  | panel =>
    show t.panel.emergency = e ∧ (e = true → t.panel.on = false)
    rwa [frame.panel]
  | clock | intake | session | counter | peers | alert => trivial

theorem Block.Begun.of_blind {k : Block} (other : k ≠ .blind) (frame : BlindFrame s t) (begun : k.Begun e s) : k.Begun e t := by
  cases k with
  | blind => exact absurd rfl other
  | air =>
    show t.air.emergency = e ∧ (e = true → t.air.grant = 0 ∧ t.air.command = 0 ∧ t.air.refreshTimer = none)
    rwa [frame.air]
  | light =>
    show t.light.emergency = e ∧ (e = true → t.light.Bound)
    rw [frame.light]
    exact ⟨begun.1, fun asserted => (begun.2 asserted).of_same rfl rfl⟩
  | panel =>
    show t.panel.emergency = e ∧ (e = true → t.panel.on = false)
    rwa [frame.panel]
  | clock | intake | session | counter | peers | alert => trivial

theorem takeStart_begun {k l : Block} (other : l ≠ k) (begun : l.Begun e s) : l.Begun e (takeStart k s) := by
  cases k with
  | air =>
    refine Block.Begun.of_air other (airStart_frame s) ?_
    cases l with
    | air => exact absurd rfl other
    | _ => exact begun
  | blind =>
    refine Block.Begun.of_blind other (blindStart_frame s) ?_
    cases l with
    | blind => exact absurd rfl other
    | _ => exact begun
  | alert =>
    show l.Begun e (alertStart s)
    rw [alertStart_alert]
    cases l <;> exact begun
  | light =>
    cases l with
    | light => exact absurd rfl other
    | _ => exact begun
  | panel =>
    cases l with
    | panel => exact absurd rfl other
    | _ => exact begun
  | clock | intake | session | counter | peers => cases l <;> exact begun

/-- What the start of the blocks leaves, from a state in which they are ready for it. -/
theorem takeStarts_begun (h : ReadyForLine e b s) (k : Block) : k.Begun e (fanOut otherBlocks takeStart s) :=
  fanOut_brings_under (Q := ReadyForLine e b) (P := fun t => k.Begun e t) k (fun l _ => takeStart_ready_line l)
    (fun _ ready => takeStart_begins k ready) (fun _ _ other _ begun => takeStart_begun (Ne.symm other) begun) (mem_otherBlocks k) h

theorem takeStarts_ready (h : ReadyForLine e b s) : ReadyForLine e b (fanOut otherBlocks takeStart s) :=
  fanOut_keeps (ReadyForLine e b) _ (fun k _ => takeStart_ready_line k) _ _ h

theorem takeStarts_minded (h : ReadyForLine e b s) : Minded e (fanOut otherBlocks takeStart s) := by
  obtain ⟨up, asserted, raised, -⟩ := takeStarts_ready h
  exact ⟨up, asserted, raised, (takeStarts_begun h .air).1, (takeStarts_begun h .light).1, (takeStarts_begun h .blind).1,
    (takeStarts_begun h .panel).1⟩

theorem takeStarts_held (h : ReadyForLine true b s) : Held b (fanOut otherBlocks takeStart s) := by
  have claims := (takeStarts_ready h).claims rfl
  obtain ⟨grant, command, refresh⟩ := (takeStarts_begun h .air).2 rfl
  exact ⟨takeStarts_minded h, grant, command, refresh, (takeStarts_begun h .light).2 rfl, (takeStarts_begun h .blind).2 rfl,
    (takeStarts_begun h .panel).2 rfl, claims⟩

end Sys2Proof.Machine
end

section
/-!
PROOFS. The emergency line is asserted and released in every order of the blocks, and the law it binds the room with is kept by every
step, with no CLAIM but a withdrawal (R123, R138, R161, R162, R173, R175, R176).
-/

namespace Sys2Proof.Machine

variable {s t : State} {b : BusPort} {e : Bool}

/-! ### Assertion -/

theorem endIfOn_off (cause : OverrideCause) (s : State) : (endIfOn cause s).panel.on = false := by
  unfold endIfOn
  split
  · rw [endOverride_panel]
    rfl
  next off => exact ite_keeps (P := fun t => t.panel.on = false) (Bool.eq_false_iff.2 off) (Bool.eq_false_iff.2 off)

/-- The Air Controller has taken the assertion, and closes the damper (R123). -/
def airAsserted (s : State) : State :=
  setCommand 0 (s.setAir { s.air with emergency := true, grant := 0, refreshTimer := none })

theorem airAssertion_eq (s : State) : airAssertion s = triggerClaim (judgeShortfall (airAsserted s)) := rfl

theorem airAsserted_air (s : State) : ∃ timer, (airAsserted s).air =
    { s.air with emergency := true, grant := 0, refreshTimer := none, command := 0, faultTimer := timer } := setCommand_air 0 _

theorem airAssertion_stays (s : State) : AirStays (airAsserted s) (airAssertion s) := by
  obtain ⟨timer, air⟩ := airAsserted_air s
  have judged := judgeShortfall_stays (airAsserted s)
  exact judged.trans (triggerClaim_stays (judged.airEmergency.trans (congrArg Air.emergency air)))

theorem airAssertion_begun (s : State) : Block.Begun true (airAssertion s) .air := by
  obtain ⟨timer, air⟩ := airAsserted_air s
  have stays := airAssertion_stays s
  exact ⟨(airAssertion_frame s).airEmergency, fun _ => ⟨stays.grant.trans (congrArg Air.grant air),
    stays.command.trans (congrArg Air.command air), stays.refresh.trans (congrArg Air.refreshTimer air)⟩⟩

theorem lightAssertion_bound (s : State) : (lightAssertion s).light.Bound := by
  refine ⟨rfl, fun g mem fades => ?_⟩
  obtain ⟨g', -, rfl⟩ := List.mem_map.1 (show g ∈ s.light.groups.map Group.stopFade from mem)
  exact nomatch fades

theorem cutShort_blind (number : Nat) (s : State) :
    ∃ position, (cutShort number s).blind = s.blind.mapDrive number (·.halt position) := by
  unfold cutShort
  split
  next absent => exact ⟨none, (Blind.mapDrive_of_absent absent _).symm⟩
  next d _ => exact ⟨d.estimate s.now, haltDrive_blind _ _ s⟩

/-- Where every RUNNING drive is among those cut short, none runs on. -/
theorem cutShorts_stop : ∀ (numbers : List Nat) (s : State),
    (∀ n d, pick? s.blind.drives n = some d → d.state = .running → n ∈ numbers) →
    ∀ n d, pick? (forEach numbers cutShort s).blind.drives n = some d → d.state ≠ .running
  | [], s, among => fun n d picked running => nomatch among n d picked running
  | k :: rest, s, among => by
    refine cutShorts_stop rest (cutShort k s) fun n d picked running => ?_
    obtain ⟨position, blind⟩ := cutShort_blind k s
    rw [blind] at picked
    by_cases same : n = k
    · subst same
      rw [Blind.pick?_mapDrive_same, Option.map_eq_some_iff] at picked
      obtain ⟨d', -, rfl⟩ := picked
      exact nomatch running
    · rw [Blind.pick?_mapDrive_other _ _ same] at picked
      exact (List.mem_cons.1 (among n d picked running)).resolve_left same

theorem cutRunning_stopped (s : State) :
    ∀ d ∈ (forEach (s.blind.inState .running) cutShort s).blind.drives, d.state ≠ .running := by
  intro d mem
  obtain ⟨i, inside, rfl⟩ := List.mem_iff_getElem.1 mem
  refine cutShorts_stop _ s (fun n d picked running => ?_) (i + 1) _ (pick?_eq_some_iff.2 ⟨by omega, List.getElem?_eq_getElem inside⟩)
  exact mem_numbersOf.2 ⟨d, picked, by simpa using running⟩

theorem standDown_stopped {c : Blind} (none : ∀ d ∈ c.drives, d.state ≠ .running) : ∀ d ∈ c.standDown.drives, d.state = .stopped := by
  intro d mem
  obtain ⟨d', held, rfl⟩ := List.mem_map.1 mem
  split
  next runs => exact absurd (by simpa using runs) (none d' held)
  next => rfl

/-- No start is in hand once the hand is dropped, and the drives stand. -/
theorem dropHand_blind (s : State) : (dropHand s).blind.hand = .nothing ∧ (dropHand s).blind.drives = s.blind.drives := by
  unfold dropHand
  split
  next nothing => exact ⟨nothing, rfl⟩
  next => exact ⟨rfl, rfl⟩
  next drives _ _ _ _ _ =>
    have blind := (offerFeederEnd_frame drives (withBlind ({ · with hand := .nothing }) s)).blind
    exact ⟨(congrArg Blind.hand blind :).trans rfl, (congrArg Blind.drives blind :).trans rfl⟩

theorem blindAssertion_rests (s : State) : (blindAssertion s).blind.Rests := by
  have cut := cutRunning_stopped (withBlind ({ · with emergency := true }) s)
  obtain ⟨hand, drives⟩ := dropHand_blind
    (forEach ((withBlind ({ · with emergency := true }) s).blind.inState .running) cutShort (withBlind ({ · with emergency := true }) s))
  refine ⟨(blindAssertion_frame s).blindEmergency, hand, rfl, ?_⟩
  exact standDown_stopped (by rw [drives]; exact cut)

theorem takeAssertion_begins (k : Block) (s : State) : k.Begun true (takeAssertion k s) := by
  cases k with
  | air => exact airAssertion_begun s
  | light => exact ⟨rfl, fun _ => lightAssertion_bound s⟩
  | blind => exact ⟨(blindAssertion_frame s).blindEmergency, fun _ => blindAssertion_rests s⟩
  | panel => exact ⟨(panelAssertion_frame s).panelEmergency, fun _ => endIfOn_off .emergency _⟩
  | clock | intake | session | counter | peers | alert => trivial

/-- An end of override tells the Air, Light and Blind blocks of what has changed, and those that have taken the assertion stay bound
(R172, R173). -/
theorem endIfOn_begun (cause : OverrideCause) {k : Block} (other : k ≠ .panel) (begun : k.Begun true s) :
    k.Begun true (endIfOn cause s) := by
  have reset (value : Int) : k.Begun true (resetOverride cause value s) := by
    cases k with
    | panel => exact absurd rfl other
    | air | light | blind | clock | intake | session | counter | peers | alert => exact begun
  have offset (value : Int) : k.Begun true (returnOffset s.panel (resetOverride cause value s)) := by
    refine ite_keeps (P := fun t => k.Begun true t) (reset value) ?_
    cases k with
    | panel => exact absurd rfl other
    | light => exact ⟨begun.1, fun asserted => (begun.2 asserted).of_same rfl rfl⟩
    | air | blind | clock | intake | session | counter | peers | alert => exact begun
  have boost {u : State} (h : k.Begun true u) : k.Begun true (returnBoost s.panel u) := by
    refine ite_keeps (P := fun t => k.Begun true t) ?_ h
    by_cases air : k = .air
    · subst air
      obtain ⟨emergency, bound⟩ := h
      obtain ⟨grant, command, refresh⟩ := bound rfl
      have stays : AirStays u (airBoost false u) := recomputed_stays emergency rfl rfl rfl rfl
      exact ⟨stays.airEmergency.trans emergency, fun _ =>
        ⟨stays.grant.trans grant, stays.command.trans command, stays.refresh.trans refresh⟩⟩
    · exact h.of_air air (airBoost_frame false u)
  have target {u : State} (h : k.Begun true u) : k.Begun true (returnTarget s.panel u) := by
    refine ite_keeps (P := fun t => k.Begun true t) ?_ h
    by_cases blind : k = .blind
    · subst blind
      have taken : BlindStays u (withBlind (fun b => { b with override := none }) u) := .withBlind (h.2 rfl) rfl rfl rfl rfl
      have stays := taken.trans (policyEvent_stays false taken.rests)
      exact ⟨stays.blindEmergency.trans h.1, fun _ => stays.rests⟩
    · exact h.of_blind blind (blindTarget_frame none u)
  unfold endIfOn
  split
  · exact target (boost (offset 0))
  · refine ite_keeps (P := fun t => k.Begun true t) ?_ begun
    cases k with
    | panel => exact absurd rfl other
    | air | light | blind | clock | intake | session | counter | peers | alert => exact begun

theorem takeAssertion_begun {k l : Block} (other : l ≠ k) (begun : l.Begun true s) : l.Begun true (takeAssertion k s) := by
  cases k with
  | air =>
    refine Block.Begun.of_air other (airAssertion_frame s) ?_
    cases l with
    | air => exact absurd rfl other
    | _ => exact begun
  | light =>
    cases l with
    | light => exact absurd rfl other
    | _ => exact begun
  | blind =>
    refine Block.Begun.of_blind other (blindAssertion_frame s) ?_
    cases l with
    | blind => exact absurd rfl other
    | _ => exact begun
  | panel =>
    refine endIfOn_begun .emergency other ?_
    cases l with
    | panel => exact absurd rfl other
    | _ => exact begun
  | alert => cases l <;> exact begun
  | clock | intake | session | counter | peers => exact begun

theorem takeAssertion_raised {k : Block} (raised : s.isRaised .emergency = true) : (takeAssertion k s).isRaised .emergency = true := by
  have closed := closed_otherAlerts s
  have kept := AlertsKept.refl otherAlerts s
  cases k with
  | alert =>
    show (raiseAlert .emergency s).isRaised .emergency = true
    rw [isRaised_raise, raised]
    rfl
  | air => exact (closed.airAssertion (by decide) (by decide) kept _ (by decide)).trans raised
  | blind => exact (closed.blindAssertion kept _ (by decide)).trans raised
  | panel => exact (closed.endIfOn (by decide) (by decide) _ (closed.panel _ kept) _ (by decide)).trans raised
  | light | clock | intake | session | counter | peers => exact raised

theorem takeAssertion_raises (s : State) : (takeAssertion .alert s).isRaised .emergency = true := by
  show (raiseAlert .emergency s).isRaised .emergency = true
  rw [isRaised_raise]
  exact Bool.or_true _

/-! ### Release -/

theorem takeRelease_begins (k : Block) (s : State) : k.Begun false (takeRelease k s) := by
  cases k with
  | air => exact ⟨(airRelease_frame s).airEmergency, (nomatch ·)⟩
  | light => exact ⟨rfl, (nomatch ·)⟩
  | blind => exact ⟨(blindRelease_frame s).blindEmergency, (nomatch ·)⟩
  | panel => exact ⟨rfl, (nomatch ·)⟩
  | clock | intake | session | counter | peers | alert => trivial

theorem takeRelease_begun {k l : Block} (other : l ≠ k) (begun : l.Begun false s) : l.Begun false (takeRelease k s) := by
  cases k with
  | air =>
    refine Block.Begun.of_air other (airRelease_frame s) ?_
    cases l with
    | air => exact absurd rfl other
    | _ => exact begun
  | light =>
    cases l with
    | light => exact absurd rfl other
    | _ => exact begun
  | blind =>
    refine Block.Begun.of_blind other (blindRelease_frame s) ?_
    cases l with
    | blind => exact absurd rfl other
    | _ => exact begun
  | panel =>
    cases l with
    | panel => exact absurd rfl other
    | _ => exact begun
  | alert => cases l <;> exact begun
  | clock | intake | session | counter | peers => exact begun

theorem takeRelease_cleared {k : Block} (cleared : s.isRaised .emergency = false) : (takeRelease k s).isRaised .emergency = false := by
  have closed := closed_otherAlerts s
  have kept := AlertsKept.refl otherAlerts s
  cases k with
  | alert =>
    show (clearAlert .emergency s).isRaised .emergency = false
    rw [isRaised_clear, cleared]
    rfl
  | air => exact (closed.airRelease (by decide) (by decide) kept _ (by decide)).trans cleared
  | blind => exact (closed.blindRelease kept _ (by decide)).trans cleared
  | light | panel | clock | intake | session | counter | peers => exact cleared

theorem takeRelease_clears (s : State) : (takeRelease .alert s).isRaised .emergency = false := by
  show (clearAlert .emergency s).isRaised .emergency = false
  rw [isRaised_clear]
  exact Bool.and_false _

/-! ### The event -/

/-- What the event of the line keeps: the blocks are started, and the Alert Unit holds the state. -/
def Lined (e : Bool) (s : State) : Prop := s.started = true ∧ s.alert.emergency = e

theorem takeAssertion_lined (k : Block) (h : Lined e s) : Lined e (takeAssertion k s) :=
  ⟨(started_of_loader (takeAssertion_frame k s).loader).trans h.1, (takeAssertion_frame k s).emergency.trans h.2⟩

theorem takeRelease_lined (k : Block) (h : Lined e s) : Lined e (takeRelease k s) :=
  ⟨(started_of_loader (takeRelease_frame k s).loader).trans h.1, (takeRelease_frame k s).emergency.trans h.2⟩

/-- The blocks that take the event in a started station. -/
def lineBlocks : List Block := [.air, .light, .blind, .panel, .alert]

theorem assertions_held (h : Lined true s) : ∃ b, Held b (fanOut lineBlocks takeAssertion s) := by
  have begun (k : Block) (mem : k ∈ lineBlocks) : k.Begun true (fanOut lineBlocks takeAssertion s) :=
    fanOut_brings_under (Q := fun _ => True) (P := fun t => k.Begun true t) k (fun _ _ _ => trivial)
      (fun t _ => takeAssertion_begins k t) (fun _ _ other _ begun => takeAssertion_begun (Ne.symm other) begun) mem trivial
  have raised : (fanOut lineBlocks takeAssertion s).isRaised .emergency = true :=
    fanOut_brings (fun t => t.isRaised .emergency = true) _ .alert takeAssertion_raises (fun _ _ => takeAssertion_raised) _ s (by decide)
  obtain ⟨up, asserted⟩ := fanOut_keeps (Lined true) _ (fun k _ => takeAssertion_lined k) lineBlocks s h
  obtain ⟨air, bound⟩ := begun .air (by decide)
  obtain ⟨grant, command, refresh⟩ := bound rfl
  exact ⟨_, ⟨up, asserted, raised, air, (begun .light (by decide)).1, (begun .blind (by decide)).1, (begun .panel (by decide)).1⟩,
    grant, command, refresh, (begun .light (by decide)).2 rfl, (begun .blind (by decide)).2 rfl, (begun .panel (by decide)).2 rfl,
    .refl _ _⟩

theorem releases_minded (h : Lined false s) : Minded false (fanOut lineBlocks takeRelease s) := by
  have begun (k : Block) (mem : k ∈ lineBlocks) : k.Begun false (fanOut lineBlocks takeRelease s) :=
    fanOut_brings_under (Q := fun _ => True) (P := fun t => k.Begun false t) k (fun _ _ _ => trivial)
      (fun t _ => takeRelease_begins k t) (fun _ _ other _ begun => takeRelease_begun (Ne.symm other) begun) mem trivial
  have cleared : (fanOut lineBlocks takeRelease s).isRaised .emergency = false :=
    fanOut_brings (fun t => t.isRaised .emergency = false) _ .alert takeRelease_clears (fun _ _ => takeRelease_cleared) _ s (by decide)
  obtain ⟨up, released⟩ := fanOut_keeps (Lined false) _ (fun k _ => takeRelease_lined k) lineBlocks s h
  exact ⟨up, released, cleared, (begun .air (by decide)).1, (begun .light (by decide)).1, (begun .blind (by decide)).1,
    (begun .panel (by decide)).1⟩

/-! ### Before the blocks are started -/

/-- What a command does in a station whose blocks are not started: it ends the read, moves a field line, or does nothing. -/
theorem effectOf_down {P : State → Prop} (down : s.started = false) {i : Instr}
    (hi : i ∉ [Instr.powerOn, .powerLoss, .debounceTimerExpiry]) (idle : P s) (lines : ∀ v, P (s.setLines v))
    (line : ∀ v w, P ((s.setLines v).setAlert { s.alert with debounce := w }))
    (image : ∀ image, s.loader.phase = .reading → P (judgeImage image s))
    (unread : ∀ n, s.loader.phase = .reading → P (takeMode .fallback none .fallback false (s.setNow n))) : P (effectOf i s) := by
  have deaf (source dest : Byte) (kind : Bool) (effect : State → State) : P (s.onMessage source dest kind effect) :=
    onMessage_keeps (fun accepted _ => nomatch down.symm.trans (started_of_accepts accepted)) idle
  have moves (v : Lines) (effect : State → State) : P ((s.setLines v).whileStarted effect) := by
    rw [whileStarted_not (by exact down)]
    exact lines v
  cases i with
  | powerOn | powerLoss | debounceTimerExpiry => simp at hi
  | readCompletion v =>
    rw [effectOf_readCompletion]
    split
    next reading => exact image v reading
    next => exact idle
  | readTimerExpiry =>
    rw [effectOf_readTimerExpiry]
    split
    next reading =>
      cases s.loader.readTimer with
      | none => exact idle
      | some due => exact unread _ reading
    next => exact idle
  | emergencyLineChange asserted =>
    rw [effectOf_emergencyLineChange]
    exact ite_keeps (line _ _) (lines _)
  | motionPulse input =>
    rw [effectOf_motionPulse]
    exact ite_keeps (by rwa [whileStarted_not down]) idle
  | beamBreak | beamClear | wallSwitch | limitInput => exact moves _ _
  | damperFeedback => exact moves _ (fun s => compareDamper (s.setAir { s.air with feedback := _ }))
  | timeMark | sessionOffer | sessionAmend | sessionCancel | claim | sunReading | feederStart | feederEnd | statusRequest
  | serviceRestart | serviceClear => exact deaf _ _ _ _
  | _ => simp [whileStarted_not down, idle]

/-! ### The law -/

theorem EmergencyLaw.minded (law : EmergencyLaw s) (up : s.started = true) : Minded s.alert.emergency s := by
  obtain ⟨air, light, blind, panel⟩ := law.copies up
  exact ⟨up, rfl, law.alert, air, light, blind, panel⟩

theorem EmergencyLaw.held (law : EmergencyLaw s) (up : s.started = true) (asserted : s.alert.emergency = true) : Held s.bus s := by
  have minded := law.minded up
  obtain ⟨grant, command, refresh⟩ := law.air up asserted
  obtain ⟨hand, backoffs, stopped⟩ := law.blind up asserted
  rw [asserted] at minded
  exact ⟨minded, grant, command, refresh, law.light up asserted, ⟨minded.blind, hand, backoffs, stopped⟩, law.panel up asserted, .refl _ _⟩

theorem Minded.law (h : Minded e s) (bound : e = true → ∃ b, Bound b s) : EmergencyLaw s where
  alert := h.raised.trans h.asserted.symm
  copies _ := ⟨h.air.trans h.asserted.symm, h.light.trans h.asserted.symm, h.blind.trans h.asserted.symm, h.panel.trans h.asserted.symm⟩
  air _ asserted := by
    obtain ⟨_, b⟩ := bound (h.asserted.symm.trans asserted)
    exact ⟨b.grant, b.command, b.refresh⟩
  light _ asserted := by
    obtain ⟨_, b⟩ := bound (h.asserted.symm.trans asserted)
    exact b.light
  blind _ asserted := by
    obtain ⟨_, b⟩ := bound (h.asserted.symm.trans asserted)
    exact b.blind.2
  panel _ asserted := by
    obtain ⟨_, b⟩ := bound (h.asserted.symm.trans asserted)
    exact b.panel

theorem Held.law (h : Held b s) : EmergencyLaw s := h.1.law fun _ => ⟨b, h.2⟩

theorem Minded.released_law (h : Minded false s) : EmergencyLaw s := h.law (nomatch ·)

/-- A station whose blocks are not started is bound to its alert alone. -/
theorem emergencyLaw_of_down (down : s.started = false) (alert : s.isRaised .emergency = s.alert.emergency) : EmergencyLaw s where
  alert := alert
  copies up := nomatch down.symm.trans up
  air up := nomatch down.symm.trans up
  light up := nomatch down.symm.trans up
  blind up := nomatch down.symm.trans up
  panel up := nomatch down.symm.trans up

/-- What every step keeps: the law, and, while the line stays asserted, no CLAIM but those of before and withdrawals. -/
def KeepsLine (s t : State) : Prop :=
  EmergencyLaw t ∧ (s.alert.emergency = true → t.alert.emergency = true → s.bus.NoClaimBut t.bus (some t.withdrawal))

theorem KeepsLine.same (law : EmergencyLaw t) (bus : t.bus = s.bus) : KeepsLine s t := ⟨law, fun _ _ => bus ▸ .refl _ _⟩

theorem modeTaken_raised (phase : Phase) (address : Option Byte) (settings : Settings) (clamped : Bool) (s : State) :
    (modeTaken phase address settings clamped s).isRaised .emergency = s.isRaised .emergency := by
  refine (StationKeeps.offerIdentity_aside _).emergency.trans ?_
  show (alertIs .configClamped clamped (alertIs .configFallback (phase == .fallback) _)).isRaised .emergency = _
  rw [isRaised_alertIs, if_neg (by decide), isRaised_alertIs, if_neg (by decide)]
  rfl

/-- The Bus Port of a start carries nothing but the IDENTITY (R10). -/
theorem modeTaken_claims (phase : Phase) (address : Option Byte) (settings : Settings) (clamped : Bool) (s : State) (b : BusPort)
    (body : Option (List Byte)) : b.NoClaimBut (modeTaken phase address settings clamped s).bus body := by
  intro g claim carried
  rcases (StationKeeps.offerIdentity_aside _).claims g claim carried with before | own
  · exact absurd before (StationKeeps.not_carries_of_empty rfl rfl g)
  · exact nomatch own

theorem takeMode_keepsLine (phase : Phase) (address : Option Byte) (settings : Settings) (clamped : Bool)
    (mode : phase = .normal ∨ phase = .fallback) (raised : s.isRaised .emergency = s.alert.emergency) (r : State) :
    KeepsLine r (takeMode phase address settings clamped s) := by
  have frame := modeTaken_frame phase address settings clamped s
  have ready (b : BusPort) : ReadyForLine s.alert.emergency b (modeTaken phase address settings clamped s) :=
    ⟨(started_of_loader frame.loader).trans (by rcases mode with rfl | rfl <;> rfl), frame.emergency,
      (modeTaken_raised phase address settings clamped s).trans raised, fun _ => modeTaken_claims _ _ _ _ _ _ _⟩
  rw [takeMode_eq]
  cases line : s.alert.emergency with
  | false =>
    have minded := takeStarts_minded (line ▸ ready r.bus)
    exact ⟨minded.released_law, fun _ asserted => nomatch minded.asserted.symm.trans asserted⟩
  | true =>
    have held := takeStarts_held (line ▸ ready r.bus)
    exact ⟨held.law, fun _ _ => held.2.claims⟩

theorem emergencyLaw_of_reset (phase : s.started = false) (raised : s.alert.raised = 0#12) (released : s.alert.emergency = false) :
    EmergencyLaw s := emergencyLaw_of_down phase (by
  rw [State.isRaised, raised, released]
  rfl)

theorem settleEmergency_keepsLine (law : EmergencyLaw s) : KeepsLine s (settleEmergency s) := by
  by_cases differs : s.lines.emergency = s.alert.emergency
  · rw [settleEmergency_of_same differs]
    exact .same ⟨law.alert, law.copies, law.air, law.light, law.blind, law.panel⟩ rfl
  · have frame := settleEmergency_frame s
    have line : (settleEmergency s).alert.emergency = s.lines.emergency := frame.emergency
    refine ⟨?_, fun asserted stays => absurd (line.symm.trans (stays.trans asserted.symm)) differs⟩
    cases up : s.started with
    | false =>
      refine emergencyLaw_of_down ((started_of_loader frame.loader).trans up) ?_
      rw [line, settleEmergency_of_unstarted differs up]
      cases s.lines.emergency with
      | true => exact takeAssertion_raises _
      | false => exact takeRelease_clears _
    | true =>
      have blocks : s.emergencyBlocks = lineBlocks := if_pos up
      rw [settleEmergency_of_differs differs, blocks]
      cases raw : s.lines.emergency with
      | true =>
        obtain ⟨b, held⟩ := assertions_held (s := s.setAlert { s.alert with debounce := none, emergency := true }) ⟨up, rfl⟩
        exact held.law
      | false =>
        exact (releases_minded (s := s.setAlert { s.alert with debounce := none, emergency := false }) ⟨up, rfl⟩).released_law

theorem effectOf_keepsLine (i : Instr) (law : EmergencyLaw s) : KeepsLine s (effectOf i s) := by
  by_cases hi : i ∈ [Instr.powerOn, .powerLoss, .debounceTimerExpiry]
  · simp only [List.mem_cons, List.not_mem_nil, or_false] at hi
    rcases hi with rfl | rfl | rfl
    · rw [effectOf_powerOn]
      rcases powerUp_cases s with e | e <;> rw [e]
      · exact .same law rfl
      · exact ⟨emergencyLaw_of_reset rfl rfl rfl, fun _ asserted => nomatch asserted⟩
    · rw [effectOf_powerLoss]
      exact ⟨emergencyLaw_of_reset rfl rfl rfl, fun _ asserted => nomatch asserted⟩
    · rw [effectOf_debounceTimerExpiry]
      refine ite_keeps (P := KeepsLine s) ?_ (.same law rfl)
      refine onExpiry_keeps (P := KeepsLine s) (fun due _ => ?_) (.same law rfl)
      have later : EmergencyLaw (s.setNow (max s.now due)) := ⟨law.alert, law.copies, law.air, law.light, law.blind, law.panel⟩
      exact settleEmergency_keepsLine later
  · cases up : s.started with
    | false =>
      have still {t : State} (phase : t.loader = s.loader) (alert : t.isRaised .emergency = s.isRaised .emergency)
          (line : t.alert.emergency = s.alert.emergency) (bus : t.bus = s.bus) : KeepsLine s t :=
        .same (emergencyLaw_of_down ((started_of_loader phase).trans up) (alert.trans (law.alert.trans line.symm))) bus
      refine effectOf_down (P := KeepsLine s) up hi (.same law rfl) (fun _ => still ?_ ?_ ?_ ?_) (fun _ _ => still ?_ ?_ ?_ ?_)
        (fun image _ => ?_) (fun n _ => takeMode_keepsLine _ _ _ _ (.inr rfl) (by exact law.alert) s)
      iterate 8 rfl
      exact judgeImage_elim (P := KeepsLine s) image s fun _ _ _ _ _ mode => takeMode_keepsLine _ _ _ _ mode law.alert s
    | true =>
      cases line : s.alert.emergency with
      | false =>
        have minded := (minded_stationKeeps false).lives.effectOf i hi s (line ▸ law.minded up)
        exact ⟨minded.released_law, fun asserted => nomatch line.symm.trans asserted⟩
      | true =>
        have held := (held_stationKeeps s.bus).lives.effectOf i hi s (law.held up line)
        exact ⟨held.law, fun _ _ => held.2.claims⟩

theorem step_keepsLine (law : EmergencyLaw s) (stepped : step s = .next t) : KeepsLine s t := by
  have moved {u : State} (same : EmergencyLaw u) (bus : u.bus = s.bus) (line : u.alert.emergency = s.alert.emergency) (c : Instr) :
      KeepsLine s (effectOf c u) := by
    obtain ⟨after, claims⟩ := effectOf_keepsLine c same
    exact ⟨after, fun asserted stays => bus ▸ claims (line.trans asserted) stays⟩
  have queues {u : State} (law : EmergencyLaw u) (v : List Instr) : EmergencyLaw (u.setPending v) ∧ EmergencyLaw (u.setInbox v) :=
    ⟨⟨law.alert, law.copies, law.air, law.light, law.blind, law.panel⟩, law.alert, law.copies, law.air, law.light, law.blind, law.panel⟩
  rcases step_cases s with ⟨c, rest, e⟩ | ⟨c, rest, e⟩ | ⟨c, e⟩ | e <;> rw [e] at stepped <;> cases stepped
  · exact moved (queues law rest).1 rfl rfl c
  · exact moved (queues law rest).2 rfl rfl c
  · exact effectOf_keepsLine c law
  · unfold State.tick
    refine ite_keeps (P := KeepsLine s) (.same ?_ rfl) (.same law rfl)
    exact ⟨law.alert, law.copies, law.air, law.light, law.blind, law.panel⟩

/-- Settles O56: while the line is asserted every block's event leaves the room bound and offers no CLAIM but a withdrawal; the event of
the line and the start of the blocks bind it or free it in every order of the blocks. -/
theorem everyStepKeepsTheEmergencyLaw : Obligations.EveryStepKeepsTheEmergencyLaw := by
  intro s t law stepped
  obtain ⟨after, claims⟩ := step_keepsLine law stepped
  refine ⟨after, fun asserted stays f claim carried => (claims asserted stays f claim carried).imp_right fun body => ?_⟩
  exact (Option.some.inj body).symm

end Sys2Proof.Machine
end

section
/-!
PROOFS. A policy event, and the end of the dwell (R148, R149).
-/

namespace Sys2Proof.Machine

variable {s : State}

/-- The wanted target of a state (R148). -/
def State.wanted (s : State) : Nat := s.blind.wantedNow s.loader.settings.park

/-- A policy event, by what it finds (R149). -/
theorem policyEvent_eq (glare : Bool) (s : State) :
    policyEvent glare s =
      if s.blind.emergency then s.setBlind { s.blind with wanted := s.wanted }
      else if s.wanted = s.blind.applied then s.setBlind { s.blind with wanted := s.wanted, latched := false }
      else if glare ∧ s.blind.regime = .inSession ∧ s.blind.dwellTimer.isSome then
        s.setBlind { s.blind with wanted := s.wanted, latched := true }
      else applyWanted (rework s) := rfl

theorem policyEvent_of_asserted (asserted : s.blind.emergency = true) (glare : Bool) :
    policyEvent glare s = s.setBlind { s.blind with wanted := s.wanted } := by
  rw [policyEvent_eq, if_pos asserted]

theorem policyEvent_of_equal (released : s.blind.emergency = false) (equal : s.wanted = s.blind.applied) (glare : Bool) :
    policyEvent glare s = s.setBlind { s.blind with wanted := s.wanted, latched := false } := by
  rw [policyEvent_eq, if_neg (by simp [released]), if_pos equal]

theorem policyEvent_of_latched (released : s.blind.emergency = false) (differs : s.wanted ≠ s.blind.applied)
    (session : s.blind.regime = .inSession) (dwells : s.blind.dwellTimer ≠ none) :
    policyEvent true s = s.setBlind { s.blind with wanted := s.wanted, latched := true } := by
  rw [policyEvent_eq, if_neg (by simp [released]), if_neg differs, if_pos ⟨rfl, session, Option.isSome_iff_ne_none.2 dwells⟩]

theorem policyEvent_of_applied (released : s.blind.emergency = false) (differs : s.wanted ≠ s.blind.applied) {glare : Bool}
    (free : glare = false ∨ s.blind.regime ≠ .inSession ∨ s.blind.dwellTimer = none) :
    policyEvent glare s = applyWanted (rework s) := by
  rw [policyEvent_eq, if_neg (by simp [released]), if_neg differs, if_neg ?_]
  rintro ⟨glares, session, dwells⟩
  rcases free with still | other | none
  · exact nomatch glares.symm.trans still
  · exact other session
  · exact nomatch none ▸ dwells

/-- The state in which a target has been applied and the drives have yet to take it (R149). -/
def State.applying (s : State) (target : Nat) : State :=
  s.setBlind { s.blind with wanted := target, applied := target, latched := false, dwellTimer := some (s.now + 600000) }

theorem applyWanted_rework (s : State) : applyWanted (rework s) = takeTargets (s.applying s.wanted) := rfl

/-- What the taking of an applied target leaves (R149, R154). -/
theorem takeTargets_applying (s : State) (target : Nat) :
    BlindFrame s (takeTargets (s.applying target)) ∧ AlertsKept [] s (takeTargets (s.applying target)) ∧
      (takeTargets (s.applying target)).blind.applied = target ∧ (takeTargets (s.applying target)).blind.wanted = target ∧
      (takeTargets (s.applying target)).blind.latched = false ∧
      (takeTargets (s.applying target)).blind.dwellTimer = some (s.now + 600000) := by
  have policy : (takeTargets (s.applying target)).blind.policy = (s.applying target).blind.policy := takeTargets_policy _
  have frame : BlindFrame s (s.applying target) := .setBlind s _ rfl
  have closed := alertsKept_closed [] s
  exact ⟨frame.trans (takeTargets_frame _), closed.takeTargets (closed.blind _ (.refl _ s)), (congrArg Blind.applied policy :),
    (congrArg Blind.wanted policy :), (congrArg Blind.latched policy :), (congrArg Blind.dwellTimer policy :)⟩

/-- The end of the dwell, by what it finds (R149). -/
theorem endDwell_eq (s : State) :
    endDwell s =
      if s.blind.latched ∧ s.blind.emergency = false ∧ s.blind.wanted ≠ s.blind.applied then takeTargets (s.applying s.blind.wanted)
      else s.setBlind { s.blind with dwellTimer := none, latched := false } := rfl

/-- Settles O44: the cases of a policy event and of the end of the dwell, and what taking a target leaves of the policy. -/
theorem dwellEnds : Obligations.DwellEnds := by
  refine ⟨?_, ?_⟩
  · rintro s t glare w rfl rfl
    refine ⟨fun asserted => policyEvent_of_asserted asserted glare, fun released => ⟨fun equal => policyEvent_of_equal released equal glare,
      fun differs glares session dwells => ?_, fun differs free => ?_⟩⟩
    · subst glares
      exact policyEvent_of_latched released differs session dwells
    · rw [policyEvent_of_applied released differs free, applyWanted_rework]
      exact ⟨rfl, takeTargets_applying s _⟩
  · rintro s due n up runs rfl
    have ends := exec_of_expiry (timer := (·.blind.dwellTimer)) (effectOf_dwellTimerExpiry s) up runs
    refine ⟨fun stays => ?_, fun latched released differs => ⟨_, ends, ?_⟩⟩
    · rw [ends, endDwell_eq, if_neg ?_]
      · rfl
      · rintro ⟨latched, released, differs⟩
        rcases stays with unlatched | asserted | equal
        · exact nomatch latched.symm.trans unlatched
        · exact nomatch released.symm.trans asserted
        · exact differs equal
    · rw [endDwell_eq, if_pos (by exact ⟨latched, released, differs⟩)]
      exact takeTargets_applying (s.setNow (max s.now due)) _

end Sys2Proof.Machine
end

section
/-!
PROOFS. What a stop does (R153), and the drives' plans and the taking of a target (R148, R151, R152, R154).
-/

namespace Sys2Proof.Machine

variable {s t : State}

/-! ### Offers and the room's blocks -/

/-- An offer looks at the Bus Port and the Loader alone. -/
theorem offer_setBlind (f : Frame) (b : Blind) (s : State) : offer f (s.setBlind b) = (offer f s).setBlind b := by
  unfold offer offerAnswered
  rw [show (s.setBlind b).takesOffer f.kind = s.takesOffer f.kind from rfl]
  split <;> rfl

/-! ### A stop (R153) -/

section Numbered

variable {α : Type} {xs : List α} {n : Nat} {x y : α}

theorem countP_put (at_n : pick? xs n = some y) (p : α → Bool) :
    (put xs n x).countP p + (if p y then 1 else 0) = xs.countP p + (if p x then 1 else 0) := by
  obtain ⟨first, inside⟩ := pick?_eq_some_iff.1 at_n
  obtain ⟨lt, rfl⟩ := List.getElem?_eq_some_iff.1 inside
  obtain ⟨k, rfl⟩ : ∃ k, n = k + 1 := ⟨n - 1, by omega⟩
  have counted : (if p xs[k] then 1 else 0) ≤ xs.countP p := by
    split
    next holds => exact List.countP_pos_iff.2 ⟨_, List.getElem_mem _, holds⟩
    next => exact Nat.zero_le _
  show (xs.set k x).countP p + _ = _
  rw [List.countP_set (by simpa using lt)]
  simp only [Nat.add_sub_cancel]
  omega

theorem put_put (xs : List α) (n : Nat) (x y : α) : put (put xs n x) n y = put xs n y := by
  cases n with
  | zero => rfl
  | succ n => exact List.set_set ..

end Numbered

theorem runningCount_eq (b : Blind) : b.runningCount = b.drives.countP (·.state == .running) := length_numbersOf _ _

/-- A stop takes one from the count of RUNNING drives. -/
theorem runningCount_halt {b : Blind} {n : Nat} {d d' : Drive} (fitted : pick? b.drives n = some d) (runs : d.state = .running)
    (stopped : d'.state ≠ .running) : ({ b with drives := put b.drives n d' } : Blind).runningCount + 1 = b.runningCount := by
  have count := countP_put (x := d') fitted (·.state == .running)
  rw [runningCount_eq, runningCount_eq]
  simpa [runs, stopped] using count

/-- What a stop leaves of the whole station: the drive's record, a FEEDER END on a façade, and the harvest hold. -/
structure Halts (s : State) (number : Nat) (d : Drive) (t : State) : Prop extends BlindFrame s t where
  alerts : AlertsKept [] s t
  blind : t.blind = { s.blind with drives := put s.blind.drives number d }
  bus : t.bus = (if s.loader.settings.facade = 0 then s.bus
    else (offer (Frame.plain .feederEnd broadcast [byte s.loader.settings.facade, 1]) s).bus)
  hold : t.light.hold = (if s.blind.runningCount = 1 ∧ s.light.hold = .held then .releasing (s.now + 10000) else s.light.hold)

theorem announceHalt_bus (b : Blind) (s : State) :
    (announceHalt (s.setBlind b)).bus = (if s.loader.settings.facade = 0 then s.bus
      else (offer (Frame.plain .feederEnd broadcast [byte s.loader.settings.facade, 1]) s).bus) := by
  unfold announceHalt
  split
  next none => rw [if_pos (by exact none)]; rfl
  next facade =>
    rw [if_neg (by exact facade)]
    exact (congrArg State.bus (offer_setBlind (Frame.plain .feederEnd broadcast [byte s.loader.settings.facade, 1]) b s) :)

theorem hearHalt_bus (s : State) : (hearHalt s).bus = s.bus := by
  unfold hearHalt
  split
  · exact (motionStopped_only s).bus
  · rfl

theorem motionStopped_hold (s : State) :
    (motionStopped s).light.hold = if s.light.hold = .held then .releasing (s.now + 10000) else s.light.hold := by
  unfold motionStopped withLight
  simp only [State.setLight_light]
  cases hold : s.light.hold with
  | held => rfl
  | off | releasing => simp [hold]

theorem haltDrive_halts {number : Nat} {d : Drive} (fitted : pick? s.blind.drives number = some d) (runs : d.state = .running)
    (position : Option Nat) : Halts s number (d.halt position) (haltDrive number position s) := by
  have blind := (haltDrive_blind number position s).trans (Blind.mapDrive_of_fitted fitted _)
  have mapped : withBlind (·.mapDrive number (·.halt position)) s =
      s.setBlind { s.blind with drives := put s.blind.drives number (d.halt position) } :=
    congrArg s.setBlind (Blind.mapDrive_of_fitted fitted _)
  refine ⟨haltDrive_frame number position s, (alertsKept_closed [] s).haltDrive number position (.refl _ s), blind, ?_, ?_⟩
  · unfold haltDrive
    rw [hearHalt_bus, mapped, announceHalt_bus]
  · have count := runningCount_halt fitted runs (d' := d.halt position) (by exact (nomatch ·))
    have quiet := announceHalt_frame (s.setBlind { s.blind with drives := put s.blind.drives number (d.halt position) })
    unfold haltDrive
    rw [mapped]
    unfold hearHalt
    rw [quiet.blind, State.setBlind_blind]
    by_cases last : s.blind.runningCount = 1
    · rw [if_pos (Nat.succ.inj (count.trans last)), motionStopped_hold, quiet.light, quiet.now]
      simp only [last, true_and]
      rfl
    · rw [if_neg (fun zero => last (count.symm.trans (congrArg Nat.succ zero))), quiet.light, if_neg (fun both => last both.1)]
      rfl

/-- A stopped drive takes the applied target again (R153, R154). -/
theorem Halts.retake {number : Nat} {d e : Drive} (h : Halts s number e t) (fitted : pick? s.blind.drives number = some d) :
    Halts s number { e with state := e.idleState s.blind.applied } (retake number t) := by
  have held : pick? t.blind.drives number = some e := by
    rw [h.blind]
    exact pick?_put_same fitted
  have blind : (Machine.retake number t).blind = t.blind.mapDrive number fun d => { d with state := d.idleState t.blind.applied } := rfl
  refine ⟨h.toBlindFrame.trans (retake_frame number t), fun a touched => h.alerts a touched, ?_, h.bus, h.hold⟩
  rw [blind, Blind.mapDrive_of_fitted held, h.blind]
  show ({ s.blind with drives := put (put s.blind.drives number e) number _ } : Blind) = _
  rw [put_put]

/-! ### The taking of a target (R154) -/

section Taking

variable {number : Nat} {d : Drive}

theorem retake_eq (fitted : pick? s.blind.drives number = some d) :
    retake number s = s.setBlind { s.blind with
      drives := put s.blind.drives number { d with state := d.idleState s.blind.applied } } :=
  congrArg s.setBlind (Blind.mapDrive_of_fitted fitted _)

theorem idleState_of_service (service : d.inService = true) (target : Nat) :
    d.idleState target = if d.needsRun target then .waitStage else .stopped := by
  rw [Drive.idleState, service, Bool.true_and]

theorem takeTarget_of_out (fitted : pick? s.blind.drives number = some d) (out : d.inService = false) : takeTarget number s = s := by
  rw [takeTarget, fitted]
  exact if_pos (by simp [out])

theorem takeTarget_of_idle (fitted : pick? s.blind.drives number = some d) (service : d.inService = true)
    (idle : d.state = .stopped ∨ d.state = .waitStage) : takeTarget number s = retake number s := by
  rw [takeTarget, fitted]
  dsimp only
  rw [if_neg (by simp [service])]
  rcases idle with e | e <;> rw [e]

theorem takeTarget_of_waiting (fitted : pick? s.blind.drives number = some d) (service : d.inService = true)
    (waits : d.state = .waitFeeder) :
    takeTarget number s = if d.needsRun s.blind.applied then s else
      s.setBlind { s.blind with drives := put s.blind.drives number (d.release .stopped) } := by
  rw [takeTarget, fitted]
  dsimp only
  rw [if_neg (by simp [service]), waits]
  dsimp only
  rw [withBlind, Blind.mapDrive_of_fitted fitted]

theorem takeTarget_of_settling {group : Nat} (fitted : pick? s.blind.drives number = some d) (service : d.inService = true)
    (settles : d.state = .settling) (grouped : d.group = some group) :
    takeTarget number s =
      if (s.blind.drives.filter (fun d => d.group == some group && d.state == .settling)).all (·.keepsPlan s.blind.applied) then s
      else withdrawGroup group s := by
  rw [takeTarget, fitted]
  dsimp only
  rw [if_neg (by simp [service]), settles, grouped]

theorem takeTarget_of_running {r : Run} (fitted : pick? s.blind.drives number = some d) (service : d.inService = true)
    (runs : d.state = .running) (run : d.run = some r) :
    takeTarget number s = if r.kind = .reference ∨ r.goal = s.blind.applied then s
      else retake number (haltDrive number (d.estimate s.now) s) := by
  rw [takeTarget, fitted]
  dsimp only
  rw [if_neg (by simp [service]), runs, run]

end Taking

/-! ### A SETTLING group that is withdrawn (R154) -/

/-- The drives as a withdrawn group leaves them. -/
def withdrawn (group target : Nat) (drives : List Drive) : List Drive :=
  drives.map (fun d => if d.group = some group ∧ d.state = .settling then d.release (d.idleState target) else d)

theorem withdrawGroup_eq (group : Nat) (s : State) :
    withdrawGroup group s = (dropHand s).setBlind { (dropHand s).blind with
      drives := withdrawn group (dropHand s).blind.applied (dropHand s).blind.drives } := by
  unfold withdrawGroup withdrawn withBlind
  simp only [Bool.and_eq_true, beq_iff_eq]

theorem dropHand_of_awaiting {group drives tag : Nat} (hand : s.blind.hand = .awaiting group drives tag) :
    dropHand s = s.setBlind { s.blind with hand := .nothing, orphans := s.blind.orphans ++ [{ tag := tag, drives := drives }] } := by
  rw [dropHand, hand]
  rfl

theorem dropHand_of_window {group drives held lower opened due : Nat} (hand : s.blind.hand = .window group drives held lower opened due) :
    dropHand s = (offer (Frame.plain .feederEnd broadcast [byte s.loader.settings.facade, byte drives]) s).setBlind
      { s.blind with hand := .nothing } := by
  rw [dropHand, hand, ← offer_setBlind]
  rfl

theorem keepsPlan_iff (d : Drive) (target : Nat) :
    d.keepsPlan target = true ↔ ∃ r r', d.run = some r ∧ d.plan target = some r' ∧ r.kind = r'.kind ∧ r.up = r'.up ∧ r.goal = r'.goal := by
  unfold Drive.keepsPlan
  cases run : d.run with
  | none => simp
  | some r =>
    cases plan : d.plan target with
    | none => simp
    | some r' => simp [and_assoc]

end Sys2Proof.Machine
end

section
/-!
PROOFS. The wanted target, the glare state, the planned run and its estimate (R147, R148, R151, R152), and the taking of a target by
each drive state (R154).
-/

namespace Sys2Proof.Machine

variable {s : State}

/-! ### The wanted target (R148) -/

section Wanted

variable {b : Blind} {park : Nat}

theorem wantedNow_of_override {t : Nat} (held : b.override = some t) : b.wantedNow park = t := by rw [Blind.wantedNow, held]

/-- The rows of R148 below the override. -/
theorem wantedNow_of_none (none : b.override = none) :
    b.wantedNow park = if b.regime = .inSession ∧ b.mode = some .screen then 100
      else if b.glaring ∧ (b.regime = .inSession ∨ b.regime = .prepare ∨ b.vacant = false) then 80
      else if b.regime = .standby ∧ b.vacant then park else 0 := by rw [Blind.wantedNow, none]

/-- A room that is not at rest is in a session, prepares for one, or is occupied. -/
theorem atWork_iff : (b.regime = .inSession ∨ b.regime = .prepare ∨ b.vacant = false) ↔ ¬(b.regime = .standby ∧ b.vacant = true) := by
  cases b.regime <;> cases b.vacant <;> decide

theorem wantedNow_rows (none : b.override = none) :
    (b.regime = .inSession → b.mode = some .screen → b.wantedNow park = 100) ∧
      (¬(b.regime = .inSession ∧ b.mode = some .screen) →
        (b.glaring = true → b.regime ≠ .standby ∨ b.vacant = false → b.wantedNow park = 80) ∧
        (b.regime = .standby → b.vacant = true → b.wantedNow park = park) ∧
        (b.glaring = false → ¬(b.regime = .standby ∧ b.vacant = true) → b.wantedNow park = 0)) := by
  rw [wantedNow_of_none none]
  refine ⟨fun session screen => if_pos ⟨session, screen⟩, fun other => ?_⟩
  rw [if_neg other]
  refine ⟨fun glares works => ?_, fun standby vacant => ?_, fun dull works => ?_⟩
  · refine if_pos ⟨glares, atWork_iff.2 ?_⟩
    rintro ⟨standby, vacant⟩
    rcases works with session | occupied
    · exact session standby
    · exact nomatch vacant.symm.trans occupied
  · rw [if_neg (fun row => atWork_iff.1 row.2 ⟨standby, vacant⟩), if_pos ⟨standby, vacant⟩]
  · rw [if_neg (by simp [dull]), if_neg works]

end Wanted

/-! ### Plans and estimates (R151, R152) -/

section Plans

variable {d : Drive} {target p : Nat}

theorem plan_of_unknown (unknown : d.position = none) :
    d.plan target = some { kind := .reference, up := true, goal := 0, origin := none, length := (d.travel * 125 + 9) / 10 } := by
  rw [Drive.plan, unknown]
  rfl

theorem needsRun_iff (known : d.position = some p) : d.needsRun target = true ↔ target + 3 < p ∨ p + 3 < target := by
  rw [Drive.needsRun, known]
  simp only [decide_eq_true_eq]
  omega

theorem plan_of_near (known : d.position = some p) (above : p ≤ target + 3) (below : target ≤ p + 3) : d.plan target = none := by
  have near : ¬d.needsRun target = true := fun far => by
    have := (needsRun_iff known).1 far
    omega
  rw [Drive.plan, known]
  exact if_neg near

theorem plan_of_end (known : d.position = some p) (far : target + 3 < p ∨ p + 3 < target) (atEnd : target = 0 ∨ target = 100) :
    d.plan target = some { kind := .endRun, up := decide (target < p), goal := target, origin := some p
                           length := (d.travel * 125 + 9) / 10 } := by
  rw [Drive.plan, known]
  dsimp only
  rw [if_pos ((needsRun_iff known).2 far), if_pos atEnd]
  rfl

theorem plan_of_middle (known : d.position = some p) (far : target + 3 < p ∨ p + 3 < target) (top : target ≠ 0) (bottom : target ≠ 100) :
    d.plan target = some { kind := .intermediate, up := decide (target < p), goal := target, origin := some p
                           length := (((p - target) + (target - p)) * d.travel * 10 + 99) / 100 } := by
  rw [Drive.plan, known]
  dsimp only
  rw [if_pos ((needsRun_iff known).2 far), if_neg (not_or.2 ⟨top, bottom⟩)]
  rfl

/-- A drive needs a run exactly where one is planned. -/
theorem needsRun_eq_plan (d : Drive) (target : Nat) : d.needsRun target = (d.plan target).isSome := by
  cases known : d.position with
  | none => rw [plan_of_unknown known, Drive.needsRun, known]; rfl
  | some p =>
    by_cases far : target + 3 < p ∨ p + 3 < target
    · rw [(needsRun_iff known).2 far]
      by_cases atEnd : target = 0 ∨ target = 100
      · rw [plan_of_end known far atEnd]
        rfl
      · rw [plan_of_middle known far (fun top => atEnd (.inl top)) (fun bottom => atEnd (.inr bottom))]
        rfl
    · rw [plan_of_near known (by omega) (by omega), Bool.eq_false_iff.2 fun needs => far ((needsRun_iff known).1 needs)]
      rfl

/-- The change estimated is the one rounded to nearest, a half rounded up (R151). -/
theorem travelled_eq {travel tenths change : Nat} (least : 2 * change * (travel * 10) ≤ 2 * (tenths * 100) + travel * 10)
    (most : 2 * (tenths * 100) + travel * 10 < 2 * (change + 1) * (travel * 10)) : travelled travel tenths = change := by
  refine Nat.div_eq_of_lt_le ?_ ?_
  · calc change * (2 * (travel * 10)) = 2 * change * (travel * 10) := by ring
      _ ≤ _ := least
  · calc 2 * (tenths * 100) + travel * 10 < 2 * (change + 1) * (travel * 10) := most
      _ = (change + 1) * (2 * (travel * 10)) := by ring

theorem estimate_of_reference {r : Run} (run : d.run = some r) (reference : r.kind = .reference) (now : Nat) : d.estimate now = none := by
  rw [Drive.estimate, run]
  dsimp only
  rw [reference]

theorem estimate_of_run {r : Run} (run : d.run = some r) (other : r.kind ≠ .reference) (origin : r.origin = some p) (now : Nat) :
    d.estimate now = some (if r.up then p - travelled d.travel ((now - d.since) / 100)
      else min 100 (p + travelled d.travel ((now - d.since) / 100))) := by
  rw [Drive.estimate, run]
  dsimp only
  rw [origin]
  cases kind : r.kind with
  | reference => exact absurd kind other
  | intermediate | endRun => rfl

end Plans

/-! ### The taking of a target (R154) -/

theorem allNumbers_eq {α : Type} (xs : List α) : numbersOf xs (fun _ => true) = List.range' 1 xs.length := by
  have every : (List.range xs.length).filter (fun i => (xs[i]?.map fun _ => true).getD false) = List.range xs.length := by
    refine List.filter_eq_self.2 fun i mem => ?_
    rw [List.getElem?_eq_getElem (List.mem_range.1 mem)]
    rfl
  rw [numbersOf, every, List.range'_eq_map_range]
  simp only [Nat.add_comm]

/-- A drive that is stopped to take another target: what the whole station holds after. -/
theorem takeTarget_stops {number : Nat} {d : Drive} {r : Run} (fitted : pick? s.blind.drives number = some d) (service : d.inService = true)
    (runs : d.state = .running) (run : d.run = some r) (other : r.kind ≠ .reference) (elsewhere : r.goal ≠ s.blind.applied) :
    Halts s number { d.halt (d.estimate s.now) with state := (d.halt (d.estimate s.now)).idleState s.blind.applied }
      (takeTarget number s) := by
  rw [takeTarget_of_running fitted service runs run, if_neg (not_or.2 ⟨other, elsewhere⟩)]
  exact (haltDrive_halts fitted runs _).retake fitted

/-- A SETTLING group is kept where every drive's plan is. -/
theorem settling_kept_iff (b : Blind) (group target : Nat) :
    (b.drives.filter (fun d => d.group == some group && d.state == .settling)).all (·.keepsPlan target) = true ↔
      ∀ e ∈ b.drives, ¬(e.group = some group ∧ e.state = .settling ∧ ¬∃ r r', e.run = some r ∧ e.plan target = some r' ∧
        r.kind = r'.kind ∧ r.up = r'.up ∧ r.goal = r'.goal) := by
  simp only [List.all_eq_true, List.mem_filter, Bool.and_eq_true, beq_iff_eq, and_imp, keepsPlan_iff, not_and, not_not]

/-- Settles O43: the rows of R148, the plan by position and target, and the taking of a target by the drive's state. -/
theorem targetsAndRunsArePlanned : Obligations.TargetsAndRunsArePlanned := by
  refine ⟨fun b park glare held => ⟨fun t => wantedNow_of_override, wantedNow_rows, fun high => if_pos high,
      fun low => (if_neg (by omega)).trans (if_pos low), fun above below => (if_neg (by omega)).trans (if_neg (by omega))⟩,
    fun d target _ => ⟨plan_of_unknown, fun p known => ⟨plan_of_near known, plan_of_end known, plan_of_middle known⟩, needsRun_eq_plan d target⟩,
    fun d r now p tenths change run => ⟨fun reference => estimate_of_reference run reference now, fun other origin tenths least most => ?_⟩,
    fun s => ?_, fun s t number d fitted taken => ⟨fun out => taken.trans (takeTarget_of_out fitted out), fun service =>
      ⟨fun idle => ?_, fun waits => ⟨fun needs => ?_, fun rests => ?_⟩, fun r runs run => ⟨fun stays => ?_, fun other elsewhere e he => ?_⟩,
        fun group b changed settles grouped hc hb => ⟨fun kept => ?_, fun broken => ⟨fun drives tag hand => ?_,
          fun drives held lower opened due hand => ?_⟩⟩⟩⟩⟩
  · subst tenths
    rw [estimate_of_run run other origin, travelled_eq least most]
  · rw [takeTargets, allNumbers_eq]
  · rw [taken, takeTarget_of_idle fitted service idle, retake_eq fitted, idleState_of_service service]
  · rw [taken, takeTarget_of_waiting fitted service waits, if_pos needs]
  · rw [taken, takeTarget_of_waiting fitted service waits, if_neg (by simp [rests])]
    rfl
  · rw [taken, takeTarget_of_running fitted service runs run, if_pos stays]
  · subst he taken
    obtain ⟨frame, alerts, blind, bus, hold⟩ := takeTarget_stops fitted service runs run other elsewhere
    rw [idleState_of_service (by exact service)] at blind
    exact ⟨frame, alerts, blind, bus, hold⟩
  · subst hc taken
    rw [takeTarget_of_settling fitted service settles grouped, if_pos ((settling_kept_iff _ _ _).2 kept)]
  all_goals
    subst hc hb taken
    have left : ¬(s.blind.drives.filter (fun d => d.group == some group && d.state == .settling)).all (·.keepsPlan s.blind.applied) = true := by
      obtain ⟨e, mem, breaks⟩ := broken
      exact fun kept => (settling_kept_iff _ _ _).1 kept e mem breaks
    rw [takeTarget_of_settling fitted service settles grouped, if_neg left, withdrawGroup_eq]
  · rw [dropHand_of_awaiting hand]
    rfl
  · rw [dropHand_of_window hand]
    rfl

end Sys2Proof.Machine
end

section
/-!
PROOFS. Own sun readings, the median of the fresh set, their sending and their loss (R102, R143 to R148).
-/

namespace Sys2Proof.Machine

/-! ### The median (R145) -/

section Median

theorem insertAscending_eq (n : Nat) (ns : List Nat) : insertAscending n ns = ns.orderedInsert (· ≤ ·) n := by
  induction ns with
  | nil => rfl
  | cons m ms ih => rw [insertAscending, ih]; rfl

theorem ascending_eq (ns : List Nat) : ascending ns = ns.insertionSort (· ≤ ·) := by
  induction ns with
  | nil => rfl
  | cons n ns ih => exact (insertAscending_eq n (ascending ns)).trans (congrArg (List.orderedInsert (· ≤ ·) n) ih)

theorem ascending_perm (ns : List Nat) : (ascending ns).Perm ns := by
  rw [ascending_eq]
  exact List.perm_insertionSort _ ns

theorem ascending_pairwise (ns : List Nat) : (ascending ns).Pairwise (· ≤ ·) := by
  rw [ascending_eq]
  exact List.pairwise_insertionSort _ ns

theorem getElem?_ascending {ns : List Nat} {i : Nat} (inside : i < ns.length) :
    (ascending ns)[i]? = some ((ascending ns).getD i 0) := by
  have within : i < (ascending ns).length := (ascending_perm ns).length_eq ▸ inside
  rw [List.getD_eq_getElem _ _ within, List.getElem?_eq_getElem within]

theorem median_of_odd {ns : List Nat} (odd : ns.length % 2 = 1) : median ns = (ascending ns).getD (ns.length / 2) 0 := if_pos odd

theorem median_of_even {ns : List Nat} (even : ns.length % 2 = 0) :
    median ns = ((ascending ns).getD (ns.length / 2 - 1) 0 + (ascending ns).getD (ns.length / 2) 0) / 2 := if_neg (by omega)

theorem median_middle {ns : List Nat} (some_sun : ns ≠ []) :
    ∃ sorted : List Nat, sorted.Perm ns ∧ sorted.Pairwise (· ≤ ·) ∧
      (ns.length % 2 = 1 → sorted[ns.length / 2]? = some (median ns)) ∧
      (ns.length % 2 = 0 → ∃ a b, sorted[ns.length / 2 - 1]? = some a ∧ sorted[ns.length / 2]? = some b ∧
        median ns = (a + b) / 2) := by
  have long : 0 < ns.length := List.length_pos_of_ne_nil some_sun
  refine ⟨ascending ns, ascending_perm ns, ascending_pairwise ns, fun odd => ?_, fun even => ?_⟩
  · rw [median_of_odd odd, getElem?_ascending (by omega)]
  · exact ⟨_, _, getElem?_ascending (by omega), getElem?_ascending (by omega), median_of_even even⟩

end Median

theorem PeerTable.freshSuns_eq (t : PeerTable) : t.freshSuns = t.slots.filterMap (fun slot => match slot with
    | some p => if p.age = 0 ∨ p.age = 1 then p.sun else none
    | none => none) := by
  refine List.filterMap_congr fun slot _ => ?_
  cases slot with
  | none => rfl
  | some p =>
    have young : p.age ≤ 1 ↔ p.age = 0 ∨ p.age = 1 := by omega
    simp [young]

/-! ### The glare value (R145 to R147) -/

section Glare

variable {s : State}

theorem glaringAt_eq (glare : Nat) (held : Bool) :
    glaringAt glare held = (decide (60 ≤ glare) || (decide (40 < glare) && held)) := by
  unfold glaringAt
  split
  · simp [*]
  · split
    · rename_i dull
      simp [*, Nat.not_lt.2 dull]
    · simp_all

/-- G has taken a value, and the glare state is judged (R147). -/
def State.judging (s : State) (glare : Nat) : State :=
  s.setBlind { s.blind with glare := glare, glaring := glaringAt glare s.blind.glaring }

theorem setGlare_eq (glare : Nat) (s : State) :
    setGlare glare s =
      if glaringAt glare s.blind.glaring = s.blind.glaring then s.judging glare else policyEvent true (s.judging glare) := by
  unfold setGlare
  dsimp only
  by_cases same : glaringAt glare s.blind.glaring = s.blind.glaring
  · rw [if_pos same, if_neg (by simp [same])]
    rfl
  · rw [if_neg same, if_pos (by simp [same])]
    rfl

theorem recomputeGlare_of_fresh (fresh : s.freshSet ≠ []) :
    recomputeGlare s = setGlare (median s.freshSet) (clearAlert .sunLost (withBlind ({ · with holdTimer := none }) s)) := by
  unfold recomputeGlare
  split
  · exact absurd ‹_› fresh
  · next g gs suns => rw [suns]

/-- The station whose fresh set has been judged (R145, R147). -/
def State.sunJudged (s : State) (med : Nat) (glaring : Bool) : State :=
  clearAlert .sunLost (s.setBlind { s.blind with holdTimer := none, glare := med, glaring := glaring })

theorem recomputeGlare_judges {suns : List Nat} (fresh : s.freshSet = suns) (held : suns ≠ []) {med : Nat} (middle : med = median suns)
    {glaring : Bool} (judged : glaring = (decide (60 ≤ med) || (decide (40 < med) && s.blind.glaring))) :
    recomputeGlare s =
      if glaring = s.blind.glaring then s.sunJudged med glaring else policyEvent true (s.sunJudged med glaring) := by
  rw [recomputeGlare_of_fresh (fresh ▸ held), fresh, ← middle, setGlare_eq, judged, ← glaringAt_eq]
  exact rfl

theorem recomputeGlare_of_empty (empty : s.freshSet = []) :
    recomputeGlare s = s.setBlind { s.blind with
      holdTimer := if s.blind.holdTimer = none ∧ s.isRaised .sunLost = false ∧ s.loader.settings.facade ≠ 0 then
        some (s.now + 900000) else s.blind.holdTimer } := by
  unfold recomputeGlare
  rw [empty]
  dsimp only
  by_cases starts : s.blind.holdTimer = none ∧ s.isRaised .sunLost = false ∧ s.loader.settings.facade ≠ 0
  · obtain ⟨stopped, low, facing⟩ := starts
    rw [if_neg (by simp [stopped, low, facing]), if_pos ⟨stopped, low, facing⟩]
    rfl
  · rw [if_neg starts]
    refine if_pos (Decidable.by_contra fun quiet => starts ?_)
    obtain ⟨facing, stopped, low⟩ : _ ∧ _ ∧ _ := not_or.1 quiet |>.imp_right not_or.1
    exact ⟨Option.not_isSome_iff_eq_none.1 stopped, Bool.eq_false_iff.2 low, facing⟩

end Glare

/-! ### The sending of the own reading (R144) -/

section Sending

variable {s : State}

theorem takeSun_of_blind (takes : ¬(s.loader.settings.sunSensor = true ∧ s.loader.settings.facade ≠ 0)) (glare klux : Nat) :
    takeSun glare klux s = s := by
  unfold takeSun
  rw [if_neg (by simpa [Settings.takesSun] using takes)]

/-- The own reading has been taken, and G recomputed (R143, R145). -/
def State.sunRead (s : State) (glare klux : Nat) : State :=
  recomputeGlare (s.setBlind { s.blind with own := some { glare := glare, klux := klux }, ageTimer := some (s.now + 120000) })

/-- The own reading is sent on its first value and on a change of 10 or more (R144). -/
theorem takeSun_eq (sensor : s.loader.settings.sunSensor = true) (facing : s.loader.settings.facade ≠ 0) (glare klux : Nat) :
    takeSun glare klux s =
      match (s.sunRead (min glare 100) (min klux 150)).blind.lastSent with
      | none => offerSun { glare := min glare 100, klux := min klux 150 } (s.sunRead (min glare 100) (min klux 150))
      | some last => if 10 ≤ (min glare 100 - last) + (last - min glare 100) then
          offerSun { glare := min glare 100, klux := min klux 150 } (s.sunRead (min glare 100) (min klux 150))
          else s.sunRead (min glare 100) (min klux 150) := by
  unfold takeSun
  rw [if_pos (by simp [Settings.takesSun, sensor, facing])]
  rfl

theorem takeSun_of_near {last : Nat} (sensor : s.loader.settings.sunSensor = true) (facing : s.loader.settings.facade ≠ 0)
    {glare klux : Nat} (sent : (s.sunRead (min glare 100) (min klux 150)).blind.lastSent = some last)
    (below : min glare 100 < last + 10) (above : last < min glare 100 + 10) :
    takeSun glare klux s = s.sunRead (min glare 100) (min klux 150) := by
  rw [takeSun_eq sensor facing, sent]
  exact if_neg (by omega)

theorem takeSun_of_far (sensor : s.loader.settings.sunSensor = true) (facing : s.loader.settings.facade ≠ 0) {glare klux : Nat}
    (moved : (s.sunRead (min glare 100) (min klux 150)).blind.lastSent = none ∨
      ∃ last, (s.sunRead (min glare 100) (min klux 150)).blind.lastSent = some last ∧
        (last + 10 ≤ min glare 100 ∨ min glare 100 + 10 ≤ last)) :
    takeSun glare klux s =
      offerSun { glare := min glare 100, klux := min klux 150 } (s.sunRead (min glare 100) (min klux 150)) := by
  rw [takeSun_eq sensor facing]
  rcases moved with first | ⟨last, sent, far⟩
  · rw [first]
  · rw [sent]
    exact if_pos (by omega)

theorem offerSun_eq (r : SunSample) (s : State) :
    offerSun r s = offer (Frame.plain .sunReading broadcast [byte s.loader.settings.facade, byte r.glare, byte r.klux])
      (s.setBlind { s.blind with lastSent := some r.glare, sendTimer := some (s.now + 60000) }) := rfl

theorem sendSun_of_fresh {r : SunSample} {age : Nat} (own : s.blind.own = some r) (fresh : s.blind.ageTimer = some age) :
    sendSun s = offerSun r s := by
  rw [sendSun, Blind.ownFresh, fresh, own]
  rfl

theorem sendSun_of_stale (stale : s.blind.own = none ∨ s.blind.ageTimer = none) :
    sendSun s = s.setBlind { s.blind with sendTimer := some (s.now + 60000) } := by
  rw [sendSun, Blind.ownFresh]
  rcases stale with none | old
  · rw [none, ite_self]
    rfl
  · rw [old]
    rfl

/-- A policy event sends no reading: the value of the last sending stands. -/
theorem policyEvent_lastSent (glare : Bool) (s : State) : (policyEvent glare s).blind.lastSent = s.blind.lastSent := by
  rw [policyEvent_eq]
  split
  · rfl
  · split
    · rfl
    · split
      · rfl
      · exact (congrArg Blind.lastSent (applyWanted_policy (rework s)) :)

end Sending

/-! ### The statement -/

section Settled

variable {s : State}

/-- The station before the judgement of an own reading: it is held and fresh, and SUN_LOST is cleared (R143, R145). -/
def State.sunHeld (s : State) (glare klux med : Nat) (glaring : Bool) : State :=
  clearAlert .sunLost (s.setBlind { s.blind with
    own := some { glare := glare, klux := klux }, ageTimer := some (s.now + 120000), holdTimer := none
    glare := med, glaring := glaring })

theorem sunRead_eq (s : State) (glare klux : Nat) {med : Nat} (middle : med = median (glare :: s.peers.freshSuns)) {glaring : Bool}
    (judged : glaring = (decide (60 ≤ med) || (decide (40 < med) && s.blind.glaring))) :
    s.sunRead glare klux =
      if glaring = s.blind.glaring then s.sunHeld glare klux med glaring else policyEvent true (s.sunHeld glare klux med glaring) :=
  recomputeGlare_judges (s := s.setBlind { s.blind with
      own := some { glare := glare, klux := klux }, ageTimer := some (s.now + 120000) })
    (by exact rfl) (List.cons_ne_nil _ _) middle judged

theorem sunHeld_frame (s : State) (glare klux med : Nat) (glaring : Bool) : BlindFrame s (s.sunHeld glare klux med glaring) :=
  (BlindFrame.setBlind s { s.blind with
    own := some { glare := glare, klux := klux }, ageTimer := some (s.now + 120000), holdTimer := none
    glare := med, glaring := glaring } rfl).trans (clearAlert_frame _ _).toBlind

theorem sunHeld_alerts (s : State) (glare klux med : Nat) (glaring : Bool) :
    AlertsKept [.sunLost] s (s.sunHeld glare klux med glaring) :=
  (alertsKept_closed [.sunLost] s).clear .sunLost (by simp) (by exact AlertsKept.refl _ s)

theorem sunHeld_found (s : State) (glare klux med : Nat) (glaring : Bool) :
    (s.sunHeld glare klux med glaring).isRaised .sunLost = false := by
  rw [State.sunHeld, isRaised_clear]
  simp

/-- What an own reading leaves once it has been judged, whether or not the glare state has changed. -/
theorem judged_keeps {r₀ s : State} {quiet : Prop} [Decidable quiet] (frame : BlindFrame s r₀) (alerts : AlertsKept [.sunLost] s r₀)
    (found : r₀.isRaised .sunLost = false) (sent : r₀.blind.lastSent = s.blind.lastSent) :
    BlindFrame s (if quiet then r₀ else policyEvent true r₀) ∧ AlertsKept [.sunLost] s (if quiet then r₀ else policyEvent true r₀) ∧
      (if quiet then r₀ else policyEvent true r₀).isRaised .sunLost = false ∧
      (if quiet then r₀ else policyEvent true r₀).blind.lastSent = s.blind.lastSent := by
  split
  · exact ⟨frame, alerts, found, sent⟩
  · exact ⟨frame.trans (policyEvent_frame _ _), (alertsKept_closed _ s).policyEvent true alerts,
      (((alertsKept_closed [] r₀).policyEvent true (AlertsKept.refl _ r₀)) _ (by simp)).trans found,
      (policyEvent_lastSent _ _).trans sent⟩

end Settled

/-- Settles O42: an own reading is held and judged by the median of the fresh set, sent when it is new enough, and lost when it
grows stale. -/
theorem ownSunIsReadSentAndLost : Obligations.OwnSunIsReadSentAndLost := by
  unfold Obligations.OwnSunIsReadSentAndLost
  refine ⟨fun s r₀ r glare klux g med glaring up reading => ⟨fun blind => ?_, fun sensor facing middle judged first last => ?_⟩,
    fun s due n up now => ⟨fun ages => ⟨fun r med glaring suns middle judged found => ?_, fun empty => ?_⟩,
      fun sends => ⟨fun r age own fresh => ?_, fun stale => ?_⟩, fun holds r lost => ?_⟩, fun _ => median_middle, PeerTable.freshSuns_eq⟩
  · rw [exec_of_started (effect := takeSun glare klux) rfl up, takeSun_of_blind]
    rintro ⟨sensor, facing⟩
    rcases blind with none | zero
    · exact nomatch sensor.symm.trans none
    · exact facing zero
  · subst reading
    have read : s.sunRead (min glare 100) (min klux 150) = r := by rw [sunRead_eq s _ _ middle judged, last, first]; exact rfl
    obtain ⟨frame, alerts, cleared, sent⟩ := judged_keeps (quiet := glaring = s.blind.glaring)
      (sunHeld_frame s (min glare 100) (min klux 150) med glaring) (sunHeld_alerts s _ _ med glaring) (sunHeld_found s _ _ med glaring) rfl
    rw [(sunRead_eq s _ _ middle judged).symm.trans read] at frame alerts cleared sent
    refine ⟨frame, alerts, cleared, fun l held below above => ?_, fun moved => ?_⟩
    · rw [exec_of_started (effect := takeSun glare klux) rfl up,
        takeSun_of_near sensor facing (read ▸ sent.trans held) below above, read]
    · rw [exec_of_started (effect := takeSun glare klux) rfl up, takeSun_of_far sensor facing (by rw [read, sent]; exact moved), read,
        offerSun_eq, frame.loader, frame.now]
  · subst now
    rw [exec_of_expiry (timer := (·.blind.ageTimer)) (effectOf_ownReadingAgeExpiry s) up ages, found]
    exact congrArg Host.Outcome.next (recomputeGlare_judges (s := (s.setNow (max s.now due)).setBlind { s.blind with ageTimer := none })
      (by exact rfl) suns middle judged)
  · subst now
    rw [exec_of_expiry (timer := (·.blind.ageTimer)) (effectOf_ownReadingAgeExpiry s) up ages]
    exact congrArg Host.Outcome.next
      (recomputeGlare_of_empty (s := (s.setNow (max s.now due)).setBlind { s.blind with ageTimer := none }) empty)
  · subst now
    rw [exec_of_expiry (timer := (·.blind.sendTimer)) (effectOf_sunSendTimerExpiry s) up sends, sendSun_of_fresh (by exact own) (by exact fresh)]
    rfl
  · subst now
    rw [exec_of_expiry (timer := (·.blind.sendTimer)) (effectOf_sunSendTimerExpiry s) up sends, sendSun_of_stale (by exact stale)]
    rfl
  · subst now lost
    rw [exec_of_expiry (timer := (·.blind.holdTimer)) (effectOf_glareHoldTimerExpiry s) up holds]
    cases glares : s.blind.glaring
    · exact congrArg Host.Outcome.next ((setGlare_eq _ _).trans (if_pos (by exact glares.symm)))
    · refine congrArg Host.Outcome.next ((setGlare_eq _ _).trans (if_neg ?_))
      exact fun same => nomatch (show false = s.blind.glaring from same).trans glares

end Sys2Proof.Machine
end

section
/-!
PROOFS. A drive whose position is UNKNOWN keeps to its way to the open end (R151 to R156): what the operations on drives leave of it, and
so what a SERVICE CLEAR and a stall return (R152, R164).
-/

namespace Sys2Proof.Machine

/-! ### A drive on its way -/

/-- A drive in service at an UNKNOWN position, its open limit INACTIVE: any run it has at a slot of the stage is the REFERENCE run
toward the open end (R151). -/
structure Drive.Unplaced (streak : Nat) (d : Drive) : Prop where
  service : d.inService = true
  streak : d.streak = streak
  position : d.position = none
  opens : d.limits.openEnd = false
  run : d.holdsSlot = true → ∀ r, d.run = some r → r.up = true ∧ r.kind = .reference

/-- A drive has changed, stays in service or out, and if it is on its way it stays so. -/
structure Drive.Onward (d e : Drive) : Prop where
  service : e.inService = d.inService
  unplaced : ∀ k, d.Unplaced k → e.Unplaced k
  moving : ∀ k, d.Unplaced k → d.state ≠ .stopped → e.state ≠ .stopped

namespace Drive

variable {d e f : Drive}

theorem Onward.refl (d : Drive) : d.Onward d := ⟨rfl, fun _ h => h, fun _ _ h => h⟩

theorem Onward.trans (h : d.Onward e) (k : e.Onward f) : d.Onward f :=
  ⟨k.service.trans h.service, fun n way => k.unplaced n (h.unplaced n way),
    fun n way moves => k.moving n (h.unplaced n way) (h.moving n way moves)⟩

/-- What happens to a drive that is not on its way. -/
theorem onward_of_other (service : e.inService = d.inService) (other : ∀ k, ¬d.Unplaced k) : d.Onward e :=
  ⟨service, fun k way => absurd way (other k), fun k way => absurd way (other k)⟩

/-- A change of state and run alone, within the way. -/
theorem onward_of_move (service : e.inService = d.inService) (streak : e.streak = d.streak) (position : e.position = d.position)
    (limits : e.limits = d.limits)
    (run : ∀ k, d.Unplaced k → e.holdsSlot = true → ∀ r, e.run = some r → r.up = true ∧ r.kind = .reference)
    (moving : ∀ k, d.Unplaced k → d.state ≠ .stopped → e.state ≠ .stopped) : d.Onward e where
  service := service
  unplaced k way := ⟨service.trans way.service, streak.trans way.streak, position.trans way.position,
    (congrArg LimitLevels.openEnd limits).trans way.opens, run k way⟩
  moving := moving

theorem needsRun_of_unplaced {k : Nat} (way : d.Unplaced k) (target : Nat) : d.needsRun target = true := by
  rw [needsRun, way.position]

theorem idleState_of_unplaced {k : Nat} (way : d.Unplaced k) (target : Nat) : d.idleState target = .waitStage := by
  rw [idleState_of_service way.service, if_pos (needsRun_of_unplaced way target)]

theorem idle_onward (d : Drive) (target : Nat) : d.Onward { d with state := d.idleState target } :=
  onward_of_move rfl rfl rfl rfl (fun k way holds => by
      rw [holdsSlot_iff, idleState_of_unplaced way] at holds
      simp at holds)
    (fun k way _ stopped => nomatch (idleState_of_unplaced way target).symm.trans stopped)

theorem releaseIdle_onward (d : Drive) (target : Nat) : d.Onward (d.release (d.idleState target)) :=
  onward_of_move rfl rfl rfl rfl (fun _ _ _ _ none => nomatch none)
    (fun _ way _ stopped => nomatch (idleState_of_unplaced way target).symm.trans stopped)

/-- A drive at a slot moves on to another of the feeder's states, its run as it was. -/
theorem feeder_onward {state : DriveState} (held : d.holdsSlot = true) (moves : state ≠ .stopped) : d.Onward { d with state := state } :=
  onward_of_move rfl rfl rfl rfl (fun _ way _ => way.run held) (fun _ _ _ => moves)

theorem plan_onward {state : DriveState} {group : Option Nat} (moves : state ≠ .stopped) (target : Nat) :
    d.Onward { d with state := state, group := group, run := d.plan target } := by
  refine onward_of_move rfl rfl rfl rfl (fun _ way _ r planned => ?_) (fun _ _ _ => moves)
  rw [plan_of_unknown way.position] at planned
  cases planned
  exact ⟨rfl, rfl⟩

theorem startMotor_onward (held : d.holdsSlot = true) (now : Nat) : d.Onward (d.startMotor now) := by
  unfold startMotor
  split
  · exact .refl d
  next r run => exact onward_of_move rfl rfl rfl rfl (fun _ way _ => way.run held) (fun _ _ _ => (nomatch ·))

theorem not_unplaced_of_atLimit {k : Nat} (runs : d.state = .running) (limit : d.atLimit = true) : ¬d.Unplaced k := by
  intro way
  unfold atLimit at limit
  split at limit
  · exact nomatch limit
  next r run =>
    have up := (way.run ((holdsSlot_iff d).2 (.inr (.inr runs))) r run).1
    rw [if_pos up, way.opens] at limit
    exact nomatch limit

end Drive

/-! ### The drives together -/

/-- Every drive has gone onward, each in its place. -/
def Onward (s t : State) : Prop := List.Forall₂ Drive.Onward s.blind.drives t.blind.drives

section Together

variable {s t u : State}

theorem Onward.of_same (h : t.blind.drives = s.blind.drives) : Onward s t := by
  unfold Onward
  rw [h]
  exact List.forall₂_same.2 fun d _ => .refl d

theorem Onward.refl (s : State) : Onward s s := .of_same rfl

theorem Onward.trans (h : Onward s t) (k : Onward t u) : Onward s u := forall₂_trans Drive.Onward.trans h k

theorem QuietFrame.onward (h : QuietFrame s t) : Onward s t := .of_same (congrArg Blind.drives h.blind)

theorem Onward.map {f : Drive → Drive} (h : t.blind.drives = s.blind.drives.map f) (each : ∀ d : Drive, d.Onward (f d)) : Onward s t := by
  unfold Onward
  rw [h]
  exact List.forall₂_map_right_iff.2 (List.forall₂_same.2 fun d _ => each d)

theorem Onward.put {n : Nat} {d e : Drive} (h : t.blind.drives = Machine.put s.blind.drives n e) (fitted : pick? s.blind.drives n = some d)
    (onward : d.Onward e) : Onward s t := by
  unfold Onward
  rw [h]
  refine forall₂_put Drive.Onward.refl fun a picked => ?_
  rwa [Option.some.inj (picked.symm.trans fitted)]

theorem Onward.mapDrive {n : Nat} {f : Drive → Drive} (h : t.blind = s.blind.mapDrive n f)
    (each : ∀ d, pick? s.blind.drives n = some d → d.Onward (f d)) : Onward s t := by
  cases fitted : pick? s.blind.drives n with
  | none => exact .of_same (by rw [h, Blind.mapDrive_of_absent fitted])
  | some d => exact .put (by rw [h, Blind.mapDrive_of_fitted fitted]) fitted (each d fitted)

/-- A change made to each drive of some numbers. -/
theorem Onward.foldl {f : Drive → Drive} {p : Drive → Prop} (each : ∀ d, p d → d.Onward (f d)) (keep : ∀ d, p d → p (f d))
    {numbers : List Nat} (h : s.blind.AllOf numbers p) :
    Onward s (withBlind (fun b => numbers.foldl (fun b n => b.mapDrive n f) b) s) := by
  induction numbers generalizing s with
  | nil => exact .refl s
  | cons n rest ih =>
    have first : Onward s (withBlind (·.mapDrive n f) s) :=
      .mapDrive rfl fun d picked => each d (h n List.mem_cons_self d picked)
    have later : (withBlind (·.mapDrive n f) s).blind.AllOf rest p :=
      Blind.AllOf.mapDrive (fun m mem => h m (List.mem_cons_of_mem _ mem)) keep n
    exact first.trans (ih later)

theorem Onward.services (h : Onward s t) (each : ∀ d ∈ s.blind.drives, d.inService = true) :
    ∀ d ∈ t.blind.drives, d.inService = true := by
  unfold Onward at h
  generalize s.blind.drives = xs at h each
  generalize t.blind.drives = ys at h ⊢
  induction h with
  | nil => exact each
  | cons first _ ih =>
    obtain ⟨head, rest⟩ := List.forall_mem_cons.1 each
    exact List.forall_mem_cons.2 ⟨first.service.trans head, ih rest⟩

theorem Onward.pick_of {n : Nat} {d : Drive} (h : Onward s t) (fitted : pick? s.blind.drives n = some d) :
    ∃ e, pick? t.blind.drives n = some e ∧ d.Onward e := by
  obtain ⟨positive, inside⟩ := pick?_eq_some_iff.1 fitted
  obtain ⟨within, rfl⟩ := List.getElem?_eq_some_iff.1 inside
  have long : n - 1 < t.blind.drives.length := h.length_eq ▸ within
  exact ⟨t.blind.drives[n - 1], pick?_eq_some_iff.2 ⟨positive, List.getElem?_eq_getElem long⟩, h.get within long⟩

/-! ### Stops -/

/-- A further change of the record of a drive that has stopped. -/
theorem Halts.mapDrive {number : Nat} {d e : Drive} (h : Halts s number e t) (fitted : pick? s.blind.drives number = some d)
    (f : Drive → Drive) : Halts s number (f e) (withBlind (·.mapDrive number f) t) := by
  have held : pick? t.blind.drives number = some e := by
    rw [h.blind]
    exact pick?_put_same fitted
  refine ⟨h.toBlindFrame.trans (withBlind_frame _ _ (mapDrive_emergency _ _ _)), h.alerts, ?_, h.bus, h.hold⟩
  refine (Blind.mapDrive_of_fitted held f).trans ?_
  rw [h.blind]
  show ({ s.blind with drives := Machine.put (Machine.put _ _ _) _ _ } : Blind) = _
  rw [put_put]

/-- A stop at the limit of the run's direction: exact, with stall streak 0, and the target taken again (R152, R153). -/
theorem haltAtLimit_halts {number : Nat} {d : Drive} {r : Run} (fitted : pick? s.blind.drives number = some d)
    (runs : d.state = .running) (run : d.run = some r) :
    Halts s number { d.halt (some r.limitPosition) with
        streak := 0, state := { d.halt (some r.limitPosition) with streak := 0 }.idleState s.blind.applied } (haltAtLimit number s) := by
  have eq : haltAtLimit number s = retake number (withBlind (·.mapDrive number fun d => { d with streak := 0 })
      (haltDrive number (some r.limitPosition) s)) := by
    rw [haltAtLimit, fitted]
    dsimp only
    rw [run]
  rw [eq]
  exact ((haltDrive_halts fitted runs (some r.limitPosition)).mapDrive fitted fun d => { d with streak := 0 }).retake fitted

theorem checkLimit_of_clear {number : Nat} {d : Drive} (fitted : pick? s.blind.drives number = some d)
    (clear : ¬(d.state = .running ∧ d.atLimit = true)) : checkLimit number s = s := by
  rw [checkLimit, fitted]
  exact if_neg (by simpa using clear)

theorem checkLimit_onward (number : Nat) (s : State) : Onward s (checkLimit number s) := by
  cases fitted : pick? s.blind.drives number with
  | none =>
    rw [checkLimit, fitted]
    exact .refl s
  | some d =>
    by_cases stops : d.state = .running ∧ d.atLimit = true
    · have eq : checkLimit number s = haltAtLimit number s := by
        rw [checkLimit, fitted]
        exact if_pos (by simpa using stops)
      rw [eq]
      cases run : d.run with
      | none =>
        rw [haltAtLimit, fitted]
        dsimp only
        rw [run]
        exact .refl s
      | some r =>
        exact .put (congrArg Blind.drives (haltAtLimit_halts fitted stops.1 run).blind) fitted
          (Drive.onward_of_other rfl fun _ => Drive.not_unplaced_of_atLimit stops.1 stops.2)
    · rw [checkLimit_of_clear fitted stops]
      exact .refl s

/-! ### The stage and the feeder -/

theorem startMotors_onward {numbers : List Nat} (held : s.blind.AllOf numbers (·.holdsSlot = true)) :
    Onward s (startMotors numbers s) := by
  have started : Onward s (withBlind (fun b => numbers.foldl (fun b n => b.mapDrive n (·.startMotor s.now)) b) s) :=
    .foldl (fun _ holds => Drive.startMotor_onward holds s.now) (fun _ holds => Drive.startMotor_holds holds s.now) held
  unfold startMotors
  dsimp only
  split <;> exact started

theorem enterRunning_onward {numbers : List Nat} (held : s.blind.AllOf numbers (·.holdsSlot = true)) :
    Onward s (enterRunning numbers s) :=
  (startMotors_onward held).trans (forEach_rel Onward .refl .trans _ checkLimit_onward numbers _)

theorem backOff_onward (group : Nat) (s : State) : Onward s (backOff group s) := by
  refine .map rfl fun d => ?_
  split
  next settles =>
    rw [Bool.and_eq_true, beq_iff_eq, beq_iff_eq] at settles
    exact Drive.feeder_onward (d.holdsSlot_iff.2 (.inr (.inl settles.2))) (nomatch ·)
  next => exact .refl d

theorem awaitReport_onward (group drives : Nat) (s : State) : Onward s (awaitReport group drives s) := by
  refine .map rfl fun d => ?_
  split
  next waits =>
    rw [Bool.and_eq_true, beq_iff_eq, beq_iff_eq] at waits
    exact Drive.feeder_onward (d.holdsSlot_iff.2 (.inl waits.2)) (nomatch ·)
  next => exact .refl d

theorem planGroup_onward (group : Nat) (s : State) : Onward s (planGroup group s) :=
  .foldl (f := fun d => { d with run := d.plan s.blind.applied }) (p := (·.state = .waitFeeder))
    (fun d waits => Drive.plan_onward (d := d) (state := d.state) (group := d.group) (fun stopped => nomatch waits.symm.trans stopped)
      s.blind.applied)
    (fun _ waits => waits) (s.blind.groupIn_state group .waitFeeder)

theorem askFeeder_onward (group : Nat) (numbers : List Nat) (s : State) : Onward s (askFeeder group numbers s).1 := by
  have asked : Onward s (awaitReport group numbers.length (offerAnswered (s.feederStart numbers) s).1) :=
    (offerAnswered_frame _ s).onward.trans (awaitReport_onward _ _ _)
  unfold askFeeder
  dsimp only
  split
  · exact asked
  · exact asked.trans (backOff_onward _ _)

theorem feederCheck_onward (group : Nat) (s : State) : Onward s (feederCheck group s).1 := by
  unfold feederCheck
  dsimp only
  split
  · exact planGroup_onward group s
  · split
    · exact planGroup_onward group s
    · exact (planGroup_onward group s).trans (askFeeder_onward _ _ _)

theorem recheckGroups_onward (s : State) : Onward s (recheckGroups s).1 :=
  eachAnswered_rel Onward .refl .trans feederCheck feederCheck_onward _ s

theorem formGroup_onward (numbers : List Nat) (s : State) : Onward s (formGroup numbers s) :=
  Onward.trans (t := withBlind (fun b => numbers.foldl (fun b' n => b'.mapDrive n fun d =>
      { d with state := .waitFeeder, group := some s.blind.nextGroup, run := d.plan s.blind.applied }) b) s)
    (.foldl (p := fun _ => True) (fun _ _ => Drive.plan_onward (by exact (nomatch ·)) s.blind.applied) (fun _ _ => trivial)
      fun _ _ _ _ => trivial)
    (.of_same rfl)

theorem launchGroup_onward (numbers : List Nat) (s : State) : Onward s (launchGroup numbers s).1 := by
  have waiting : (formGroup numbers s).blind.AllOf numbers (·.holdsSlot = true) :=
    Blind.foldl_mapDrive_brings (fun d => (Drive.holdsSlot_iff _).2 (.inl rfl)) numbers s.blind
  unfold launchGroup
  dsimp only
  split
  · exact (formGroup_onward numbers s).trans (enterRunning_onward waiting)
  · exact (formGroup_onward numbers s).trans (feederCheck_onward _ _)

theorem grantSlots_onward (s : State) : Onward s (grantSlots s).1 :=
  eachAnswered_rel Onward .refl .trans launchGroup launchGroup_onward _ s

theorem settleStage_onward : ∀ (rounds : Nat) (recheck : Bool) (s : State), Onward s (settleStage rounds recheck s)
  | 0, _, s => .refl s
  | n + 1, recheck, s => by
    have checked := (grantSlots_onward s).trans (recheckGroups_onward (grantSlots s).1)
    unfold settleStage
    split
    · exact .refl s
    · dsimp only
      split
      · split
        · exact checked.trans (settleStage_onward n true _)
        · exact checked
      · split
        · exact (grantSlots_onward s).trans (settleStage_onward n true _)
        · exact grantSlots_onward s

/-! ### The taking of a target -/

theorem retake_onward (number : Nat) (s : State) : Onward s (retake number s) := .mapDrive rfl fun d _ => d.idle_onward s.blind.applied

theorem dropHand_onward (s : State) : Onward s (dropHand s) := by
  unfold dropHand
  split
  · exact .refl s
  · exact .of_same rfl
  · exact (Onward.of_same rfl : Onward s (withBlind (fun b => { b with hand := .nothing }) s)).trans (offerFeederEnd_frame _ _).onward

theorem withdrawGroup_onward (group : Nat) (s : State) : Onward s (withdrawGroup group s) :=
  (dropHand_onward s).trans (.map rfl fun d => by
    split
    · exact d.releaseIdle_onward _
    · exact .refl d)

theorem takeTarget_onward (number : Nat) (s : State) : Onward s (takeTarget number s) := by
  cases fitted : pick? s.blind.drives number with
  | none =>
    rw [takeTarget, fitted]
    exact .refl s
  | some d =>
    cases service : d.inService with
    | false =>
      rw [takeTarget_of_out fitted service]
      exact .refl s
    | true =>
      cases state : d.state with
      | stopped =>
        rw [takeTarget_of_idle fitted service (.inl state)]
        exact retake_onward number s
      | waitStage =>
        rw [takeTarget_of_idle fitted service (.inr state)]
        exact retake_onward number s
      | waitFeeder =>
        rw [takeTarget_of_waiting fitted service state]
        split
        · exact .refl s
        next rests =>
          exact .put rfl fitted (Drive.onward_of_other rfl fun _ way => rests (Drive.needsRun_of_unplaced way _))
      | settling =>
        cases grouped : d.group with
        | none =>
          rw [takeTarget, fitted]
          dsimp only
          rw [if_neg (by simp [service]), state, grouped]
          exact .refl s
        | some group =>
          rw [takeTarget_of_settling fitted service state grouped]
          split
          · exact .refl s
          · exact withdrawGroup_onward group s
      | running =>
        cases run : d.run with
        | none =>
          rw [takeTarget, fitted]
          dsimp only
          rw [if_neg (by simp [service]), state, run]
          exact .refl s
        | some r =>
          rw [takeTarget_of_running fitted service state run]
          split
          · exact .refl s
          next other =>
            have halted := (haltDrive_halts fitted state (d.estimate s.now)).retake fitted
            exact .put (congrArg Blind.drives halted.blind) fitted (Drive.onward_of_other rfl fun _ way =>
              other (.inl (way.run (d.holdsSlot_iff.2 (.inr (.inr state))) r run).2))

end Together

end Sys2Proof.Machine
end

section
/-!
PROOFS. The end of a run at its limit, its time or its watchdog (R150 to R153), and what a SERVICE CLEAR returns (R164, R174, R181).
-/

namespace Sys2Proof.Machine

section Runs

variable {s t : State} {number : Nat} {d e : Drive} {r : Run}

/-! ### The events that end a run -/

/-- An offer looks at the Bus Port and the Loader alone. -/
theorem offer_bus (f : Frame) (bus : t.bus = s.bus) (loader : t.loader = s.loader) : (offer f t).bus = (offer f s).bus := by
  have takes : t.takesOffer f.kind = s.takesOffer f.kind := by rw [State.takesOffer, State.takesOffer, loader]
  unfold offer offerAnswered
  rw [takes]
  split
  · rw [bus]
    rfl
  · exact bus

/-- What ends a run, as the station shows it (R153, R160, R133): `u` is the station when the cause is taken. -/
structure Stops (s u : State) (number : Nat) (e : Drive) (t : State) : Prop extends BlindFrame u t where
  blind : t.blind = { s.blind with drives := put s.blind.drives number e }
  bus : t.bus = (if s.loader.settings.facade = 0 then s.bus
    else (offer (Frame.plain .feederEnd broadcast [byte s.loader.settings.facade, 1]) s).bus)
  hold : t.light.hold = (if s.blind.runningCount = 1 ∧ s.light.hold = .held then .releasing (u.now + 10000) else s.light.hold)

theorem Halts.stops {u : State} (h : Halts u number e t) (blind : u.blind = s.blind) (bus : u.bus = s.bus) (loader : u.loader = s.loader)
    (light : u.light = s.light) : Stops s u number e t where
  toBlindFrame := h.toBlindFrame
  blind := by rw [h.blind, blind]
  bus := by rw [h.bus, loader, bus, offer_bus _ bus loader]
  hold := by rw [h.hold, blind, light]

/-- Where no other drive waits and the stopped one needs no run, the end of the event grants nothing (R153 step 6). -/
theorem settleStage_of_stopped (alone : ∀ e ∈ s.blind.drives, e.state ≠ .waitStage ∧ e.state ≠ .waitFeeder)
    (blind : t.blind.drives = put s.blind.drives number e) (stopped : e.state = .stopped) (rounds : Nat) (recheck : Bool) :
    settleStage rounds recheck t = t := by
  have rest : ∀ x ∈ t.blind.drives, x.state ≠ .waitStage ∧ x.state ≠ .waitFeeder := by
    rw [blind]
    intro x mem
    rcases mem_put mem with rfl | held
    · exact ⟨fun w => (nomatch stopped.symm.trans w), fun w => nomatch stopped.symm.trans w⟩
    · exact alone x held
  exact settleStage_of_idle ((inState_eq_nil_iff _ _).2 fun x mem => (rest x mem).1)
    (waitingGroups_eq_nil fun x mem waits => absurd waits (rest x mem).2) rounds recheck

theorem needsRun_of_near {target p : Nat} (known : d.position = some p) (above : p ≤ target + 3) (below : target ≤ p + 3) :
    d.needsRun target = false :=
  Bool.eq_false_iff.2 fun needs => by
    have far := (needsRun_iff known).1 needs
    omega

theorem idleState_of_near {target p : Nat} (known : d.position = some p) (above : p ≤ target + 3) (below : target ≤ p + 3) :
    d.idleState target = .stopped := by
  rw [Drive.idleState, needsRun_of_near known above below, Bool.and_false]
  rfl

theorem runningRun_of_running (fitted : pick? s.blind.drives number = some d) (runs : d.state = .running) (run : d.run = some r) :
    s.blind.runningRun number = some (r, d.due) := by
  rw [Blind.runningRun, fitted]
  dsimp only
  rw [if_pos runs, run]
  rfl

theorem exec_runTimerExpiry {due : Nat} (up : s.started = true) (fitted : pick? s.blind.drives number = some d)
    (runs : d.state = .running) (run : d.run = some r) (kind : r.kind = .intermediate) (timed : d.due = some due) :
    exec (.runTimerExpiry number) s = .next (endIntermediate number r.goal (s.setNow (max s.now due))) := by
  rw [exec_eq_effectOf, effectOf_runTimerExpiry, whileStarted_of up, runningRun_of_running fitted runs run]
  dsimp only
  rw [if_pos kind, timed, onExpiry_some]

theorem exec_runWatchdogExpiry {due : Nat} (up : s.started = true) (fitted : pick? s.blind.drives number = some d)
    (runs : d.state = .running) (run : d.run = some r) (kind : r.kind ≠ .intermediate) (timed : d.due = some due) :
    exec (.runWatchdogExpiry number) s = .next (stallDrive number (s.setNow (max s.now due))) := by
  rw [exec_eq_effectOf, effectOf_runWatchdogExpiry, whileStarted_of up, runningRun_of_running fitted runs run]
  dsimp only
  rw [if_neg kind, timed, onExpiry_some]

/-! ### A limit met (R152) -/

/-- The station when a limit input's level has been recorded (R150). -/
def State.limitSet (s : State) (number : Nat) (d : Drive) (levels : LimitLevels) (limit : Limit) : State :=
  (s.setLines { s.lines with limits := put s.lines.limits number (levels.set limit true) }).setBlind
    { s.blind with drives := put s.blind.drives number { d with limits := d.limits.set limit true } }

theorem exec_limitInput_of_met {limit : Limit} {levels : LimitLevels} (up : s.started = true) (fitted : pick? s.blind.drives number = some d)
    (runs : d.state = .running) (run : d.run = some r) (line : pick? s.lines.limits number = some levels) (ahead : r.limit = limit)
    (inactive : d.limits.get limit = false) :
    exec (.limitInput number limit true) s = .next (settleStage stageRounds true (haltAtLimit number (s.limitSet number d levels limit))) := by
  rw [exec_eq_effectOf, effectOf_limitInput]
  unfold moveLimit
  dsimp only
  rw [line, Option.getD_some,
    whileStarted_of (s := s.setLines { s.lines with limits := put s.lines.limits number (levels.set limit true) }) up]
  unfold takeLimit
  dsimp only [State.setLines_blind]
  rw [fitted]
  dsimp only
  rw [if_pos ⟨by rw [inactive]; rfl, runs, by rw [run, ← ahead]; rfl⟩, withBlind]
  dsimp only [State.setLines_blind]
  rw [Blind.mapDrive_of_fitted fitted]
  rfl

theorem limitSet_halts {limit : Limit} {levels : LimitLevels} (fitted : pick? s.blind.drives number = some d)
    (h : Halts (s.limitSet number d levels limit) number e t) :
    Stops s (s.setLines { s.lines with limits := put s.lines.limits number (levels.set limit true) }) number e t := by
  have count : (s.limitSet number d levels limit).blind.runningCount = s.blind.runningCount := by
    have counted := countP_put (x := { d with limits := d.limits.set limit true }) fitted (·.state == .running)
    rw [runningCount_eq, runningCount_eq]
    exact Nat.add_right_cancel counted
  refine ⟨(BlindFrame.setBlind (s.setLines { s.lines with limits := put s.lines.limits number (levels.set limit true) })
    { s.blind with drives := put s.blind.drives number { d with limits := d.limits.set limit true } } rfl).trans h.toBlindFrame, ?_, ?_, ?_⟩
  · rw [h.blind]
    show ({ s.blind with drives := put (put _ _ _) _ _ } : Blind) = _
    rw [put_put]
  · rw [h.bus, offer_bus (s := s) (t := s.limitSet number d levels limit) _ rfl rfl]
    rfl
  · rw [h.hold, count]
    rfl

/-! ### A stall (R152) -/

theorem stall_halts (fitted : pick? s.blind.drives number = some d) (runs : d.state = .running) :
    Halts s number (d.halt none).stall (withBlind (·.mapDrive number Drive.stall) (haltDrive number none s)) :=
  (haltDrive_halts fitted runs none).mapDrive fitted Drive.stall

theorem stallDrive_eq (fitted : pick? s.blind.drives number = some d) (runs : d.state = .running) :
    stallDrive number s = settleStage stageRounds true
      (if !(d.halt none).stall.inService then raiseAlert .driveOut (withBlind (·.mapDrive number Drive.stall) (haltDrive number none s))
        else retake number (withBlind (·.mapDrive number Drive.stall) (haltDrive number none s))) := by
  have held : pick? (withBlind (·.mapDrive number Drive.stall) (haltDrive number none s)).blind.drives number = some (d.halt none).stall := by
    rw [(stall_halts fitted runs).blind]
    exact pick?_put_same fitted
  rw [stallDrive, held]
  rfl

/-- A first or second stall leaves the drive on its way to a reference (R151, R152). -/
theorem stall_unplaced (d : Drive) (few : d.streak < 2) (service : d.inService = true) (opens : d.limits.openEnd = false) :
    (d.halt none).stall.Unplaced (d.streak + 1) where
  service := by
    show (d.inService && decide (d.streak + 1 < 3)) = true
    rw [service, decide_eq_true (by omega)]
    rfl
  streak := show min 3 (d.streak + 1) = d.streak + 1 from Nat.min_eq_right (by omega)
  position := rfl
  opens := opens
  run holds := nomatch holds

end Runs

/-! ### The statement -/

/-- Settles O48: a run ends by its limit, its time or its watchdog, each time as a stop with its own position. -/
theorem runsEnd : Obligations.RunsEnd := by
  unfold Obligations.RunsEnd
  refine ⟨fun s number d stopped r after up fitted runs run alone hs ha =>
    ⟨fun limit levels position line ahead inactive exact_ above below => ?_, fun due kind timed goal => ?_, fun due kind timed third => ?_⟩,
    fun s number due d r up fitted runs run kind timed few service opens => ?_⟩
  · have met : r.limit = limit := ahead ▸ rfl
    have at_limit : r.limitPosition = position := exact_ ▸ rfl
    have held : pick? (s.limitSet number d levels limit).blind.drives number = some { d with limits := d.limits.set limit true } :=
      pick?_put_same fitted
    have halts := haltAtLimit_halts held (by exact runs) (by exact run)
    rw [at_limit, idleState_of_near (p := position) rfl (by exact above) (by exact below)] at halts
    have stops := limitSet_halts fitted halts
    subst ha hs
    refine ⟨_, (exec_limitInput_of_met up fitted runs run line met inactive).trans
      (congrArg Host.Outcome.next (settleStage_of_stopped alone (congrArg Blind.drives stops.blind) rfl _ _)), halts.alerts,
      stops.toBlindFrame, stops.blind, stops.bus, stops.hold⟩
  · have halts := (haltDrive_halts (s := s.setNow (max s.now due)) (by exact fitted) runs (some r.goal)).retake fitted
    rw [idleState_of_near (p := r.goal) rfl (by rw [goal]; exact Nat.le_add_right _ _) (by rw [goal]; exact Nat.le_add_right _ _)] at halts
    have stops : Stops s _ _ _ _ := halts.stops rfl rfl rfl rfl
    subst ha hs
    refine ⟨_, (exec_runTimerExpiry up fitted runs run kind timed).trans
      (congrArg Host.Outcome.next (settleStage_of_stopped alone (congrArg Blind.drives stops.blind) rfl _ _)), halts.alerts,
      stops.toBlindFrame, stops.blind, stops.bus, stops.hold⟩
  · have out : (d.halt none).stall.inService = false := by
      show (d.inService && decide (d.streak + 1 < 3)) = false
      rw [decide_eq_false (by omega), Bool.and_false]
    have streak : (d.halt none).stall.streak = 3 := show min 3 (d.streak + 1) = 3 from Nat.min_eq_left (by omega)
    have halts := stall_halts (s := s.setNow (max s.now due)) (by exact fitted) runs
    have stops : Stops s _ _ _ _ := halts.stops rfl rfl rfl rfl
    have ran := exec_runWatchdogExpiry up fitted runs run kind timed
    rw [stallDrive_eq (s := s.setNow (max s.now due)) (by exact fitted) runs, if_pos (by rw [out]; rfl)] at ran
    have rests := settleStage_of_stopped (t := raiseAlert .driveOut
      (withBlind (·.mapDrive number Drive.stall) (haltDrive number none (s.setNow (max s.now due))))) alone
      (congrArg Blind.drives stops.blind) rfl stageRounds true
    subst ha hs
    refine ⟨_, ran.trans (congrArg Host.Outcome.next rests), (alertsKept_closed [.driveOut] s).raise _ (by simp) fun a _ => halts.alerts a (by simp), ?_,
      stops.toBlindFrame.trans (raiseAlert_frame _ _).toBlind, ?_, stops.bus, stops.hold⟩
    · rw [isRaised_raise]
      simp
    · refine stops.blind.trans ?_
      rw [← streak, ← out]
      rfl
  · have way := stall_unplaced d few service opens
    have halts := (stall_halts (s := s.setNow (max s.now due)) (by exact fitted) runs).retake (by exact fitted)
    have ran := exec_runWatchdogExpiry up fitted runs run kind timed
    rw [stallDrive_eq (s := s.setNow (max s.now due)) (by exact fitted) runs, if_neg (by rw [way.service]; exact (nomatch ·))] at ran
    have held := (congrArg (fun b : Blind => pick? b.drives number) halts.blind).trans (pick?_put_same (by exact fitted))
    obtain ⟨e, found, onward⟩ := (settleStage_onward stageRounds true _).pick_of held
    have start := (Drive.idle_onward _ s.blind.applied).unplaced _ way
    have waits := Drive.idleState_of_unplaced way s.blind.applied
    have kept := onward.unplaced _ start
    exact ⟨_, e, ran, halts.toBlindFrame.trans (settleStage_frame _ _ _), (alertsKept_closed [] s).settleStage _ _ halts.alerts, found,
      kept.streak, kept.service, kept.position, onward.moving _ start fun stopped => nomatch waits.symm.trans stopped⟩

/-! ### A SERVICE CLEAR (R164, R174, R181) -/

section Clear

variable {s : State}

/-- An event two blocks take reaches one and then the other. -/
theorem fanOut_pair (a b : Block) (act : Block → State → State) (s : State) :
    fanOut [a, b] act s = act b (act a s) ∨ fanOut [a, b] act s = act a (act b s) := by
  have order : permute s.order [a, b] = insertNth (s.order % 2) a [b] := by
    simp only [permute, insertNth, List.length_cons, List.length_nil]
  unfold fanOut
  rw [order]
  cases s.order % 2 with
  | zero => exact .inl rfl
  | succ n =>
    right
    cases n <;> rfl

theorem restore_unplaced {d : Drive} (stopped : d.state = .stopped) (opens : d.limits.openEnd = false) : d.restore.Unplaced 0 where
  service := rfl
  streak := rfl
  position := rfl
  opens := opens
  run holds := by
    rw [Drive.holdsSlot_iff, show d.restore.state = .stopped from stopped] at holds
    simp at holds

/-- A drive that a SERVICE CLEAR returns is on its way to a reference once it has taken the target (R154, R164). -/
theorem takeTarget_moves {number : Nat} {d : Drive} (fitted : pick? s.blind.drives number = some d) (way : d.Unplaced 0) :
    ∃ e, pick? (takeTarget number s).blind.drives number = some e ∧ e.Unplaced 0 ∧ e.state ≠ .stopped := by
  by_cases stopped : d.state = .stopped
  · rw [takeTarget_of_idle fitted way.service (.inl stopped), retake_eq fitted]
    exact ⟨_, pick?_put_same fitted, (Drive.idle_onward d _).unplaced 0 way,
      fun rests => nomatch (Drive.idleState_of_unplaced way _).symm.trans rests⟩
  · obtain ⟨e, held, onward⟩ := (takeTarget_onward number s).pick_of fitted
    exact ⟨e, held, onward.unplaced 0 way, onward.moving 0 way stopped⟩

theorem takeTargets_move {number : Nat} {numbers : List Nat} (mem : number ∈ numbers) {d : Drive}
    (fitted : pick? s.blind.drives number = some d) (way : d.Unplaced 0) :
    ∃ e, pick? (forEach numbers takeTarget s).blind.drives number = some e ∧ e.Unplaced 0 ∧ e.state ≠ .stopped := by
  refine forEach_brings_under (Q := fun t => ∃ e, pick? t.blind.drives number = some e ∧ e.Unplaced 0)
    (P := fun t => ∃ e, pick? t.blind.drives number = some e ∧ e.Unplaced 0 ∧ e.state ≠ .stopped) number ?_ ?_ ?_ numbers s mem
    ⟨d, fitted, way⟩
  · rintro n t ⟨e, held, way⟩
    obtain ⟨f, found, onward⟩ := (takeTarget_onward n t).pick_of held
    exact ⟨f, found, onward.unplaced 0 way⟩
  · rintro t ⟨e, held, way⟩
    exact takeTarget_moves held way
  · rintro n t - - ⟨e, held, way, moves⟩
    obtain ⟨f, found, onward⟩ := (takeTarget_onward n t).pick_of held
    exact ⟨f, found, onward.unplaced 0 way, onward.moving 0 way moves⟩

theorem mem_outDrives {b : Blind} {number : Nat} : number ∈ b.outDrives ↔ ∃ d, pick? b.drives number = some d ∧ d.inService = false := by
  simp [Blind.outDrives, mem_numbersOf]

theorem outDrives_eq_nil_iff (b : Blind) : b.outDrives = [] ↔ ∀ d ∈ b.drives, d.inService = true := by
  simp [Blind.outDrives, numbersOf_eq_nil_iff]

theorem restoreDrives_drives (s : State) :
    (restoreDrives s).blind.drives = s.blind.drives.map (fun d => if d.inService then d else d.restore) := rfl

theorem restoreDrives_services (s : State) : ∀ d ∈ (restoreDrives s).blind.drives, d.inService = true := by
  intro d mem
  obtain ⟨e, -, rfl⟩ := List.mem_map.1 (restoreDrives_drives s ▸ mem)
  split
  · assumption
  · rfl

/-- What a SERVICE CLEAR does to a station with a drive out of service (R164). -/
structure Clears (s t : State) : Prop extends BlindFrame s t where
  found : t.isRaised .driveOut = false
  alerts : AlertsKept [.driveOut] s t
  length : t.blind.drives.length = s.blind.drives.length
  services : ∀ d ∈ t.blind.drives, d.inService = true
  asserted : s.blind.emergency = true → t.blind.drives = s.blind.drives.map (fun d => if d.inService then d else d.restore)
  returned : s.blind.emergency = false → ∀ number d e, pick? s.blind.drives number = some d → d.inService = false →
    d.limits.openEnd = false → pick? t.blind.drives number = some e → e.streak = 0 ∧ e.position = none ∧ e.state ≠ .stopped

theorem blindClear_clears (law : DriveLaw s.blind) (out : ¬∀ d ∈ s.blind.drives, d.inService = true) : Clears s (blindClear s) := by
  have alerts : AlertsKept [.driveOut] s (restoreDrives s) :=
    (alertsKept_closed [.driveOut] s).clear _ (by simp) (by exact AlertsKept.refl _ s)
  have found : (restoreDrives s).isRaised .driveOut = false := by
    rw [restoreDrives, isRaised_clear]
    simp
  have length : (restoreDrives s).blind.drives.length = s.blind.drives.length := List.length_map _
  unfold blindClear
  rw [if_neg (out ∘ (outDrives_eq_nil_iff _).1)]
  cases emergency : s.blind.emergency with
  | true =>
    rw [if_pos rfl]
    exact ⟨restoreDrives_frame s, found, alerts, length, restoreDrives_services s, fun _ => rfl, fun released => nomatch emergency.symm.trans released⟩
  | false =>
    rw [if_neg (nomatch ·)]
    have taken : Onward (restoreDrives s) (forEach s.blind.outDrives takeTarget (restoreDrives s)) :=
      forEach_rel Onward .refl .trans _ takeTarget_onward _ _
    have settled := settleStage_onward stageRounds false (forEach s.blind.outDrives takeTarget (restoreDrives s))
    have stands : AlertsKept [] (restoreDrives s) (settleStage stageRounds false (forEach s.blind.outDrives takeTarget (restoreDrives s))) :=
      (alertsKept_closed [] _).settleStage _ _
        (forEach_keeps (AlertsKept [] (restoreDrives s)) _ (fun n _ p => (alertsKept_closed [] _).takeTarget n p) _ _ (.refl _ _))
    refine ⟨(restoreDrives_frame s).trans ((takeTargetsOf_frame _ _).trans (settleStage_frame _ _ _)), (stands _ (by simp)).trans found,
      fun a other => (stands a (by simp)).trans (alerts a other), (taken.trans settled).length_eq.symm.trans length,
      (taken.trans settled).services (restoreDrives_services s), fun asserted => (nomatch emergency.symm.trans asserted),
      fun _ number d e fitted gone opens held => ?_⟩
    have stopped := law.out d (mem_of_pick? fitted) gone
    have restored : pick? (restoreDrives s).blind.drives number = some d.restore := by
      rw [restoreDrives_drives, pick?_map, fitted, Option.map_some, if_neg (by rw [gone]; exact (nomatch ·))]
    obtain ⟨f, moved, way, moves⟩ := takeTargets_move (mem_outDrives.2 ⟨d, fitted, gone⟩) restored (restore_unplaced stopped opens)
    obtain ⟨g, last, onward⟩ := settled.pick_of moved
    obtain rfl := Option.some.inj (last.symm.trans held)
    exact ⟨(onward.unplaced 0 way).streak, (onward.unplaced 0 way).position, onward.moving 0 way moves⟩

/-- The Override Unit's record of a trap is the one thing a SERVICE CLEAR empties there (R174). -/
def State.unrecorded (s : State) : State := s.setPanel { s.panel with record := none, trapAt := none }

end Clear

/-- Settles O59: a SERVICE CLEAR returns the drives that are out of service and empties the cause record, in either order. -/
theorem clearsReturnDrives : Obligations.ClearsReturnDrives := by
  unfold Obligations.ClearsReturnDrives
  refine fun s source dest accepts law => ⟨fun all => ?_, fun ⟨d, mem, out⟩ => ?_⟩
  · have idle : ∀ t : State, t.blind = s.blind → blindClear t = t := fun t same => if_pos ((outDrives_eq_nil_iff _).2 (same ▸ all))
    rw [exec_of_message (effectOf_serviceClear source dest s) accepts]
    rcases fanOut_pair .blind .panel takeClear s with order | order
    · rw [order]
      exact congrArg (fun t => Host.Outcome.next (panelClear t)) (idle s rfl)
    · rw [order]
      exact congrArg Host.Outcome.next (idle s.unrecorded rfl)
  · have gone : ¬∀ d ∈ s.blind.drives, d.inService = true := fun all => nomatch (all d mem).symm.trans out
    refine ⟨_, exec_of_message (effectOf_serviceClear source dest s) accepts, ?_⟩
    rcases fanOut_pair .blind .panel takeClear s with order | order
    · have clears := blindClear_clears law gone
      rw [order]
      refine ⟨clears.toRoomFrame.trans (panelClear_frame _), congrArg (fun p : Panel => { p with record := none, trapAt := none }) clears.panel,
        clears.air, clears.found, clears.alerts, clears.length, clears.services, clears.asserted, clears.returned⟩
    · have clears := blindClear_clears (s := s.unrecorded) law gone
      rw [order]
      exact ⟨(panelClear_frame s).trans clears.toRoomFrame, clears.panel, clears.air, clears.found, clears.alerts, clears.length,
        clears.services, clears.asserted, clears.returned⟩

end Sys2Proof.Machine
end

section
/-!
PROOFS. Changes made to drives by their numbers, drives that enter RUNNING together, and the settle window (R155, R158).
-/

namespace Sys2Proof.Machine

/-! ### Changes made by number -/

section Numbered

variable {α : Type} {xs : List α}

theorem pick?_succ (xs : List α) (k : Nat) : pick? xs (k + 1) = xs[k]? := rfl

theorem put_mapIdx (n : Nat) {x y : α} (at_n : pick? xs n = some y) :
    put xs n x = xs.mapIdx (fun k z => if k + 1 = n then x else z) := by
  refine List.ext_getElem? fun k => ?_
  rw [List.getElem?_mapIdx]
  by_cases same : k + 1 = n
  · subst same
    rw [← pick?_succ, pick?_put_same at_n, ← pick?_succ, at_n, Option.map_some, if_pos rfl]
  · rw [← pick?_succ, pick?_put_other same, pick?_succ]
    cases xs[k]? with
    | none => rfl
    | some z => rw [Option.map_some, if_neg same]

theorem mem_numbersOf_succ {p : α → Bool} {k : Nat} {x : α} (at_k : xs[k]? = some x) : k + 1 ∈ numbersOf xs p ↔ p x = true := by
  rw [mem_numbersOf, pick?_succ, at_k]
  simp

/-- A change by number of the elements that meet a condition is a change of each that meets it. -/
theorem mapIdx_numbersOf (xs : List α) (p : α → Bool) (f : α → α) :
    xs.mapIdx (fun k x => if k + 1 ∈ numbersOf xs p then f x else x) = xs.map (fun x => if p x = true then f x else x) := by
  refine List.ext_getElem? fun k => ?_
  rw [List.getElem?_mapIdx, List.getElem?_map]
  cases at_k : xs[k]? with
  | none => rfl
  | some x => simp only [Option.map_some, mem_numbersOf_succ at_k]

end Numbered

namespace Blind

theorem mapDrive_eq (b : Blind) (n : Nat) (f : Drive → Drive) :
    b.mapDrive n f = { b with drives := b.drives.mapIdx (fun k d => if k + 1 = n then f d else d) } := by
  cases fitted : pick? b.drives n with
  | none =>
    rw [mapDrive_of_absent fitted]
    have same : b.drives.mapIdx (fun k d => if k + 1 = n then f d else d) = b.drives := by
      refine List.ext_getElem? fun k => ?_
      rw [List.getElem?_mapIdx]
      by_cases own : k + 1 = n
      · subst own
        rw [← pick?_succ, fitted]
        rfl
      · simp only [own, if_false, Option.map_id']
    rw [same]
  | some d =>
    rw [mapDrive_of_fitted fitted, put_mapIdx n fitted]
    refine congrArg (fun drives => ({ b with drives := drives } : Blind)) (List.ext_getElem? fun k => ?_)
    rw [List.getElem?_mapIdx, List.getElem?_mapIdx]
    by_cases own : k + 1 = n
    · subst own
      rw [pick?_succ] at fitted
      simp [fitted]
    · simp [own]

/-- A change made to the drives of distinct numbers. -/
theorem foldl_mapDrive_eq {numbers : List Nat} (nodup : numbers.Nodup) (f : Drive → Drive) (b : Blind) :
    numbers.foldl (fun b n => b.mapDrive n f) b =
      { b with drives := b.drives.mapIdx (fun k d => if k + 1 ∈ numbers then f d else d) } := by
  induction numbers generalizing b with
  | nil =>
    refine congrArg (fun drives => ({ b with drives := drives } : Blind)) (List.ext_getElem? fun k => ?_).symm
    rw [List.getElem?_mapIdx]
    simp
  | cons n rest ih =>
    obtain ⟨apart, rest_nodup⟩ := List.nodup_cons.1 nodup
    rw [List.foldl_cons, ih rest_nodup, mapDrive_eq]
    refine congrArg (fun drives => ({ b with drives := drives } : Blind)) (List.ext_getElem? fun k => ?_)
    simp only [List.getElem?_mapIdx, Option.map_map]
    refine congrArg (fun g => Option.map g b.drives[k]?) (funext fun d => ?_)
    simp only [Function.comp_apply, List.mem_cons]
    by_cases own : k + 1 = n
    · subst own
      simp [apart]
    · simp [own]

theorem foldl_numbersOf (p : Drive → Bool) (f : Drive → Drive) (b : Blind) :
    (numbersOf b.drives p).foldl (fun b n => b.mapDrive n f) b =
      { b with drives := b.drives.map (fun d => if p d = true then f d else d) } := by
  rw [foldl_mapDrive_eq (nodup_numbersOf _ _), mapIdx_numbersOf]

end Blind

/-! ### Drives that enter RUNNING together (R155) -/

section Entering

variable {s : State} {numbers : List Nat}

theorem startMotors_eq (numbers : List Nat) (s : State) {b : Blind}
    (started : numbers.foldl (fun b n => b.mapDrive n (·.startMotor s.now)) s.blind = b) :
    startMotors numbers s =
      if s.blind.runningCount = 0 ∧ b.runningCount ≠ 0 then motionStarted (s.setBlind b) else s.setBlind b := by
  subst started
  rfl

theorem forEach_idle {α : Type} {act : α → State → State} {events : List α} (idle : ∀ a ∈ events, act a s = s) :
    forEach events act s = s := by
  induction events with
  | nil => rfl
  | cons a rest ih =>
    show forEach rest act (act a s) = s
    rw [idle a List.mem_cons_self]
    exact ih fun b mem => idle b (List.mem_cons_of_mem _ mem)

theorem forEach_induct {α : Type} {P : State → Prop} {act : α → State → State} {events : List α}
    (keep : ∀ a ∈ events, ∀ s, P s → P (act a s)) (start : P s) : P (forEach events act s) := by
  induction events generalizing s with
  | nil => exact start
  | cons a rest ih => exact ih (fun b mem => keep b (List.mem_cons_of_mem _ mem)) (keep a List.mem_cons_self s start)

/-- The motor of a drive with a planned run starts (R151, R152, R155). -/
theorem startMotor_of_planned {d : Drive} (planned : d.run.isSome = true) (now : Nat) :
    d.startMotor now = { d with state := .running, since := now, due := d.run.map (fun r => now + r.length * 100) } := by
  obtain ⟨r, run⟩ := Option.isSome_iff_exists.1 planned
  rw [Drive.startMotor, run]
  rfl

/-- Where no limit is met, the drives run, and the Light Controller hears of the first (R133, R155). -/
theorem enterRunning_of_clear {b : Blind}
    (started : numbers.foldl (fun b n => b.mapDrive n (·.startMotor s.now)) s.blind = b)
    (clear : ∀ n ∈ numbers, ∀ d, pick? b.drives n = some d → d.atLimit = false) :
    enterRunning numbers s =
      if s.blind.runningCount = 0 ∧ b.runningCount ≠ 0 then motionStarted (s.setBlind b) else s.setBlind b := by
  have blind : (startMotors numbers s).blind = b := by
    rw [startMotors_eq numbers s started]
    split <;> rfl
  rw [← startMotors_eq numbers s started]
  refine forEach_idle fun n mem => ?_
  cases fitted : pick? (startMotors numbers s).blind.drives n with
  | none =>
    rw [checkLimit, fitted]
    rfl
  | some d =>
    refine checkLimit_of_clear fitted fun stops => ?_
    rw [blind] at fitted
    exact nomatch (clear n mem d fitted).symm.trans stops.2

/-- What the start of motors leaves of the whole station. -/
structure Starts (s : State) (b : Blind) (t : State) : Prop extends BlindFrame s t where
  bus : t.bus = s.bus
  alerts : AlertsKept [] s t
  blind : t.blind = b
  hold : t.light.hold = if s.blind.runningCount = 0 ∧ b.runningCount ≠ 0 then .held else s.light.hold

theorem enterRunning_starts {b : Blind}
    (started : numbers.foldl (fun b n => b.mapDrive n (·.startMotor s.now)) s.blind = b)
    (clear : ∀ n ∈ numbers, ∀ d, pick? b.drives n = some d → d.atLimit = false) : Starts s b (enterRunning numbers s) := by
  have frame := enterRunning_frame numbers s
  rw [enterRunning_of_clear started clear] at frame ⊢
  split at frame
  next first => exact ⟨by rwa [if_pos first], by rw [if_pos first]; rfl, by rw [if_pos first]; exact .refl _ s, by rw [if_pos first]; rfl,
    by rw [if_pos first, if_pos first]; rfl⟩
  next later => exact ⟨by rwa [if_neg later], by rw [if_neg later]; rfl, by rw [if_neg later]; exact .refl _ s, by rw [if_neg later]; rfl,
    by rw [if_neg later, if_neg later]; rfl⟩

end Entering

/-! ### The start in hand, where one is held (R155, R156) -/

section Hand

variable {s t u : State}

/-- A start in hand stays in hand. -/
def HandKept (s t : State) : Prop := s.blind.hand ≠ .nothing → t.blind.hand = s.blind.hand

theorem HandKept.of_same (h : t.blind.hand = s.blind.hand) : HandKept s t := fun _ => h

theorem HandKept.refl (s : State) : HandKept s s := .of_same rfl

theorem HandKept.trans (h : HandKept s t) (k : HandKept t u) : HandKept s u := fun held => by
  have first := h held
  rw [← first] at held
  exact (k held).trans first

@[simp] theorem mapDrive_hand (b : Blind) (n : Nat) (f : Drive → Drive) : (b.mapDrive n f).hand = b.hand := by
  unfold Blind.mapDrive
  split <;> rfl

theorem foldl_mapDrive_hand (numbers : List Nat) (f : Drive → Drive) (b : Blind) :
    (numbers.foldl (fun b n => b.mapDrive n f) b).hand = b.hand :=
  foldl_keeps Blind.hand _ (fun b n => mapDrive_hand b n f) numbers b

theorem haltAtLimit_hand (number : Nat) (s : State) : HandKept s (haltAtLimit number s) := by
  unfold haltAtLimit
  split
  · exact .refl s
  · split
    · exact .refl s
    next r run =>
      refine .of_same ?_
      show (((haltDrive number _ s).blind.mapDrive number _).mapDrive number _).hand = _
      rw [mapDrive_hand, mapDrive_hand, haltDrive_blind, mapDrive_hand]

theorem checkLimit_hand (number : Nat) (s : State) : HandKept s (checkLimit number s) := by
  unfold checkLimit
  split
  · exact haltAtLimit_hand number s
  · exact .refl s

theorem enterRunning_hand (numbers : List Nat) (s : State) : HandKept s (enterRunning numbers s) := by
  have started : HandKept s (startMotors numbers s) := .of_same <| by
    rw [startMotors_eq numbers s rfl]
    split <;> exact foldl_mapDrive_hand _ _ _
  exact started.trans (forEach_rel HandKept .refl .trans _ checkLimit_hand numbers _)

theorem planGroup_hand (group : Nat) (s : State) : (planGroup group s).blind.hand = s.blind.hand := foldl_mapDrive_hand _ _ _

theorem feederCheck_of_held (group : Nat) (held : s.blind.hand ≠ .nothing) : feederCheck group s = (planGroup group s, false) := by
  unfold feederCheck
  exact if_pos (.inr (by rwa [planGroup_hand]))

theorem feederCheck_hand (group : Nat) (s : State) : HandKept s (feederCheck group s).1 := fun held => by
  rw [feederCheck_of_held group held]
  exact planGroup_hand group s

theorem launchGroup_hand (numbers : List Nat) (s : State) : HandKept s (launchGroup numbers s).1 := by
  have formed : HandKept s (formGroup numbers s) := .of_same (foldl_mapDrive_hand _ _ _)
  unfold launchGroup
  dsimp only
  split
  · exact formed.trans (enterRunning_hand numbers _)
  · exact formed.trans (feederCheck_hand _ _)

theorem settleStage_hand : ∀ (rounds : Nat) (recheck : Bool) (s : State), HandKept s (settleStage rounds recheck s)
  | 0, _, s => .refl s
  | n + 1, recheck, s => by
    have granted : HandKept s (grantSlots s).1 := eachAnswered_rel HandKept .refl .trans launchGroup launchGroup_hand _ s
    have checked : HandKept s (recheckGroups (grantSlots s).1).1 :=
      granted.trans (eachAnswered_rel HandKept .refl .trans feederCheck feederCheck_hand _ _)
    unfold settleStage
    split
    · exact .refl s
    · dsimp only
      split
      · split
        · exact checked.trans (settleStage_hand n true _)
        · exact checked
      · split
        · exact granted.trans (settleStage_hand n true _)
        · exact granted

end Hand

/-! ### The settle window (R158) -/

section Window

variable {s : State}

theorem closeWindow_eq {group drives held lower opened due : Nat} (hand : s.blind.hand = .window group drives held lower opened due) :
    closeWindow s = settleStage stageRounds true
      (if held + lower + s.blind.runningCount + drives ≤ s.loader.settings.feederLimit then
        enterRunning (s.blind.groupIn group .settling) (s.setBlind { s.blind with hand := .nothing })
       else backOff group (offerFeederEnd drives (s.setBlind { s.blind with hand := .nothing }))) := by
  rw [closeWindow, hand]
  rfl

theorem exec_settleWindowExpiry {group drives held lower opened due : Nat} (up : s.started = true)
    (hand : s.blind.hand = .window group drives held lower opened due) :
    exec .settleWindowExpiry s = .next (closeWindow (s.setNow (max s.now due))) :=
  exec_of_expiry (timer := (·.blind.hand.timer)) (effectOf_settleWindowExpiry s) up (by rw [hand]; rfl)

/-- The drives of one group that settle are all that do. -/
theorem settling_iff {group : Nat} {d : Drive} (own : d.state = .settling → d.group = some group) :
    (d.group == some group && d.state == .settling) = true ↔ d.state = .settling := by
  rw [Bool.and_eq_true, beq_iff_eq, beq_iff_eq]
  exact ⟨And.right, fun settles => ⟨own settles, settles⟩⟩

theorem map_settling {group : Nat} {drives : List Drive} (own : ∀ d ∈ drives, d.state = .settling → d.group = some group)
    (f : Drive → Drive) :
    drives.map (fun d => if (d.group == some group && d.state == .settling) = true then f d else d) =
      drives.map (fun d => if d.state = .settling then f d else d) :=
  List.map_congr_left fun d mem => by simp only [settling_iff (own d mem)]

/-- The window closes with room for the group: its drives run (R158). -/
theorem closeWindow_runs {group drives held lower opened due : Nat} {b : Blind}
    (hand : s.blind.hand = .window group drives held lower opened due)
    (alone : ∀ d ∈ s.blind.drives, d.state ≠ .waitStage ∧ d.state ≠ .waitFeeder ∧
      (d.state = .settling → d.group = some group ∧ d.run.isSome = true ∧ d.atLimit = false))
    (room : held + lower + s.blind.runningCount + drives ≤ s.loader.settings.feederLimit)
    (hb : b = { s.blind with
      hand := .nothing
      drives := s.blind.drives.map (fun d => if d.state = .settling then { d with
        state := .running, since := s.now, due := d.run.map (fun r => s.now + r.length * 100) } else d) }) :
    Starts (s.setBlind { s.blind with hand := .nothing }) b (closeWindow s) := by
  have started : (s.blind.groupIn group .settling).foldl (fun b n => b.mapDrive n (·.startMotor s.now)) { s.blind with hand := .nothing } = b := by
    have folded := Blind.foldl_numbersOf (fun d => d.group == some group && d.state == .settling) (·.startMotor s.now)
      { s.blind with hand := .nothing }
    rw [map_settling fun d mem => fun settles => ((alone d mem).2.2 settles).1] at folded
    refine folded.trans ((congrArg (fun drives => ({ s.blind with hand := .nothing, drives := drives } : Blind))
      (List.map_congr_left fun d mem => ?_)).trans hb.symm)
    split
    next settles => exact startMotor_of_planned ((alone d mem).2.2 settles).2.1 s.now
    next => rfl
  have entered := enterRunning_starts (s := s.setBlind { s.blind with hand := .nothing }) started fun n mem d fitted => ?_
  · have rest : ∀ d ∈ b.drives, d.state ≠ .waitStage ∧ d.state ≠ .waitFeeder := by
      rw [hb]
      intro d mem
      obtain ⟨e, inside, rfl⟩ := List.mem_map.1 mem
      split
      · exact ⟨(nomatch ·), (nomatch ·)⟩
      · exact ⟨(alone e inside).1, (alone e inside).2.1⟩
    rw [closeWindow_eq hand, if_pos room, settleStage_of_idle]
    · exact entered
    · exact (inState_eq_nil_iff _ _).2 (entered.blind ▸ fun d mem => (rest d mem).1)
    · exact waitingGroups_eq_nil (entered.blind ▸ fun d mem waits => absurd waits (rest d mem).2)
  · obtain ⟨e, held, settles⟩ := mem_numbersOf.1 mem
    rw [Bool.and_eq_true, beq_iff_eq, beq_iff_eq] at settles
    rw [hb, pick?_map, held, Option.map_some, if_pos settles.2, Option.some_inj] at fitted
    subst fitted
    exact ((alone e (mem_of_pick? held)).2.2 settles.2).2.2

theorem feederBackoff_of_address {address : Byte} (addressed : s.loader.address = some address) :
    s.feederBackoff = (address.toNat % 8 + 1) * 2000 := by
  rw [State.feederBackoff, addressed]
  show (address.toNat % 8 + 1) * 2 * 1000 = _
  omega

/-- The window closes without room: the group backs off, and its FEEDER END is offered (R158). -/
theorem closeWindow_backs {group drives held lower opened due : Nat} {address : Byte}
    (hand : s.blind.hand = .window group drives held lower opened due) (addressed : s.loader.address = some address)
    (alone : ∀ d ∈ s.blind.drives, d.state ≠ .waitStage ∧ d.state ≠ .waitFeeder ∧ (d.state = .settling → d.group = some group))
    (exceeds : s.loader.settings.feederLimit < held + lower + s.blind.runningCount + drives) :
    closeWindow s = (offer (Frame.plain .feederEnd broadcast [byte s.loader.settings.facade, byte drives]) s).setBlind { s.blind with
      hand := .nothing
      drives := s.blind.drives.map (fun d => if d.state = .settling then { d with state := .waitFeeder } else d)
      backoffs := s.blind.backoffs ++ [{ group := group, due := s.now + (address.toNat % 8 + 1) * 2000 }] } := by
  have quiet := offerFeederEnd_frame drives (s.setBlind { s.blind with hand := .nothing })
  have blind := congrArg Blind.drives quiet.blind
  have due : State.feederBackoff (offerFeederEnd drives (s.setBlind { s.blind with hand := .nothing })) = (address.toNat % 8 + 1) * 2000 :=
    feederBackoff_of_address (quiet.loader ▸ addressed)
  rw [closeWindow_eq hand, if_neg (Nat.not_le.2 exceeds), settleStage_backOff (by rw [blind]; exact fun d mem => ⟨(alone d mem).1, (alone d mem).2.1⟩),
    backOff, withBlind, due, quiet.now, quiet.blind, ← map_settling fun d mem => (alone d mem).2.2]
  exact (congrArg (fun t : State => t.setBlind _) (offer_setBlind _ { s.blind with hand := .nothing } s)).trans rfl

end Window

/-! ### A START heard in the window (R95, R158) -/

section Heard

variable {s : State} {source address : Byte} {drives guard arrival : Nat}

/-- An admitted FEEDER START that makes no sun part fresh and takes the place of no entry is heard first, and then told of as a feeder part,
where it is recorded. -/
theorem take_start_notices (t : PeerTable) (young : ∀ p, t.find source = some p → p.age ≤ 1)
    (place : t.find source ≠ none ∨ t.freeSlot ≠ none ∨ ∀ p, some p ∈ t.slots → p.age = 0) :
    ∃ rest, (t.take source (.start drives guard arrival)).notices = .startHeard source drives arrival :: rest ∧
      ∀ n ∈ rest, ∃ d, n = .feederChanged source d := by
  have recorded (p : Peer) (held : p.address = source) (age : p.age ≤ 1 ∨ p.sun = none) :
      (p.record (.start drives guard arrival)).2 =
        [.startHeard source drives arrival, .feederChanged source (startedFeeder p.feeder drives guard).drives] := by
    have stale : p.freshNotice (.start drives guard arrival) = [] := by
      unfold Peer.freshNotice
      cases sun : p.sun with
      | none => rfl
      | some glare => exact if_neg (fun old => by rcases age with young | none <;> simp_all)
    subst held
    show _ ++ _ ++ p.freshNotice _ = _
    rw [stale]
    rfl
  rcases t.take_cases source (.start drives guard arrival) with ⟨j, q, slot, at_j, e⟩ | ⟨-, idle, -⟩ | ⟨j, -, -, -, e⟩ |
    ⟨j, none, -, full, e⟩ | ⟨-, -, -, e⟩
  · have found : t.find source = some q := PeerTable.find_eq_some_iff.2 ⟨j, slot, at_j⟩
    rw [e, recorded q (PeerTable.find_address found) (.inl (young q found))]
    exact ⟨_, rfl, fun n mem => ⟨_, List.mem_singleton.1 mem⟩⟩
  · exact nomatch idle
  · rw [e]
    refine ⟨_, recorded (Peer.new source) rfl (.inr rfl), fun n mem => ⟨_, List.mem_singleton.1 mem⟩⟩
  · rcases place with found | free | new
    · exact absurd (PeerTable.find_eq_none_iff.2 none) found
    · exact absurd full free
    · rw [PeerTable.replaceable_of_young fun n q at_n => new q (List.mem_of_getElem? at_n)] at e
      exact nomatch e.1
  · rw [e.2]
    exact ⟨[], rfl, fun n mem => nomatch mem⟩

theorem fanOut_startHeard (s : State) :
    fanOut [.air, .blind] (takeNotice (.startHeard source drives arrival)) s = startHeard source drives arrival s := by
  rcases fanOut_pair .air .blind (takeNotice (.startHeard source drives arrival)) s with e | e <;> exact e

theorem fanOut_feederChanged (s : State) :
    fanOut [.air, .blind] (takeNotice (.feederChanged source drives)) s = settleStage stageRounds true s := by
  rcases fanOut_pair .air .blind (takeNotice (.feederChanged source drives)) s with e | e <;> exact e

theorem startHeard_hand {group own held lower opened due : Nat} (addressed : s.loader.address = some address)
    (hand : s.blind.hand = .window group own held lower opened due) :
    (startHeard source drives arrival s).blind.hand = .window group own held
      (if opened ≤ arrival ∧ source.toNat < address.toNat then lower + drives else lower) opened due := by
  rw [startHeard, hand, addressed, Option.getD_some]
  dsimp only
  split
  · rfl
  · exact hand

/-- What a FEEDER START leaves of an open settle window (R95, R158). -/
theorem deliver_start_hand {group own held lower opened due : Nat} (addressed : s.loader.address = some address)
    (hand : s.blind.hand = .window group own held lower opened due) (young : ∀ p, s.peers.find source = some p → p.age ≤ 1)
    (place : s.peers.find source ≠ none ∨ s.peers.freeSlot ≠ none ∨ ∀ p, some p ∈ s.peers.slots → p.age = 0) :
    (deliver (s.peers.take source (.start drives guard arrival)) s).blind.hand = .window group own held
      (if opened ≤ arrival ∧ source.toNat < address.toNat then lower + drives else lower) opened due := by
  obtain ⟨rest, notices, others⟩ := take_start_notices (guard := guard) (drives := drives) (arrival := arrival) s.peers young place
  have told : ∀ t : State, t.loader = s.loader → t.blind = s.blind →
      (forEach ((s.peers.take source (.start drives guard arrival)).notices) (fun n => fanOut [.air, .blind] (takeNotice n)) t).blind.hand =
        .window group own held (if opened ≤ arrival ∧ source.toNat < address.toNat then lower + drives else lower) opened due := by
    intro t loader blind
    have heard := startHeard_hand (source := source) (drives := drives) (arrival := arrival) (s := t) (loader ▸ addressed) (blind ▸ hand)
    rw [notices]
    show (forEach rest _ (fanOut [.air, .blind] (takeNotice (.startHeard source drives arrival)) t)).blind.hand = _
    rw [fanOut_startHeard]
    refine forEach_induct (P := fun u => u.blind.hand = _) (fun n mem u held => ?_) heard
    obtain ⟨d, rfl⟩ := others n mem
    rw [fanOut_feederChanged]
    exact (settleStage_hand _ _ u (by rw [held]; exact (nomatch ·))).trans held
  unfold deliver
  dsimp only
  split
  · exact told _ rfl rfl
  · exact told _ (alertIs_frame _ _ _).loader (alertIs_frame _ _ _).blind

end Heard

theorem feederSum_eq (t : PeerTable) : t.feederSum = (t.slots.map (fun slot => match slot with
    | some p => (match p.feeder with | some f => f.drives | none => 0)
    | none => 0)).sum := by
  refine congrArg List.sum (List.map_congr_left fun slot _ => ?_)
  cases slot with
  | none => rfl
  | some p => cases feeder : p.feeder <;> simp [feeder]

/-- Settles O45: the settle window lets its group run or back off, and counts the STARTs from lower addresses. -/
theorem settleWindowsDecide : Obligations.SettleWindowsDecide := by
  unfold Obligations.SettleWindowsDecide
  refine ⟨fun s group drives held lower opened due n total address up addressed hand now sum alone => ⟨fun room => ?_, fun exceeds => ?_⟩,
    fun s source dest facade count duration address arrival group own held lower opened due accepts addressed on same one four first last
      hand young place => ?_, feederSum_eq⟩
  · subst now sum
    have starts := closeWindow_runs (s := s.setNow (max s.now due)) (by exact hand) alone (by exact room) rfl
    exact ⟨_, exec_settleWindowExpiry up hand, (BlindFrame.setBlind (s.setNow (max s.now due)) { s.blind with hand := .nothing } rfl).trans
      starts.toBlindFrame, starts.bus, starts.alerts, starts.blind⟩
  · subst now sum
    exact (exec_settleWindowExpiry up hand).trans (congrArg Host.Outcome.next (closeWindow_backs (s := s.setNow (max s.now due))
      (by exact hand) addressed (fun d mem => ⟨(alone d mem).1, (alone d mem).2.1, fun settles => ((alone d mem).2.2 settles).1⟩) exceeds))
  · refine ⟨_, (exec_of_message (effectOf_feederStart source dest facade count duration arrival s) accepts).trans
      (congrArg _ (takePeer_of_admitted ((admitsStart_iff _ _ _ _).2 ⟨on, same, ⟨one, four⟩, first, last⟩) _ _ s)),
      deliver_roomFrame _ s, deliver_start_hand addressed hand young place⟩

end Sys2Proof.Machine
end

section
/-!
PROOFS. A group that backed off checks the feeder again (R156, R157, R159), and the stage grants its slots (R155, R161).
-/

namespace Sys2Proof.Machine

/-! ### The longest duration of some drives (R156) -/

theorem le_foldr_max {xs : List Nat} {x : Nat} (mem : x ∈ xs) : x ≤ xs.foldr max 0 := by
  induction xs with
  | nil => exact nomatch mem
  | cons y ys ih =>
    rcases List.mem_cons.1 mem with rfl | later
    · exact Nat.le_max_left _ _
    · exact (ih later).trans (Nat.le_max_right _ _)

theorem foldr_max_mem (xs : List Nat) : xs.foldr max 0 = 0 ∨ xs.foldr max 0 ∈ xs := by
  induction xs with
  | nil => exact .inl rfl
  | cons y ys ih =>
    rw [List.foldr_cons]
    rcases Nat.le_total (ys.foldr max 0) y with low | high
    · exact .inr (by rw [Nat.max_eq_left low]; exact List.mem_cons_self)
    · rw [Nat.max_eq_right high]
      exact ih.imp_right (List.mem_cons_of_mem _)

theorem mem_durations {b : Blind} {numbers : List Nat} {n : Nat} :
    n ∈ numbers.filterMap (fun n => ((pick? b.drives n).bind (·.run)).map Run.duration) ↔
      ∃ k ∈ numbers, ∃ d r, pick? b.drives k = some d ∧ d.run = some r ∧ (r.length + 9) / 10 = n := by
  rw [List.mem_filterMap]
  refine exists_congr fun k => and_congr_right fun _ => ?_
  cases fitted : pick? b.drives k with
  | none => simp
  | some d =>
    cases run : d.run with
    | none => simp [run]
    | some r => simp [run, Run.duration, ceilDiv]

theorem longest_spec (b : Blind) (numbers : List Nat) :
    (∀ k ∈ numbers, ∀ d r, pick? b.drives k = some d → d.run = some r → (r.length + 9) / 10 ≤ b.longest numbers) ∧
      (b.longest numbers = 0 ∨ ∃ k ∈ numbers, ∃ d r, pick? b.drives k = some d ∧ d.run = some r ∧
        (r.length + 9) / 10 = b.longest numbers) :=
  ⟨fun k mem d r fitted run => le_foldr_max (mem_durations.2 ⟨k, mem, d, r, fitted, run, rfl⟩),
    (foldr_max_mem _).imp_right mem_durations.1⟩

/-! ### Numbers of changed elements -/

section Numbers

variable {α : Type} {xs : List α}

theorem numbersOf_map (f : α → α) (p : α → Bool) : numbersOf (xs.map f) p = numbersOf xs (fun x => p (f x)) := by
  unfold numbersOf
  rw [List.length_map]
  simp only [List.getElem?_map, Option.map_map]
  rfl

theorem numbersOf_congr {p q : α → Bool} (same : ∀ x ∈ xs, p x = q x) : numbersOf xs p = numbersOf xs q := by
  unfold numbersOf
  refine congrArg _ (List.filter_congr fun i _ => ?_)
  cases at_i : xs[i]? with
  | none => rfl
  | some x => rw [Option.map_some, Option.map_some, same x (List.mem_of_getElem? at_i)]

theorem pairwise_numbersOf (xs : List α) (p : α → Bool) : (numbersOf xs p).Pairwise (· < ·) :=
  (List.pairwise_lt_range.filter _).map _ fun _ _ => Nat.succ_lt_succ

theorem numbersOf_eq_range' (xs : List α) (p : α → Bool) :
    numbersOf xs p = (List.range' 1 xs.length).filter (fun k => (pick? xs k).any p) := by
  rw [List.range'_eq_map_range, List.filter_map, numbersOf]
  have shift : (fun x => 1 + x) = (· + 1) := funext fun x => Nat.add_comm 1 x
  rw [shift]
  refine congrArg _ (List.filter_congr fun i _ => ?_)
  simp only [Function.comp_apply, pick?_succ]
  cases xs[i]? <;> rfl

end Numbers

/-! ### The planning of a group (R156) -/

section Planning

variable {s : State} {group : Nat}

/-- The blind with the runs of a group in WAIT_FEEDER planned anew (R156). -/
def Blind.plan (b : Blind) (group : Nat) : Blind :=
  { b with drives := b.drives.map (fun e => if e.group = some group ∧ e.state = .waitFeeder then
      { e with run := e.plan b.applied } else e) }

theorem planGroup_eq (group : Nat) (s : State) : planGroup group s = s.setBlind (s.blind.plan group) := by
  have folded := Blind.foldl_numbersOf (fun d => d.group == some group && d.state == .waitFeeder)
    (fun d => { d with run := d.plan s.blind.applied }) s.blind
  simp only [Bool.and_eq_true, beq_iff_eq] at folded
  exact congrArg s.setBlind folded

/-- Every run of a drive in WAIT_FEEDER is the one it needs now. -/
def Blind.Planned (b : Blind) : Prop := ∀ d ∈ b.drives, d.state = .waitFeeder → d.run = d.plan b.applied

theorem planGroup_of_planned (planned : s.blind.Planned) (group : Nat) : planGroup group s = s := by
  rw [planGroup_eq]
  have same : s.blind.drives.map (fun e => if e.group = some group ∧ e.state = .waitFeeder then
      { e with run := e.plan s.blind.applied } else e) = s.blind.drives := by
    refine (List.map_congr_left fun d mem => ?_).trans (List.map_id _)
    split
    next own =>
      rw [← planned d mem own.2]
      rfl
    next => rfl
  show s.setBlind { s.blind with drives := _ } = s
  rw [same]
  rfl

theorem plan_groupIn (b : Blind) (group g : Nat) (state : DriveState) : (b.plan group).groupIn g state = b.groupIn g state := by
  refine (numbersOf_map _ _).trans (numbersOf_congr fun d _ => ?_)
  split <;> rfl

theorem plan_runningCount (b : Blind) (group : Nat) : (b.plan group).runningCount = b.runningCount := by
  refine congrArg List.length ((numbersOf_map _ _).trans (numbersOf_congr fun d _ => ?_))
  split <;> rfl

/-! ### The feeder check (R156, R157) -/

theorem feederCheck_eq {t : State} {members : List Nat} (planned : planGroup group s = t)
    (grouped : t.blind.groupIn group .waitFeeder = members) :
    feederCheck group s =
      if members = [] ∨ t.blind.hand ≠ .nothing then (t, false)
      else if t.loader.settings.feederLimit < t.peers.feederSum + t.blind.runningCount + members.length then (t, false)
      else askFeeder group members t := by
  subst planned grouped
  rfl

theorem feederCheck_of_full {members : List Nat} (grouped : s.blind.groupIn group .waitFeeder = members)
    (full : members = [] ∨ s.blind.hand ≠ .nothing ∨
      s.loader.settings.feederLimit < s.peers.feederSum + s.blind.runningCount + members.length) :
    feederCheck group s = (s.setBlind (s.blind.plan group), false) := by
  rw [feederCheck_eq (planGroup_eq group s) ((plan_groupIn _ _ _ _).trans grouped)]
  rcases full with none | held | exceeds
  · rw [if_pos (.inl none)]
  · rw [if_pos (.inr (by exact held))]
  · rw [if_pos (c := _ < _) (by rw [State.setBlind_blind, plan_runningCount]; exact exceeds), ite_self]

theorem feederCheck_of_room {members : List Nat} (grouped : s.blind.groupIn group .waitFeeder = members) (some_member : members ≠ [])
    (free : s.blind.hand = .nothing)
    (room : s.peers.feederSum + s.blind.runningCount + members.length ≤ s.loader.settings.feederLimit) :
    feederCheck group s = askFeeder group members (s.setBlind (s.blind.plan group)) := by
  rw [feederCheck_eq (planGroup_eq group s) ((plan_groupIn _ _ _ _).trans grouped),
    if_neg (not_or.2 ⟨some_member, by exact not_not.2 free⟩),
    if_neg (by rw [State.setBlind_blind, plan_runningCount]; exact Nat.not_lt.2 room)]

/-- The drives of a group that go from one state to another. -/
def moved (group : Nat) (before after : DriveState) (drives : List Drive) : List Drive :=
  drives.map (fun e => if e.group = some group ∧ e.state = before then { e with state := after } else e)

theorem awaitReport_eq (group drives : Nat) (s : State) :
    awaitReport group drives s = s.setBlind { s.blind with
      nextTag := s.blind.nextTag + 1, hand := .awaiting group drives s.blind.nextTag
      drives := moved group .waitFeeder .settling s.blind.drives } := by
  unfold awaitReport moved withBlind
  simp only [Bool.and_eq_true, beq_iff_eq]

theorem backOff_eq (group : Nat) (s : State) :
    backOff group s = s.setBlind { s.blind with
      hand := .nothing, drives := moved group .settling .waitFeeder s.blind.drives
      backoffs := s.blind.backoffs ++ [{ group := group, due := s.now + s.feederBackoff }] } := by
  unfold backOff moved withBlind
  simp only [Bool.and_eq_true, beq_iff_eq]

/-- A frame that a station with an address in NORMAL offers is taken. -/
theorem takesOffer_of_normal (addressed : s.loader.address.isSome = true) (normal : s.isNormal = true) (kind : Kind) :
    s.takesOffer kind = true := 
  (takesOffer_iff s kind).2 ⟨Option.isSome_iff_ne_none.1 addressed, .inl (by simpa [State.isNormal] using normal)⟩

theorem feederStart_joins (room : s.bus.queue.length < 10) (numbers : List Nat) : (s.bus.enqueue (s.feederStart numbers)).2 = true := by
  rw [enqueue_of_room (fun g _ => Bool.eq_false_iff.2 fun replaced => ?_) room]
  rcases (replaces_iff _ _).1 replaced with ⟨kind, -⟩ | ⟨kind, -⟩ | ⟨kind, -⟩ <;> exact nomatch kind

theorem feederStart_turned (full : 10 ≤ s.bus.queue.length) (urgent : ∀ g ∈ s.bus.queue, g.kind = .feederStart ∨ g.kind = .feederEnd)
    (numbers : List Nat) : (s.bus.enqueue (s.feederStart numbers)).2 = false := by
  rw [enqueue_of_full (fun g _ => Bool.eq_false_iff.2 fun replaced => ?_) full fun g mem => ?_]
  · rcases (replaces_iff _ _).1 replaced with ⟨kind, -⟩ | ⟨kind, -⟩ | ⟨kind, -⟩ <;> exact nomatch kind
  · show g.kind.rank ≤ Kind.feederStart.rank
    rcases urgent g mem with kind | kind
    · rw [kind]
    · rw [kind]
      decide

theorem askFeeder_of_taken {numbers : List Nat} (addressed : s.loader.address.isSome = true) (normal : s.isNormal = true)
    (room : s.bus.queue.length < 10) :
    askFeeder group numbers s = ((offer (s.feederStart numbers) s).setBlind { s.blind with
      nextTag := s.blind.nextTag + 1, hand := .awaiting group numbers.length s.blind.nextTag
      drives := moved group .waitFeeder .settling s.blind.drives }, false) := by
  have taken : (offerAnswered (s.feederStart numbers) s).2 = true := by
    rw [offerAnswered_of_taken (takesOffer_of_normal addressed normal _)]
    exact feederStart_joins room numbers
  unfold askFeeder
  dsimp only
  rw [if_pos taken, awaitReport_eq, (offerAnswered_frame _ s).blind]
  rfl

theorem askFeeder_of_turned {numbers : List Nat} (addressed : s.loader.address.isSome = true) (normal : s.isNormal = true)
    (full : 10 ≤ s.bus.queue.length) (urgent : ∀ g ∈ s.bus.queue, g.kind = .feederStart ∨ g.kind = .feederEnd) :
    askFeeder group numbers s = (backOff group ((offer (s.feederStart numbers) s).setBlind { s.blind with
      nextTag := s.blind.nextTag + 1, hand := .awaiting group numbers.length s.blind.nextTag
      drives := moved group .waitFeeder .settling s.blind.drives }), true) := by
  have turned : (offerAnswered (s.feederStart numbers) s).2 = false := by
    rw [offerAnswered_of_taken (takesOffer_of_normal addressed normal _)]
    exact feederStart_turned full urgent numbers
  unfold askFeeder
  dsimp only
  rw [if_neg (by rw [turned]; exact (nomatch ·)), awaitReport_eq, (offerAnswered_frame _ s).blind]
  rfl

theorem mem_moved {drives : List Drive} {before after : DriveState} {d : Drive} (mem : d ∈ moved group before after drives) :
    d.state = after ∨ d ∈ drives ∧ ¬(d.group = some group ∧ d.state = before) := by
  obtain ⟨e, inside, rfl⟩ := List.mem_map.1 mem
  split
  · exact .inl rfl
  next other => exact .inr ⟨inside, other⟩

/-- A group that goes to SETTLING and back to WAIT_FEEDER. -/
theorem moved_back (group : Nat) (drives : List Drive) :
    moved group .settling .waitFeeder (moved group .waitFeeder .settling drives) = moved group .settling .waitFeeder drives := by
  unfold moved
  rw [List.map_map]
  refine List.map_congr_left fun d _ => ?_
  simp only [Function.comp_apply]
  by_cases waits : d.group = some group ∧ d.state = .waitFeeder
  · obtain ⟨own, state⟩ := waits
    cases d
    subst own state
    simp
  · rw [if_neg waits]

/-- A group whose START was discarded at once backs off (R157). -/
theorem backOff_asked {address : Byte} (addressed : s.loader.address = some address) {f : Frame} {hand : StartInHand} {tag : Nat} :
    backOff group ((offer f s).setBlind { s.blind with
      nextTag := tag, hand := hand, drives := moved group .waitFeeder .settling s.blind.drives }) =
    (offer f s).setBlind { s.blind with
      nextTag := tag, hand := .nothing, drives := moved group .settling .waitFeeder s.blind.drives
      backoffs := s.blind.backoffs ++ [{ group := group, due := s.now + (address.toNat % 8 + 1) * 2000 }] } := by
  have quiet := offer_frame f s
  rw [backOff_eq, feederBackoff_of_address (by exact (congrArg (·.address) quiet.loader).trans addressed), State.setBlind_blind,
    State.setBlind_now, quiet.now, moved_back]
  rfl

end Planning

/-! ### The end of a backoff (R159) -/

section Backoff

variable {s : State} {group : Nat}

theorem endBackoff_eq {t : State} {again : Bool}
    (checked : feederCheck group (s.setBlind { s.blind with backoffs := s.blind.backoffs.filter (·.group != group) }) = (t, again)) :
    endBackoff group s = if again then settleStage stageRounds true t else t := by
  unfold endBackoff withBlind
  rw [checked]

theorem exec_feederBackoffExpiry {drive due : Nat} {d : Drive} (up : s.started = true) (fitted : pick? s.blind.drives drive = some d)
    (grouped : d.group = some group)
    (backs : s.blind.backoffs.find? (fun k => k.group == group) = some { group := group, due := due }) :
    exec (.feederBackoffExpiry drive) s = .next (endBackoff group (s.setNow (max s.now due))) := by
  have backoff : s.blind.backoffOf drive = some { group := group, due := due } := by
    rw [Blind.backoffOf, fitted, Option.bind_some, grouped]
    exact backs
  rw [exec_eq_effectOf, effectOf_feederBackoffExpiry, whileStarted_of up, backoff]
  exact congrArg Host.Outcome.next (onExpiry_some _ _ _)

/-- The blind at the check of a group whose backoff has ended (R156, R159). -/
def Blind.recheck (b : Blind) (group : Nat) : Blind :=
  { b with
    backoffs := b.backoffs.filter (fun k => k.group != group)
    drives := b.drives.map (fun e => if e.group = some group ∧ e.state = .waitFeeder then
      { e with run := e.plan b.applied } else e) }

theorem mem_recheck {b : Blind} {d : Drive} (mem : d ∈ (b.recheck group).drives) :
    ∃ e ∈ b.drives, d.state = e.state ∧ d.group = e.group := by
  obtain ⟨e, held, rfl⟩ := List.mem_map.1 mem
  refine ⟨e, held, ?_⟩
  split <;> exact ⟨rfl, rfl⟩

theorem endBackoff_of_full {members : List Nat} (grouped : s.blind.groupIn group .waitFeeder = members)
    (full : s.blind.hand ≠ .nothing ∨
      s.loader.settings.feederLimit < s.peers.feederSum + s.blind.runningCount + members.length) :
    endBackoff group s = s.setBlind (s.blind.recheck group) :=
  endBackoff_eq (feederCheck_of_full (s := s.setBlind { s.blind with backoffs := s.blind.backoffs.filter (·.group != group) })
    grouped (.inr full))

/-- The FEEDER START of a group, as it is laid out (R156, R183). -/
def State.startOf (s : State) (numbers : List Nat) (b : Blind) : Frame :=
  { kind := .feederStart, dest := 255, tag := s.blind.nextTag
    body := [byte s.loader.settings.facade, byte numbers.length, byte (b.longest numbers)] }

theorem checkAnew {members : List Nat} (grouped : s.blind.groupIn group .waitFeeder = members) (some_member : members ≠ [])
    (free : s.blind.hand = .nothing) (room : s.peers.feederSum + s.blind.runningCount + members.length ≤ s.loader.settings.feederLimit) :
    feederCheck group (s.setBlind { s.blind with backoffs := s.blind.backoffs.filter (·.group != group) }) =
      askFeeder group members (s.setBlind (s.blind.recheck group)) :=
  feederCheck_of_room (s := s.setBlind { s.blind with backoffs := s.blind.backoffs.filter (·.group != group) }) grouped some_member free room

theorem endBackoff_of_taken {members : List Nat} (grouped : s.blind.groupIn group .waitFeeder = members) (some_member : members ≠ [])
    (free : s.blind.hand = .nothing) (room : s.peers.feederSum + s.blind.runningCount + members.length ≤ s.loader.settings.feederLimit)
    (addressed : s.loader.address.isSome = true) (normal : s.isNormal = true) (place : s.bus.queue.length < 10) :
    endBackoff group s = (offer (s.startOf members (s.blind.recheck group)) s).setBlind { s.blind.recheck group with
      nextTag := s.blind.nextTag + 1
      hand := .awaiting group members.length s.blind.nextTag
      drives := moved group .waitFeeder .settling (s.blind.recheck group).drives } := by
  rw [endBackoff_eq ((checkAnew grouped some_member free room).trans
    (askFeeder_of_taken (s := s.setBlind (s.blind.recheck group)) addressed normal place)), if_neg (nomatch ·)]
  exact (congrArg (fun t : State => t.setBlind _) (offer_setBlind _ (s.blind.recheck group) s)).trans rfl

theorem endBackoff_of_turned {members : List Nat} {address : Byte} (grouped : s.blind.groupIn group .waitFeeder = members)
    (some_member : members ≠ []) (free : s.blind.hand = .nothing)
    (room : s.peers.feederSum + s.blind.runningCount + members.length ≤ s.loader.settings.feederLimit)
    (addressed : s.loader.address = some address) (normal : s.isNormal = true) (full : 10 ≤ s.bus.queue.length)
    (urgent : ∀ g ∈ s.bus.queue, g.kind = .feederStart ∨ g.kind = .feederEnd)
    (alone : ∀ e ∈ s.blind.drives, e.state ≠ .waitStage ∧ (e.state = .waitFeeder → e.group = some group)) :
    endBackoff group s = (offer (s.startOf members (s.blind.recheck group)) s).setBlind { s.blind.recheck group with
      nextTag := s.blind.nextTag + 1
      drives := moved group .settling .waitFeeder (s.blind.recheck group).drives
      backoffs := (s.blind.recheck group).backoffs ++ [{ group := group, due := s.now + (address.toNat % 8 + 1) * 2000 }] } := by
  have start := askFeeder_of_turned (s := s.setBlind (s.blind.recheck group)) (group := group) (numbers := members)
    (by exact addressed ▸ rfl) normal full urgent
  have rest : ∀ d ∈ moved group .waitFeeder .settling (s.blind.recheck group).drives, d.state ≠ .waitStage ∧ d.state ≠ .waitFeeder := by
    intro d mem
    rcases mem_moved mem with settles | ⟨inside, other⟩
    · exact ⟨fun waits => (nomatch settles.symm.trans waits), fun waits => nomatch settles.symm.trans waits⟩
    · obtain ⟨e, held, state, own⟩ := mem_recheck inside
      rw [state, own] at other
      rw [state]
      exact ⟨(alone e held).1, fun waits => other ⟨(alone e held).2 waits, waits⟩⟩
  rw [endBackoff_eq ((checkAnew grouped some_member free room).trans start), if_pos rfl, settleStage_backOff (by exact rest),
    backOff_asked (s := s.setBlind (s.blind.recheck group)) (by exact addressed)]
  refine ((congrArg (fun t : State => t.setBlind _) (offer_setBlind _ (s.blind.recheck group) s)).trans ?_).trans
    (congrArg (fun hand => (offer (s.startOf members (s.blind.recheck group)) s).setBlind { s.blind.recheck group with
      nextTag := s.blind.nextTag + 1
      hand := hand
      drives := moved group .settling .waitFeeder (s.blind.recheck group).drives
      backoffs := (s.blind.recheck group).backoffs ++ [{ group := group, due := s.now + (address.toNat % 8 + 1) * 2000 }] }) free.symm)
  rfl

end Backoff

end Sys2Proof.Machine
end

section
/-!
PROOFS. The stage grants its two slots to the waiting drives of lowest number (R155, R156, R161).
-/

namespace Sys2Proof.Machine

section Granting

variable {s : State} {numbers : List Nat}

/-- A drive that is granted a slot: it waits for the feeder with its run planned, in the group formed (R155). -/
def Drive.granted (d : Drive) (target group : Nat) : Drive :=
  { d with state := .waitFeeder, run := d.plan target, group := some group }

/-- The blind when a group has been formed (R155). -/
def Blind.formed (b : Blind) (numbers : List Nat) : Blind :=
  { b with
    nextGroup := b.nextGroup + 1
    drives := b.drives.mapIdx (fun k d => if k + 1 ∈ numbers then d.granted b.applied b.nextGroup else d) }

theorem formGroup_eq (nodup : numbers.Nodup) (s : State) : formGroup numbers s = s.setBlind (s.blind.formed numbers) := by
  unfold formGroup withBlind
  dsimp only
  rw [Blind.foldl_mapDrive_eq nodup]
  rfl

/-- What a change by number leaves: each drive is one of those before, changed or not. -/
theorem mem_mapIdx_numbers {drives : List Drive} {f : Drive → Drive} {d : Drive}
    (mem : d ∈ drives.mapIdx (fun k d => if k + 1 ∈ numbers then f d else d)) :
    (∃ n ∈ numbers, ∃ e, pick? drives n = some e ∧ d = f e) ∨ d ∈ drives := by
  obtain ⟨k, inside, rfl⟩ := List.mem_mapIdx.1 mem
  split
  next own => exact .inl ⟨k + 1, own, _, List.getElem?_eq_getElem inside, rfl⟩
  next => exact .inr (List.getElem_mem inside)

theorem pick?_mapIdx_numbers {drives : List Drive} {f : Drive → Drive} {n : Nat} (own : n ∈ numbers) {d : Drive}
    (fitted : pick? drives n = some d) :
    pick? (drives.mapIdx (fun k d => if k + 1 ∈ numbers then f d else d)) n = some (f d) := by
  cases n with
  | zero => exact nomatch fitted
  | succ k =>
    rw [pick?_succ] at fitted ⊢
    rw [List.getElem?_mapIdx, fitted, Option.map_some, if_pos own]

/-- The runs planned at the grant stand at the check that follows it (R155, R156). -/
theorem formed_planned (planned : s.blind.Planned) (numbers : List Nat) : (s.blind.formed numbers).Planned := by
  intro d mem waits
  rcases mem_mapIdx_numbers mem with ⟨n, -, e, -, rfl⟩ | held
  · rfl
  · exact planned d held waits

theorem eachAnswered_idle {α : Type} {act : α → State → State × Bool} {xs : List α} (idle : ∀ a ∈ xs, act a s = (s, false)) :
    eachAnswered act xs s = (s, false) := by
  induction xs with
  | nil => rfl
  | cons a rest ih =>
    rw [eachAnswered, idle a List.mem_cons_self]
    dsimp only
    rw [ih fun b mem => idle b (List.mem_cons_of_mem _ mem)]
    rfl

/-- A grant after which no waiting group finds room ends the event (R153 step 6). -/
theorem settleStage_of_granted {t : State} (released : s.blind.emergency = false) (granted : grantSlots s = (t, false))
    (checked : recheckGroups t = (t, false)) (recheck : Bool) : settleStage stageRounds recheck s = t := by
  have step : settleStage stageRounds recheck s =
      if s.blind.emergency then s
      else if (grantSlots s).2 || (if recheck then recheckGroups (grantSlots s).1 else ((grantSlots s).1, false)).2 then
        settleStage 15 true (if recheck then recheckGroups (grantSlots s).1 else ((grantSlots s).1, false)).1
      else (if recheck then recheckGroups (grantSlots s).1 else ((grantSlots s).1, false)).1 := rfl
  rw [step, if_neg (by rw [released]; exact (nomatch ·)), granted, checked, ite_self]
  rfl

/-- Every group that waits for the feeder has a drive that does. -/
theorem mem_waitingGroups {b : Blind} {group : Nat} (mem : group ∈ b.waitingGroups) :
    ∃ d ∈ b.drives, d.state = .waitFeeder ∧ d.group = some group := by
  unfold Blind.waitingGroups at mem
  obtain ⟨n, waits, grouped⟩ := List.mem_filterMap.1 (List.mem_eraseDups.1 (List.mem_filter.1 mem).1)
  obtain ⟨d, fitted, state⟩ := mem_numbersOf.1 waits
  rw [fitted, Option.bind_some] at grouped
  exact ⟨d, mem_of_pick? fitted, by simpa using state, grouped⟩

theorem plan_of_planned (planned : s.blind.Planned) (group : Nat) : s.setBlind (s.blind.plan group) = s :=
  (planGroup_eq group s).symm.trans (planGroup_of_planned planned group)

/-- Groups whose runs are planned, and that find a start in hand, wait on (R156). -/
theorem recheckGroups_of_held (planned : s.blind.Planned) (held : s.blind.hand ≠ .nothing) : recheckGroups s = (s, false) :=
  eachAnswered_idle fun group _ => by rw [feederCheck_of_full rfl (.inr (.inl held)), plan_of_planned planned]

/-! ### One group (R155) -/

/-- The numbers granted are those of waiting drives, each once, in order. -/
structure Grant (b : Blind) (numbers : List Nat) : Prop where
  ordered : numbers.Pairwise (· < ·)
  waits : ∀ n ∈ numbers, ∃ d, pick? b.drives n = some d ∧ d.state = .waitStage

theorem Grant.nodup {b : Blind} (h : Grant b numbers) : numbers.Nodup := h.ordered.imp Nat.ne_of_lt

theorem grant_take (b : Blind) (n : Nat) : Grant b ((b.inState .waitStage).take n) where
  ordered := (pairwise_numbersOf _ _).sublist (List.take_sublist _ _)
  waits k mem := by
    obtain ⟨d, fitted, state⟩ := mem_numbersOf.1 (List.mem_of_mem_take mem)
    exact ⟨d, fitted, by simpa using state⟩

/-- A group that forms where no drive waits for the feeder has the granted drives for members. -/
theorem groupIn_formed {b : Blind} (grant : Grant b numbers) (none : ∀ d ∈ b.drives, d.state ≠ .waitFeeder) :
    (b.formed numbers).groupIn b.nextGroup .waitFeeder = numbers := by
  refine (pairwise_numbersOf _ _).eq_of_mem_iff grant.ordered fun n => ?_
  rw [mem_numbersOf]
  constructor
  · rintro ⟨d, fitted, member⟩
    rw [Bool.and_eq_true, beq_iff_eq, beq_iff_eq] at member
    obtain ⟨positive, inside⟩ := pick?_eq_some_iff.1 fitted
    by_contra other
    rw [show (b.formed numbers).drives = b.drives.mapIdx _ from rfl, List.getElem?_mapIdx, Nat.sub_add_cancel positive] at inside
    obtain ⟨e, held, rfl⟩ := Option.map_eq_some_iff.1 inside
    rw [if_neg other] at member
    exact none e (List.mem_of_getElem? held) member.2
  · intro own
    obtain ⟨d, fitted, -⟩ := grant.waits n own
    exact ⟨_, pick?_mapIdx_numbers own fitted, by simp [Drive.granted]⟩

/-- No motor runs for a grant alone. -/
theorem runningCount_formed {b : Blind} (grant : Grant b numbers) : (b.formed numbers).runningCount = b.runningCount := by
  refine congrArg List.length ((pairwise_numbersOf _ _).eq_of_mem_iff (pairwise_numbersOf _ _) fun n => ?_)
  refine mem_numbersOf.trans (Iff.trans ?_ mem_numbersOf.symm)
  by_cases own : n ∈ numbers
  · obtain ⟨d, fitted, waits⟩ := grant.waits n own
    simp [Blind.formed, pick?_mapIdx_numbers own fitted, fitted, waits, Drive.granted]
  · have same : pick? (b.formed numbers).drives n = pick? b.drives n := by
      cases n with
      | zero => rfl
      | succ k =>
        rw [pick?_succ, pick?_succ, show (b.formed numbers).drives = b.drives.mapIdx _ from rfl, List.getElem?_mapIdx]
        cases b.drives[k]? with
        | none => rfl
        | some d => rw [Option.map_some, if_neg own]
    rw [same]

/-- Drives granted together form one group, but on a façade with K at 1 (R155). -/
theorem formations_together {c : Settings} (some_drive : numbers ≠ []) (together : c.facade = 0 ∨ 2 ≤ c.feederLimit) :
    formations c numbers = [numbers] := by
  unfold formations
  rw [if_neg, if_neg some_drive]
  rintro ⟨one, facade⟩
  rcases together with none | more
  · exact facade none
  · omega

theorem grantSlots_of_one {t : State} {again : Bool} (granted : (s.blind.inState .waitStage).take s.blind.freeSlots = numbers)
    (some_drive : numbers ≠ []) (together : s.loader.settings.facade = 0 ∨ 2 ≤ s.loader.settings.feederLimit)
    (launched : launchGroup numbers s = (t, again)) : grantSlots s = (t, again) := by
  rw [grantSlots, granted, formations_together some_drive together, eachAnswered, launched]
  exact congrArg (Prod.mk t) (Bool.or_false again)

/-! ### Without a façade (R155) -/

/-- A granted drive whose motor has started. -/
def Drive.launched (d : Drive) (target group now : Nat) : Drive :=
  { d.granted target group with
    state := .running, since := now, due := (d.plan target).map (fun r => now + r.length * 100) }

/-- The blind when a group has entered RUNNING at its grant (R155). -/
def Blind.launched (b : Blind) (numbers : List Nat) (now : Nat) : Blind :=
  { b with
    nextGroup := b.nextGroup + 1
    drives := b.drives.mapIdx (fun k d => if k + 1 ∈ numbers then d.launched b.applied b.nextGroup now else d) }

theorem foldl_startMotor_formed {b : Blind} (grant : Grant b numbers)
    (planned : ∀ n ∈ numbers, ∀ d, pick? b.drives n = some d → (d.plan b.applied).isSome = true) (now : Nat) :
    numbers.foldl (fun b n => b.mapDrive n (·.startMotor now)) (b.formed numbers) = b.launched numbers now := by
  rw [Blind.foldl_mapDrive_eq grant.nodup]
  refine congrArg (fun drives => ({ b with nextGroup := b.nextGroup + 1, drives := drives } : Blind)) (List.ext_getElem? fun k => ?_)
  simp only [Blind.formed, List.getElem?_mapIdx, Option.map_map]
  cases at_k : b.drives[k]? with
  | none => rfl
  | some d =>
    simp only [Option.map_some, Function.comp_apply]
    by_cases own : k + 1 ∈ numbers
    · rw [if_pos own, if_pos own, if_pos own, startMotor_of_planned (planned _ own d at_k)]
      rfl
    · rw [if_neg own, if_neg own, if_neg own]

theorem launchGroup_runs {b : Blind} (indoor : s.loader.settings.facade = 0) (grant : Grant s.blind numbers)
    (ready : ∀ n ∈ numbers, ∀ d, pick? s.blind.drives n = some d →
      (d.plan s.blind.applied).isSome = true ∧ (d.granted s.blind.applied s.blind.nextGroup).atLimit = false)
    (hb : s.blind.launched numbers s.now = b) :
    ∃ t, launchGroup numbers s = (t, false) ∧ Starts (s.setBlind (s.blind.formed numbers)) b t := by
  have started := (foldl_startMotor_formed grant (fun n mem d fitted => (ready n mem d fitted).1) s.now).trans hb
  have running : ∀ n ∈ numbers, ∃ d e, pick? s.blind.drives n = some d ∧ pick? b.drives n = some e ∧
      e = d.launched s.blind.applied s.blind.nextGroup s.now := by
    intro n own
    obtain ⟨d, fitted, -⟩ := grant.waits n own
    exact ⟨d, _, fitted, hb ▸ pick?_mapIdx_numbers own fitted, rfl⟩
  have entered := enterRunning_starts (s := s.setBlind (s.blind.formed numbers)) (by exact started) fun n own e held => by
    obtain ⟨d, f, fitted, found, rfl⟩ := running n own
    obtain rfl := Option.some.inj (found.symm.trans held)
    exact (ready n own d fitted).2
  refine ⟨_, ?_, entered⟩
  unfold launchGroup
  dsimp only
  rw [formGroup_eq grant.nodup, if_pos (by exact indoor), entered.blind]
  refine congrArg (Prod.mk _) (Bool.eq_false_iff.2 fun stopped => ?_)
  obtain ⟨n, own, apart⟩ := List.any_eq_true.1 stopped
  obtain ⟨d, f, fitted, found, rfl⟩ := running n own
  have runs : n ∈ b.inState .running := mem_numbersOf.2 ⟨_, found, rfl⟩
  simp [runs] at apart

/-- Drives granted without a façade run at once (R155). -/
theorem settleStage_runs (released : s.blind.emergency = false) (indoor : s.loader.settings.facade = 0)
    (granted : (s.blind.inState .waitStage).take s.blind.freeSlots = numbers) (some_drive : numbers ≠ [])
    (none : ∀ d ∈ s.blind.drives, d.state ≠ .waitFeeder)
    (ready : ∀ d ∈ s.blind.drives, d.state = .waitStage →
      (d.plan s.blind.applied).isSome = true ∧ (d.granted s.blind.applied s.blind.nextGroup).atLimit = false) (recheck : Bool) :
    Starts (s.setBlind (s.blind.formed numbers)) (s.blind.launched numbers s.now) (settleStage stageRounds recheck s) := by
  have grant : Grant s.blind numbers := granted ▸ grant_take _ _
  obtain ⟨t, launched, starts⟩ := launchGroup_runs indoor grant (fun n own d fitted => by
    obtain ⟨e, held, waits⟩ := grant.waits n own
    obtain rfl := Option.some.inj (held.symm.trans fitted)
    exact ready e (mem_of_pick? fitted) waits) rfl
  rw [settleStage_of_granted released (grantSlots_of_one granted some_drive (.inl indoor) launched)]
  · exact starts
  · refine recheckGroups_of_none (waitingGroups_eq_nil (starts.blind ▸ fun d mem waits => ?_))
    rcases mem_mapIdx_numbers (show d ∈ s.blind.drives.mapIdx _ from mem) with ⟨n, -, e, -, rfl⟩ | held
    · exact nomatch waits
    · exact absurd waits (none d held)

/-! ### On a façade (R155, R156) -/

theorem launchGroup_of_facade (outdoor : s.loader.settings.facade ≠ 0) (nodup : numbers.Nodup) :
    launchGroup numbers s = feederCheck s.blind.nextGroup (s.setBlind (s.blind.formed numbers)) := by
  unfold launchGroup
  dsimp only
  rw [formGroup_eq nodup, if_neg (by exact outdoor)]

theorem planned_of_none {b : Blind} (none : ∀ d ∈ b.drives, d.state ≠ .waitFeeder) : b.Planned :=
  fun d mem waits => absurd waits (none d mem)

/-- The group formed waits where a start is in hand or the feeder has no room (R156). -/
theorem settleStage_waits (released : s.blind.emergency = false) (outdoor : s.loader.settings.facade ≠ 0)
    (more : 2 ≤ s.loader.settings.feederLimit)
    (granted : (s.blind.inState .waitStage).take s.blind.freeSlots = numbers) (some_drive : numbers ≠ [])
    (none : ∀ d ∈ s.blind.drives, d.state ≠ .waitFeeder)
    (full : s.blind.hand ≠ .nothing ∨
      s.loader.settings.feederLimit < s.peers.feederSum + s.blind.runningCount + numbers.length) (recheck : Bool) :
    settleStage stageRounds recheck s = s.setBlind (s.blind.formed numbers) := by
  have grant : Grant s.blind numbers := granted ▸ grant_take _ _
  have planned := formed_planned (planned_of_none none) numbers
  have waits : feederCheck s.blind.nextGroup (s.setBlind (s.blind.formed numbers)) = (s.setBlind (s.blind.formed numbers), false) := by
    rw [feederCheck_of_full (s := s.setBlind (s.blind.formed numbers)) (by exact groupIn_formed grant none)
      (.inr (by rw [State.setBlind_blind, runningCount_formed grant]; exact full)), plan_of_planned (by exact planned)]
  refine settleStage_of_granted released (grantSlots_of_one granted some_drive (.inr more)
    ((launchGroup_of_facade outdoor grant.nodup).trans waits)) (eachAnswered_idle fun group mem => ?_) recheck
  obtain ⟨d, held, state, own⟩ := mem_waitingGroups mem
  rcases mem_mapIdx_numbers (show d ∈ s.blind.drives.mapIdx _ from held) with ⟨n, -, e, -, rfl⟩ | before
  · obtain rfl := Option.some.inj (own.symm.trans (by exact rfl) : some group = some s.blind.nextGroup)
    exact waits
  · exact absurd state (none d before)

/-- The blind when the START of a group just granted awaits its report (R156). -/
def Blind.asking (b : Blind) (numbers : List Nat) : Blind :=
  { b.formed numbers with
    nextTag := b.nextTag + 1
    hand := .awaiting b.nextGroup numbers.length b.nextTag
    drives := b.drives.mapIdx (fun k d =>
      if k + 1 ∈ numbers then { d.granted b.applied b.nextGroup with state := .settling } else d) }

theorem moved_formed {b : Blind} (none : ∀ d ∈ b.drives, d.state ≠ .waitFeeder) :
    moved b.nextGroup .waitFeeder .settling (b.formed numbers).drives = (b.asking numbers).drives := by
  refine List.ext_getElem? fun k => ?_
  simp only [moved, Blind.formed, Blind.asking, List.getElem?_map, List.getElem?_mapIdx, Option.map_map]
  cases at_k : b.drives[k]? with
  | none => rfl
  | some d =>
    simp only [Option.map_some, Function.comp_apply]
    by_cases own : k + 1 ∈ numbers
    · rw [if_pos own, if_pos own, if_pos ⟨rfl, rfl⟩]
    · rw [if_neg own, if_neg own, if_neg fun both => none d (List.mem_of_getElem? at_k) both.2]

/-- The group formed asks the feeder where there is room (R156). -/
theorem settleStage_asks (released : s.blind.emergency = false) (outdoor : s.loader.settings.facade ≠ 0)
    (more : 2 ≤ s.loader.settings.feederLimit)
    (granted : (s.blind.inState .waitStage).take s.blind.freeSlots = numbers) (some_drive : numbers ≠ [])
    (none : ∀ d ∈ s.blind.drives, d.state ≠ .waitFeeder) (free : s.blind.hand = .nothing)
    (addressed : s.loader.address.isSome = true) (normal : s.isNormal = true) (place : s.bus.queue.length < 10)
    (room : s.peers.feederSum + s.blind.runningCount + numbers.length ≤ s.loader.settings.feederLimit) (recheck : Bool) :
    settleStage stageRounds recheck s =
      (offer (s.startOf numbers (s.blind.formed numbers)) s).setBlind (s.blind.asking numbers) := by
  have grant : Grant s.blind numbers := granted ▸ grant_take _ _
  have planned := formed_planned (planned_of_none none) numbers
  have asks : feederCheck s.blind.nextGroup (s.setBlind (s.blind.formed numbers)) =
      ((offer (s.startOf numbers (s.blind.formed numbers)) s).setBlind (s.blind.asking numbers), false) := by
    rw [feederCheck_of_room (s := s.setBlind (s.blind.formed numbers)) (by exact groupIn_formed grant none) some_drive (by exact free)
      (by rw [State.setBlind_blind, runningCount_formed grant]; exact room), plan_of_planned (by exact planned),
      askFeeder_of_taken (by exact addressed) (by exact normal) (by exact place), State.setBlind_blind, moved_formed none]
    exact (congrArg (fun t : State => (t.setBlind _, false)) (offer_setBlind _ (s.blind.formed numbers) s)).trans rfl
  refine settleStage_of_granted released (grantSlots_of_one granted some_drive (.inr more)
    ((launchGroup_of_facade outdoor grant.nodup).trans asks))
    (recheckGroups_of_none (waitingGroups_eq_nil fun d mem waits => ?_)) recheck
  rcases mem_mapIdx_numbers (show d ∈ s.blind.drives.mapIdx _ from mem) with ⟨n, -, e, -, rfl⟩ | held
  · exact nomatch waits
  · exact absurd waits (none d held)

/-! ### On a façade with K at 1 (R155) -/

/-- The blind when each granted drive has formed a group of its own. -/
def Blind.formedEach (b : Blind) (numbers : List Nat) : Blind :=
  { b with
    nextGroup := b.nextGroup + numbers.length
    drives := b.drives.mapIdx (fun k d => if k + 1 ∈ numbers then
      d.granted b.applied (b.nextGroup + numbers.idxOf (k + 1)) else d) }

theorem formedEach_cons {n : Nat} {rest : List Nat} (nodup : (n :: rest).Nodup) (b : Blind) :
    (b.formed [n]).formedEach rest = b.formedEach (n :: rest) := by
  have total : b.nextGroup + 1 + rest.length = b.nextGroup + (n :: rest).length := by
    rw [List.length_cons]
    omega
  have drives : ((b.formed [n]).formedEach rest).drives = (b.formedEach (n :: rest)).drives := by
    refine List.ext_getElem? fun k => ?_
    simp only [Blind.formedEach, Blind.formed, List.getElem?_mapIdx, Option.map_map, List.mem_cons, List.not_mem_nil, or_false]
    refine congrArg (fun g => Option.map g b.drives[k]?) (funext fun d => ?_)
    simp only [Function.comp_apply]
    by_cases own : k + 1 = n
    · subst own
      rw [if_neg (List.nodup_cons.1 nodup).1, if_pos rfl, if_pos (.inl rfl), List.idxOf_cons_self]
      rfl
    · rw [if_neg own]
      by_cases later : k + 1 ∈ rest
      · rw [if_pos later, if_pos (.inr later), List.idxOf_cons_ne _ (fun same => own same.symm)]
        exact congrArg (d.granted b.applied) (by omega)
      · rw [if_neg later, if_neg (not_or.2 ⟨own, later⟩)]
  show ({ b with nextGroup := _, drives := ((b.formed [n]).formedEach rest).drives } : Blind) = _
  rw [drives]
  exact congrArg (fun g => ({ b with nextGroup := g, drives := (b.formedEach (n :: rest)).drives } : Blind)) total

theorem launchEach (outdoor : s.loader.settings.facade ≠ 0) (held : s.blind.hand ≠ .nothing) (planned : s.blind.Planned)
    (nodup : numbers.Nodup) :
    eachAnswered launchGroup (numbers.map (fun n => [n])) s = (s.setBlind (s.blind.formedEach numbers), false) ∧
      (s.blind.formedEach numbers).Planned := by
  induction numbers generalizing s with
  | nil =>
    have same : s.blind.formedEach [] = s.blind := by
      have drives : s.blind.drives.mapIdx (fun k d => if k + 1 ∈ ([] : List Nat) then
          d.granted s.blind.applied (s.blind.nextGroup + ([] : List Nat).idxOf (k + 1)) else d) = s.blind.drives := by
        refine List.ext_getElem? fun k => ?_
        rw [List.getElem?_mapIdx]
        simp
      exact congrArg (fun drives => ({ s.blind with drives := drives } : Blind)) drives
    rw [same]
    exact ⟨rfl, planned⟩
  | cons n rest ih =>
    have formed := formed_planned planned [n]
    have launched : launchGroup [n] s = (s.setBlind (s.blind.formed [n]), false) := by
      rw [launchGroup_of_facade outdoor (List.nodup_singleton n),
        feederCheck_of_full (s := s.setBlind (s.blind.formed [n])) rfl (.inr (.inl (by exact held))), plan_of_planned (by exact formed)]
    obtain ⟨later, after⟩ := ih (s := s.setBlind (s.blind.formed [n])) outdoor held formed (List.nodup_cons.1 nodup).2
    rw [State.setBlind_blind, formedEach_cons nodup] at later after
    refine ⟨?_, after⟩
    rw [List.map_cons, eachAnswered, launched]
    dsimp only
    rw [later]
    rfl

theorem settleStage_waitsEach (released : s.blind.emergency = false) (outdoor : s.loader.settings.facade ≠ 0)
    (one : s.loader.settings.feederLimit = 1) (granted : (s.blind.inState .waitStage).take s.blind.freeSlots = numbers)
    (none : ∀ d ∈ s.blind.drives, d.state ≠ .waitFeeder) (held : s.blind.hand ≠ .nothing) (recheck : Bool) :
    settleStage stageRounds recheck s = s.setBlind (s.blind.formedEach numbers) := by
  have grant : Grant s.blind numbers := granted ▸ grant_take _ _
  obtain ⟨launched, planned⟩ := launchEach outdoor held (planned_of_none none) grant.nodup
  refine settleStage_of_granted released ?_ (recheckGroups_of_held (by exact planned) (by exact held)) recheck
  rw [grantSlots, granted, formations, if_pos ⟨one, outdoor⟩]
  exact launched

end Granting

/-! ### The statement -/

section Settled

variable {s : State}

theorem launched_runningCount {b : Blind} {numbers : List Nat} (grant : Grant b numbers) (some_drive : numbers ≠ []) (now : Nat) :
    (b.launched numbers now).runningCount ≠ 0 := by
  obtain ⟨n, own⟩ := List.exists_mem_of_ne_nil _ some_drive
  obtain ⟨d, fitted, -⟩ := grant.waits n own
  have runs : n ∈ (b.launched numbers now).inState .running := mem_numbersOf.2 ⟨_, pick?_mapIdx_numbers own fitted, rfl⟩
  exact Nat.ne_of_gt (List.length_pos_of_mem runs)

theorem granted_eq (b : Blind) :
    (b.inState .waitStage).take b.freeSlots = ((List.range' 1 b.drives.length).filter
      (fun k => (pick? b.drives k).any (fun d => d.state == .waitStage))).take (2 - b.drives.countP Drive.holdsSlot) := by
  rw [Blind.inState, numbersOf_eq_range', Blind.freeSlots, length_numbersOf]
  rfl

end Settled

/-- Settles O46: the check at the end of a backoff by what it finds, the longest duration, and the grants of the stage. -/
theorem backoffsRecheckTheFeeder : Obligations.BackoffsRecheckTheFeeder := by
  unfold Obligations.BackoffsRecheckTheFeeder
  refine ⟨fun s drive group due n d members p up fitted own backs now hm some_member hp => ?_, longest_spec,
    fun s t recheck granted planned settled hg hd => ?_⟩
  · subst now hm hp
    rw [exec_feederBackoffExpiry up fitted own backs]
    refine ⟨fun full => ?_, fun free normal addressed place room => ?_, fun address free normal addressed full urgent alone room => ?_⟩
    · exact congrArg Host.Outcome.next (endBackoff_of_full (s := s.setNow (max s.now due)) rfl full)
    · exact congrArg Host.Outcome.next (endBackoff_of_taken (s := s.setNow (max s.now due)) rfl some_member free room addressed normal place)
    · exact congrArg Host.Outcome.next
        (endBackoff_of_turned (s := s.setNow (max s.now due)) rfl some_member free room addressed normal full urgent alone)
  · rw [← granted_eq] at hg
    subst settled hd
    refine ⟨fun asserted => settleStage_of_asserted asserted _ _, fun released some_drive ready => ⟨fun indoor => ?_, fun outdoor =>
      ⟨fun more p hp => ⟨fun full => ?_, fun free normal addressed place room => ?_⟩, fun one held => ?_⟩⟩⟩
    · have grant : Grant s.blind granted := hg ▸ grant_take _ _
      have starts := settleStage_runs released indoor hg.symm some_drive (fun d mem => (ready d mem).1) (fun d mem => (ready d mem).2) recheck
      refine ⟨(BlindFrame.setBlind s (s.blind.formed granted) rfl).trans starts.toBlindFrame, starts.bus, starts.alerts, ?_, starts.blind⟩
      rw [starts.hold, State.setBlind_blind, runningCount_formed grant]
      simp only [launched_runningCount grant some_drive, ne_eq, not_false_eq_true, and_true]
      rfl
    · exact (settleStage_waits released outdoor more hg.symm some_drive (fun d mem => (ready d mem).1) full recheck).trans (hp ▸ rfl)
    · subst hp
      exact settleStage_asks released outdoor more hg.symm some_drive (fun d mem => (ready d mem).1) free addressed normal place room recheck
    · exact settleStage_waitsEach released outdoor one hg.symm (fun d mem => (ready d mem).1) held recheck

end Sys2Proof.Machine
end

section
/-!
PROOFS. Keys that move the override values, and the ends of override (R168 to R173).
-/

namespace Sys2Proof.Machine

section Keys

variable {s : State}

/-- The station in which a key acts: override is ON, or the key enters it (R168). -/
def ActsIn (key : Key) (s : State) (p : Panel) : Prop :=
  (s.panel.on = true ∧ p = s.panel) ∨
    (s.panel.on = false ∧ key ≠ .resume ∧ (s.panel.regime = .inSession ∨ s.panel.vacant = false) ∧ s.panel.emergency = false ∧
      s.isNormal = true ∧ p = { s.panel with on := true, blinkTimer := none })

theorem pressKey_acts {key : Key} {p : Panel} (acts : ActsIn key s p) : pressKey key s = keyWhileOn key (s.setPanel p) := by
  rcases acts with ⟨on, rfl⟩ | ⟨off, other, conditions, released, normal, rfl⟩
  · exact if_pos on
  · have enters : s.mayEnterOverride = true := by simpa [State.mayEnterOverride, released, normal] using conditions
    rw [pressKey, if_neg (by simp [off]), if_neg other, if_pos enters]
    rfl

theorem exec_of_key {i : Instr} {key : Key} {p : Panel} (named : keyOf i = some key) (up : s.started = true) (acts : ActsIn key s p) :
    exec i s = .next (keyWhileOn key (s.setPanel p)) := by
  rw [exec_of_started (effectOf_key named s) up, pressKey_acts acts]

/-- Entering override leaves the held values. -/
theorem ActsIn.held {key : Key} {p : Panel} (acts : ActsIn key s p) :
    p.offset = s.panel.offset ∧ p.boost = s.panel.boost ∧ p.target = s.panel.target ∧ p.emergency = s.panel.emergency := by
  rcases acts with ⟨-, rfl⟩ | ⟨-, -, -, -, -, rfl⟩ <;> exact ⟨rfl, rfl, rfl, rfl⟩

/-! ### Keys that move a value (R169 to R171) -/

theorem moveOffset_of_within {step offset : Int} (stepped : offset = s.panel.offset + step) (low : -300 ≤ offset) (high : offset ≤ 300) :
    moveOffset step s = (s.setPanel { s.panel with offset := offset }).setLight { s.light with offset := offset } := by
  subst stepped
  exact if_pos ⟨low, high⟩

theorem moveTarget_of_held {step : Int} {target : Nat}
    (stepped : (clampInt 0 100 ((s.panel.target.getD s.blind.applied : Int) + step)).toNat = target)
    (held : s.panel.target = some target) : moveTarget step s = s := by
  subst stepped
  exact if_pos held

theorem moveTarget_of_new {step : Int} {target : Nat}
    (stepped : (clampInt 0 100 ((s.panel.target.getD s.blind.applied : Int) + step)).toNat = target)
    (new : s.panel.target ≠ some target) :
    moveTarget step s = blindTarget (some target) (s.setPanel { s.panel with target := some target }) := by
  subst stepped
  exact if_neg new

theorem clampInt_up {start : Nat} (inside : start ≤ 100) : (clampInt 0 100 ((start : Int) + -25)).toNat = start - 25 := by
  unfold clampInt
  omega

theorem clampInt_down (start : Nat) : (clampInt 0 100 ((start : Int) + 25)).toNat = min 100 (start + 25) := by
  unfold clampInt
  omega

/-- The wanted target after a policy event is the one worked out (R148). -/
theorem policyEvent_wanted (glare : Bool) (s : State) : (policyEvent glare s).blind.wanted = s.wanted := by
  rw [policyEvent_eq]
  split
  · rfl
  · split
    · rfl
    · split
      · rfl
      · exact (congrArg Blind.wanted (applyWanted_policy (rework s)) :)

/-- A policy event without a change of the glare state leaves the wanted target applied, but under an asserted line (R149). -/
theorem policyEvent_applied (released : s.blind.emergency = false) : (policyEvent false s).blind.applied = s.wanted := by
  by_cases equal : s.wanted = s.blind.applied
  · rw [policyEvent_of_equal released equal, equal]
    rfl
  · rw [policyEvent_of_applied released equal (.inl rfl)]
    exact (congrArg Blind.applied (applyWanted_policy (rework s)) :)

/-- A target from the panel is wanted at once, and applied but under an asserted line (R148, R149, R170). -/
theorem blindTarget_takes (target : Nat) (s : State) :
    BlindFrame s (blindTarget (some target) s) ∧ AlertsKept [] s (blindTarget (some target) s) ∧
      (blindTarget (some target) s).blind.override = some target ∧ (blindTarget (some target) s).blind.wanted = target ∧
      (s.blind.emergency = false → (blindTarget (some target) s).blind.applied = target) :=
  ⟨blindTarget_frame _ s, (alertsKept_closed [] s).policyEvent false ((alertsKept_closed [] s).blind _ (.refl _ s)),
    blindTarget_override _ s, policyEvent_wanted false (withBlind ({ · with override := some target }) s),
    policyEvent_applied (s := withBlind ({ · with override := some target }) s)⟩

theorem pressAir_of_boosted (boosted : s.panel.boost = true) : pressAir s = endOverride .bandAir s.boostedDemand s := if_pos boosted

theorem pressAir_of_short (idle : s.panel.boost = false) (short : s.air.shortfall = true) :
    pressAir s = endOverride .sharedAir s.boostedDemand s := by
  rw [pressAir, if_neg (by simp [idle]), if_pos short]

theorem pressAir_of_free (idle : s.panel.boost = false) (free : s.air.shortfall = false) :
    pressAir s = airBoost true (s.setPanel { s.panel with boost := true }) := by
  rw [pressAir, if_neg (by simp [idle]), if_neg (by simp [free])]
  rfl

end Keys

/-- Settles O50: a key that acts moves its value, whether override is ON or the key enters it. -/
theorem keysMoveTheOverride : Obligations.KeysMoveTheOverride := by
  intro s p up enters
  have acts : ∀ key, key ≠ .resume → ActsIn key s p := fun key other => enters.imp_right fun ⟨off, rest⟩ => ⟨off, other, rest⟩
  obtain ⟨offset_held, boost_held, target_held, -⟩ := (acts .airPlus (nomatch ·)).held
  refine ⟨fun i offset kinds low high => ?_, fun i start target begins inside kinds => ?_, fun idle free => ?_⟩
  · rcases kinds with ⟨rfl, stepped⟩ | ⟨rfl, stepped⟩
    · rw [exec_of_key rfl up (acts .lightPlus (nomatch ·))]
      exact congrArg Host.Outcome.next (moveOffset_of_within (s := s.setPanel p) (by rw [stepped, ← offset_held]; rfl) low high)
    · rw [exec_of_key rfl up (acts .lightMinus (nomatch ·))]
      exact congrArg Host.Outcome.next (moveOffset_of_within (s := s.setPanel p) (by rw [stepped, ← offset_held]; rfl) low high)
  · obtain ⟨key, step, named, other, moves, stepped⟩ : ∃ key step, keyOf i = some key ∧ key ≠ .resume ∧
        keyWhileOn key (s.setPanel p) = moveTarget step (s.setPanel p) ∧
        (clampInt 0 100 (((s.setPanel p).panel.target.getD (s.setPanel p).blind.applied : Int) + step)).toNat = target := by
      have first : (s.setPanel p).panel.target.getD (s.setPanel p).blind.applied = start := by
        rw [begins]
        exact congrArg (·.getD s.blind.applied) target_held
      rcases kinds with ⟨rfl, rfl⟩ | ⟨rfl, rfl⟩
      · exact ⟨.blindUp, -25, rfl, (nomatch ·), rfl, by rw [first, clampInt_up inside]⟩
      · exact ⟨.blindDown, 25, rfl, (nomatch ·), rfl, by rw [first, clampInt_down]⟩
    have ran := (exec_of_key named up (acts key other)).trans (congrArg Host.Outcome.next moves)
    refine ⟨fun held => ran.trans (congrArg Host.Outcome.next (moveTarget_of_held stepped (target_held.trans held))), fun new => ?_⟩
    have takes := moveTarget_of_new stepped (fun held => new (target_held.symm.trans held))
    exact ⟨_, ran.trans (congrArg Host.Outcome.next takes), blindTarget_takes target _⟩
  · have boosts := pressAir_of_free (s := s.setPanel p) (boost_held.trans idle) free
    refine ⟨_, (exec_of_key rfl up (acts .airPlus (nomatch ·))).trans (congrArg Host.Outcome.next boosts),
      airBoost_frame true _, airBoost_boost true _, fun normal => recomputeDemand_current normal⟩

/-! ### Ends (R172, R173) -/

section Ends

variable {s t : State}

/-- A frame from the state whose Override Unit is already the one left. -/
theorem RoomFrame.fromPanel {p : Panel} (h : RoomFrame (s.setPanel p) t) (same : t.panel.emergency = p.emergency) :
    RoomFrame (s.setPanel t.panel) t :=
  (RoomFrame.setPanel (s.setPanel t.panel) p same.symm).trans h

theorem RoomFrame.ownPanel (h : RoomFrame s t) : RoomFrame (s.setPanel t.panel) t :=
  RoomFrame.fromPanel (p := s.panel) h h.panelEmergency

theorem endOverride_keeps (cause : OverrideCause) (value : Int) (s : State) :
    (s.panel.boost = false → (endOverride cause value s).air = s.air) ∧
      (s.panel.target = none → (endOverride cause value s).blind = s.blind) := by
  have only := returnOffset_only s.panel (resetOverride cause value s)
  have boosted := returnBoost_air_frame s.panel (returnOffset s.panel (resetOverride cause value s))
  have targeted := returnTarget_blind_frame s.panel (returnBoost s.panel (returnOffset s.panel (resetOverride cause value s)))
  refine ⟨fun idle => ?_, fun untargeted => ?_⟩
  · have still : returnBoost s.panel (returnOffset s.panel (resetOverride cause value s)) =
        returnOffset s.panel (resetOverride cause value s) := if_neg (by simp [idle])
    refine targeted.air.trans ?_
    rw [still]
    exact only.air
  · have still : endOverride cause value s = returnBoost s.panel (returnOffset s.panel (resetOverride cause value s)) :=
      if_neg (by simp [untargeted])
    rw [still]
    exact boosted.blind.trans only.blind

theorem returnOffset_light {held : Panel} (agree : s.light.offset = held.offset) :
    (returnOffset held s).light = { s.light with offset := 0 } := by
  unfold returnOffset
  split
  next none =>
    rw [← agree.trans none]
  next => rfl

/-- An end returns the adjustments that the blocks hold (R172). -/
theorem endOverride_returns (cause : OverrideCause) (value : Int) (offset : s.light.offset = s.panel.offset)
    (boost : s.air.boost = s.panel.boost) (override : s.blind.override = s.panel.target) :
    (endOverride cause value s).light = { s.light with offset := 0, hold := (endOverride cause value s).light.hold } ∧
      (endOverride cause value s).air.boost = false ∧ (endOverride cause value s).blind.override = none := by
  have only := returnOffset_only s.panel (resetOverride cause value s)
  have boosted := returnBoost_air_frame s.panel (returnOffset s.panel (resetOverride cause value s))
  have targeted := returnTarget_blind_frame s.panel (returnBoost s.panel (returnOffset s.panel (resetOverride cause value s)))
  refine ⟨?_, (congrArg Air.boost targeted.air).trans (returnBoost_boost ((congrArg Air.boost only.air).trans boost)),
    returnTarget_override ((congrArg Blind.override (boosted.blind.trans only.blind)).trans override)⟩
  have light : (returnBoost s.panel (returnOffset s.panel (resetOverride cause value s))).light = { s.light with offset := 0 } :=
    boosted.light.trans (returnOffset_light offset)
  have last := targeted.light
  rw [light] at last
  exact last

theorem endIfOn_of_on {cause : OverrideCause} (on : s.panel.on = true) : endIfOn cause s = endOverride cause 0 s := if_pos on

theorem endIfOn_of_off {cause : OverrideCause} (off : s.panel.on = false) (apart : s.panel.trapAt ≠ some s.now) : endIfOn cause s = s := by
  rw [endIfOn, if_neg (by simp [off]), if_neg apart]

theorem endIfOn_of_trap {cause : OverrideCause} (off : s.panel.on = false) (together : s.panel.trapAt = some s.now) :
    endIfOn cause s = writeRecord cause 0 s := by
  rw [endIfOn, if_neg (by simp [off]), if_pos together]

theorem isTrap_iff (cause : OverrideCause) : cause.isTrap = true ↔ cause ∈ [.bandLight, .bandAir, .sharedAir] := by
  cases cause <;> simp [OverrideCause.isTrap]

/-- The key that ends override, with the cause and the value of its record (R169, R171, R173). -/
theorem key_ends {i : Instr} {cause : OverrideCause} {value : Int}
    (kinds : (i = .lightPlus ∧ cause = .bandLight ∧ value = s.panel.offset + 100 ∧ 300 < value) ∨
      (i = .lightMinus ∧ cause = .bandLight ∧ value = s.panel.offset - 100 ∧ value < -300) ∨
      (i = .airPlus ∧ s.panel.boost = true ∧ cause = .bandAir ∧ value = s.boostedDemand) ∨
      (i = .airPlus ∧ s.panel.boost = false ∧ s.air.shortfall = true ∧ cause = .sharedAir ∧ value = s.boostedDemand) ∨
      (i = .resumeKey ∧ cause = .panelResume ∧ value = 0)) :
    ∃ key, keyOf i = some key ∧ (key = .resume ↔ i = .resumeKey) ∧ (cause.isTrap = true ↔ i ≠ .resumeKey) ∧
      keyWhileOn key s = endOverride cause value s := by
  rcases kinds with ⟨rfl, rfl, rfl, high⟩ | ⟨rfl, rfl, rfl, low⟩ | ⟨rfl, boosted, rfl, rfl⟩ | ⟨rfl, idle, short, rfl, rfl⟩ | ⟨rfl, rfl, rfl⟩
  · exact ⟨.lightPlus, rfl, by simp, by simp [OverrideCause.isTrap], if_neg fun band => by omega⟩
  · exact ⟨.lightMinus, rfl, by simp, by simp [OverrideCause.isTrap], if_neg fun band => by omega⟩
  · exact ⟨.airPlus, rfl, by simp, by simp [OverrideCause.isTrap], pressAir_of_boosted boosted⟩
  · exact ⟨.airPlus, rfl, by simp, by simp [OverrideCause.isTrap], pressAir_of_short idle short⟩
  · exact ⟨.resume, rfl, by simp, by simp [OverrideCause.isTrap], rfl⟩

/-- The Override Unit after an end (R172). -/
theorem endOverride_panel_eq (cause : OverrideCause) (value : Int) (s : State) :
    (endOverride cause value s).panel = { s.panel with
      on := false, offset := 0, boost := false, target := none
      record := some { cause := cause, value := value, minute := s.clock.minute }
      trapAt := if cause.isTrap then some s.now else none } := endOverride_panel cause value s

theorem panelRegime_eq (n : RegimeNotice) (s : State) :
    panelRegime n s =
      if s.panel.regime = .inSession ∧ n.regime ≠ .inSession ∧ s.panel.vacant then
        endIfOn .boundary (s.setPanel { s.panel with regime := n.regime, mode := n.mode })
      else s.setPanel { s.panel with regime := n.regime, mode := n.mode } := rfl

end Ends

/-- Settles O51: the traps and RESUME by their keys, the other ends by what they find. -/
theorem trapsAndResumeEndTheOverride : Obligations.TrapsAndResumeEndTheOverride := by
  unfold Obligations.TrapsAndResumeEndTheOverride
  refine ⟨fun s i p cause value up enters kinds _ => ?_, fun s cause record other made => ⟨fun on => ?_, fun off apart => ?_, fun off together => ?_⟩,
    fun s => ⟨rfl, fun n => ⟨fun leaves => if_pos leaves, fun stays => if_neg ?_⟩⟩⟩
  · have held : p.offset = s.panel.offset ∧ p.boost = s.panel.boost ∧ p.target = s.panel.target ∧ p.emergency = s.panel.emergency := by
      rcases enters with ⟨-, rfl⟩ | ⟨-, -, -, -, -, rfl⟩ <;> exact ⟨rfl, rfl, rfl, rfl⟩
    obtain ⟨offset, boost, target, emergency⟩ := held
    obtain ⟨key, named, resumes, traps, ends⟩ := key_ends (s := s.setPanel p) (i := i) (cause := cause) (value := value) (by
      rw [State.setPanel_panel, offset, boost]
      exact kinds)
    have acts : ActsIn key s p := enters.imp_right fun ⟨off, other, rest⟩ => ⟨off, fun resume => other (resumes.1 resume), rest⟩
    have panel := endOverride_panel_eq cause value (s.setPanel p)
    have frame := endOverride_frame cause value (s.setPanel p)
    obtain ⟨air, blind⟩ := endOverride_keeps cause value (s.setPanel p)
    refine ⟨_, (exec_of_key named up acts).trans (congrArg Host.Outcome.next ends), frame.fromPanel (congrArg Panel.emergency panel :),
      panel.trans ?_, fun law => endOverride_returns cause value (law.adjusted.offset.trans offset.symm)
        (law.adjusted.boost.trans boost.symm) (law.adjusted.override.trans target.symm),
      fun idle => air (boost.trans idle), fun none => blind (target.trans none)⟩
    by_cases resume : i = .resumeKey
    · rw [if_pos resume, if_neg fun trap => traps.1 trap resume]
      rfl
    · rw [if_neg resume, if_pos (traps.2 resume)]
      rfl
  · subst made
    rw [endIfOn_of_on on]
    refine ⟨(endOverride_frame cause 0 s).ownPanel, (endOverride_panel_eq cause 0 s).trans ?_⟩
    rw [if_neg fun trap => other ((isTrap_iff cause).1 trap)]
  · exact endIfOn_of_off off apart
  · subst made
    rw [endIfOn_of_trap off together, writeRecord, if_neg fun trap => other ((isTrap_iff cause).1 trap)]
    rfl
  · rintro ⟨session, leaves, vacant⟩
    rcases stays with apart | stays | occupied
    · exact apart session
    · exact leaves stays
    · exact nomatch vacant.symm.trans occupied

end Sys2Proof.Machine
end

section
/-!
PROOFS. Motion pulses and the quiet timer decide presence and vacancy (R57 to R59, R79 to R85, R173).
-/

namespace Sys2Proof.Machine

/-! ### Events several blocks take once -/

/-- An event that changes a part of the state in one block alone changes it once. -/
theorem forEach_once {α β : Type} {Q : State → Prop} {part : State → β} {change : β → β} {act : α → State → State} (a : α)
    (premise : ∀ b s, Q s → Q (act b s)) (bring : ∀ s, Q s → part (act a s) = change (part s))
    (keep : ∀ b s, b ≠ a → Q s → part (act b s) = part s) :
    ∀ (events : List α) (s : State), events.Nodup → a ∈ events → Q s → part (forEach events act s) = change (part s) := by
  have kept : ∀ (events : List α) (s : State), a ∉ events → Q s → part (forEach events act s) = part s := by
    intro events
    induction events with
    | nil => exact fun s _ _ => rfl
    | cons b rest ih =>
      intro s apart q
      obtain ⟨other, later⟩ := not_or.1 (fun mem => apart (List.mem_cons.2 mem))
      exact (ih _ later (premise b s q)).trans (keep b s (Ne.symm other) q)
  intro events
  induction events with
  | nil => exact fun s _ mem => nomatch mem
  | cons b rest ih =>
    intro s nodup mem q
    obtain ⟨apart, distinct⟩ := List.nodup_cons.1 nodup
    rcases List.mem_cons.1 mem with rfl | later
    · exact (kept rest _ apart (premise a s q)).trans (bring s q)
    · have other : b ≠ a := fun same => apart (same ▸ later)
      exact (ih _ distinct later (premise b s q)).trans (congrArg change (keep b s other q))

theorem fanOut_once {β : Type} {Q : State → Prop} {part : State → β} {change : β → β} {act : Block → State → State} (a : Block)
    (premise : ∀ b s, Q s → Q (act b s)) (bring : ∀ s, Q s → part (act a s) = change (part s))
    (keep : ∀ b s, b ≠ a → Q s → part (act b s) = part s) {blocks : List Block} (nodup : blocks.Nodup) (mem : a ∈ blocks) {s : State}
    (q : Q s) : part (fanOut blocks act s) = change (part s) :=
  forEach_once a premise bring keep _ s ((permute_perm _ _).nodup_iff.2 nodup) (mem_permute.2 mem) q

section Occupancy

variable {s t : State}

/-- A frame from the state whose Counter is already the one left. -/
theorem SessionFrame.ownCounter {c : Counter} (h : SessionFrame (s.setCounter c) t) : SessionFrame (s.setCounter t.counter) t := by
  rw [h.counter]
  exact h

/-! ### The blocks that keep a copy (R85) -/

theorem takeOccupancy_counter (e : OccupancyEvent) (b : Block) (s : State) : (takeOccupancy e b s).counter = s.counter :=
  (takeOccupancy_frame e b s).counter

/-- After an occupancy event every block that keeps a copy holds what the Counter holds (R85). -/
theorem tellOccupancy_knows {e : OccupancyEvent} (told : e.Tells s) (b : Block) :
    b.KnowsCount (fanOut [.session, .air, .light, .blind, .panel] (takeOccupancy e) s) := by
  have knows (notSession : b ≠ .session) (mem : b ∈ [Block.session, .air, .light, .blind, .panel]) :
      b.KnowsCount (fanOut [.session, .air, .light, .blind, .panel] (takeOccupancy e) s) :=
    fanOut_brings_under (Q := e.Tells) (P := fun t => b.KnowsCount t) b
      (fun c t tells => by rw [OccupancyEvent.Tells, takeOccupancy_counter]; exact tells)
      (fun t tells => takeOccupancy_knowsCount notSession tells)
      (fun c t other _ known => takeOccupancy_keepsCount e other known) mem told
  cases b with
  | air | light | blind | panel => exact knows (by decide) (by decide)
  | clock | intake | session | counter | peers | alert => trivial

theorem sendOccupancy_knows (kind : OccupancyKind) (kinds : List OccupancyKind) (before : Nat) (s : State) (b : Block) :
    b.KnowsCount (sendOccupancy (kind :: kinds) before s) := by
  have last : ∀ t : State, b.KnowsCount t → b.KnowsCount (sendOccupancy kinds before t) := fun t known =>
    forEach_keeps (fun t => b.KnowsCount t) _ (fun k u _ => tellOccupancy_knows ⟨rfl, rfl⟩ b) kinds t known
  exact last _ (tellOccupancy_knows (e := { kind := kind, before := before, count := s.counter.count, vacant := s.counter.vacant })
    ⟨rfl, rfl⟩ b)

/-! ### The entries (R57, R58) -/

theorem takeOccupancy_session (e : OccupancyEvent) {b : Block} (other : b ≠ .session) (s : State) :
    (takeOccupancy e b s).session = s.session := by
  cases b with
  | session => exact absurd rfl other
  | air => exact (airOccupancy_frame e s).session
  | light => exact (lightOccupancy_only e s).toRoom.session
  | blind => exact (blindOccupancy_frame e s).session
  | panel => exact (panelOccupancy_frame e s).session
  | clock | intake | counter | peers | alert => rfl

/-- What the Session Engine makes of an occupancy event, it makes once (R58). -/
theorem tellOccupancy_session {β : Type} {Q : State → Prop} {e : OccupancyEvent} (part : SessionEngine → β) {change : β → β}
    (premise : ∀ b t, Q t → Q (takeOccupancy e b t))
    (bring : ∀ t, Q t → part (sessionOccupancy e t).session = change (part t.session)) (q : Q s) :
    part (fanOut [.session, .air, .light, .blind, .panel] (takeOccupancy e) s).session = change (part s.session) :=
  fanOut_once (part := fun t => part t.session) .session premise bring
    (fun b t other _ => congrArg part (takeOccupancy_session e other t)) (by decide) (by decide) q

theorem sessionOccupancy_of_merge {e : OccupancyEvent} (merging : s.intake.merge ≠ none) :
    (sessionOccupancy e s).session = { s.session with catchUp := true } := by
  unfold sessionOccupancy
  split
  · rfl
  · exact absurd ‹_› merging

theorem takeOccupancy_intake (e : OccupancyEvent) (b : Block) (s : State) : (takeOccupancy e b s).intake = s.intake :=
  (takeOccupancy_frame e b s).intake

/-- The Counter and the Intake as they stand while an event is told. -/
def Steady (c : Counter) (i : Intake) (s : State) : Prop := s.counter = c ∧ s.intake = i

theorem takeOccupancy_steady {c : Counter} {i : Intake} (e : OccupancyEvent) (b : Block) (h : Steady c i s) :
    Steady c i (takeOccupancy e b s) :=
  ⟨(takeOccupancy_counter e b s).trans h.1, (takeOccupancy_intake e b s).trans h.2⟩

/-- What the Session Engine makes of each event of a run, and need make but once, it makes of the run. -/
theorem sendOccupancy_session {c : Counter} {i : Intake} {change : SessionEngine → SessionEngine} {before : Nat} {kinds : List OccupancyKind}
    (again : ∀ x, change (change x) = change x)
    (bring : ∀ k ∈ kinds, ∀ t, Steady c i t →
      (sessionOccupancy { kind := k, before := before, count := c.count, vacant := c.vacant } t).session = change t.session)
    (some_kind : kinds ≠ []) (h : Steady c i s) : (sendOccupancy kinds before s).session = change s.session := by
  have once : ∀ k ∈ kinds, ∀ t, Steady c i t → (sendOccupancy [k] before t).session = change t.session := fun k mem t steady =>
    tellOccupancy_session (Q := Steady c i) id (fun b _ => takeOccupancy_steady _ b)
      (fun u held => by rw [steady.1]; exact bring k mem u held) steady
  have steady : ∀ k t, Steady c i t → Steady c i (sendOccupancy [k] before t) := fun k t h =>
    ⟨(sendOccupancy_frame [k] before t).counter.trans h.1, (sendOccupancy_frame [k] before t).intake.trans h.2⟩
  induction kinds generalizing s with
  | nil => exact absurd rfl some_kind
  | cons k rest ih =>
    have first := once k List.mem_cons_self s h
    show (sendOccupancy rest before (sendOccupancy [k] before s)).session = _
    cases rest with
    | nil => exact first
    | cons l rest =>
      rw [ih (fun m mem => bring m (List.mem_cons_of_mem _ mem)) (List.cons_ne_nil _ _) (steady k s h)
        (fun m mem => once m (List.mem_cons_of_mem _ mem)), first, again]

/-- While a merge is in flight an occupancy event only sets the catch-up (R59). -/
theorem sendOccupancy_merging {kinds : List OccupancyKind} (before : Nat) (some_kind : kinds ≠ []) (merging : s.intake.merge ≠ none) :
    (sendOccupancy kinds before s).session = { s.session with catchUp := true } :=
  sendOccupancy_session (c := s.counter) (i := s.intake) (change := fun x => { x with catchUp := true }) (fun _ => rfl)
    (fun _ _ t steady => sessionOccupancy_of_merge (by rw [steady.2]; exact merging)) some_kind ⟨rfl, rfl⟩

theorem sessionOccupancy_of_presence {e : OccupancyEvent} (idle : s.intake.merge = none) (kind : e.kind ≠ .vacancyReached) :
    sessionOccupancy e s = if e.count = e.before ∨ e.count = 0 then s else markEntries e.count (decide (e.before = 0)) s := by
  rw [sessionOccupancy, idle]
  dsimp only
  cases held : e.kind with
  | vacancyReached => exact absurd held kind
  | entry | exit | motion | vacancyLeft => rfl

theorem withVacancyLeft_kinds {kind k : OccupancyKind} {wasVacant : Bool} (presence : kind ≠ .vacancyReached)
    (mem : k ∈ withVacancyLeft kind wasVacant) : k ≠ .vacancyReached := by
  unfold withVacancyLeft at mem
  split at mem
  · rcases List.mem_cons.1 mem with rfl | mem
    · exact presence
    · rw [List.mem_singleton.1 mem]
      exact (nomatch ·)
  · rw [List.mem_singleton.1 mem]
    exact presence

theorem withVacancyLeft_cons (kind : OccupancyKind) (wasVacant : Bool) : ∃ rest, withVacancyLeft kind wasVacant = kind :: rest := by
  unfold withVacancyLeft
  split <;> exact ⟨_, rfl⟩

theorem mark_mark (count : Nat) (becameOccupied : Bool) (e : Entry) :
    (e.mark count becameOccupied).mark count becameOccupied = e.mark count becameOccupied := by
  by_cases active : e.state = .active
  · simp [Entry.mark, active]
  · simp [Entry.mark, active]

/-! ### A motion pulse (R80) -/

/-- The Counter after a motion pulse (R80). -/
def State.pulsed (s : State) : Counter :=
  { s.counter with
    count := max 1 s.counter.count, vacant := false
    quietTimer := some (s.now + s.loader.settings.vacancyHold * 60000) }

theorem takePulse_eq (s : State) :
    takePulse s = sendOccupancy (withVacancyLeft .motion s.counter.vacant) s.counter.count (s.setCounter s.pulsed) := rfl

/-- What a motion pulse makes of the list while no merge is in flight (R57, R58). -/
theorem takePulse_session (idle : s.intake.merge = none) :
    (s.counter.count = 0 → (takePulse s).session.entries = s.session.entries.map (fun e => if e.state = .active then
      { e with seen := true, peak := max e.peak 1 } else e)) ∧
    (0 < s.counter.count → (takePulse s).session = s.session) := by
  obtain ⟨rest, kinds⟩ := withVacancyLeft_cons .motion s.counter.vacant
  have some_kind : withVacancyLeft .motion s.counter.vacant ≠ [] := by simp [kinds]
  have presence (k : OccupancyKind) (mem : k ∈ withVacancyLeft .motion s.counter.vacant) := withVacancyLeft_kinds (kind := .motion) (nomatch ·) mem
  rw [takePulse_eq]
  refine ⟨fun empty => ?_, fun occupied => ?_⟩
  · have marks := sendOccupancy_session (c := s.pulsed) (i := s.intake) (before := s.counter.count) (s := s.setCounter s.pulsed)
      (change := fun x => { x with entries := x.entries.map (·.mark 1 true) })
      (fun x => by
        refine congrArg (fun entries => ({ x with entries := entries } : SessionEngine)) ?_
        rw [List.map_map]
        exact List.map_congr_left fun e _ => mark_mark 1 true e)
      (fun k mem t steady => by
        rw [sessionOccupancy_of_presence (steady.2 ▸ idle) (by exact presence k mem), if_neg]
        · rw [show s.pulsed.count = 1 from by rw [State.pulsed, empty]; rfl, empty]
          rfl
        · show ¬(max 1 s.counter.count = s.counter.count ∨ max 1 s.counter.count = 0)
          omega)
      some_kind ⟨rfl, rfl⟩
    refine (congrArg SessionEngine.entries marks).trans (List.map_congr_left fun e _ => ?_)
    simp [Entry.mark]
  · exact sendOccupancy_session (c := s.pulsed) (i := s.intake) (change := id) (fun _ => rfl)
      (fun k mem t steady => by
        rw [sessionOccupancy_of_presence (steady.2 ▸ idle) (by exact presence k mem), if_pos]
        · rfl
        · exact .inl (Nat.max_eq_right occupied))
      some_kind ⟨rfl, rfl⟩

/-! ### The quiet timer (R82) -/

/-- The Counter when the room has become vacant (R82). -/
def Counter.emptied (c : Counter) : Counter := { c with count := 0, vacant := true, quietTimer := none }

theorem judgeQuiet_of_few (few : s.counter.count ≤ 3) :
    judgeQuiet s = sendOccupancy [.vacancyReached] s.counter.count (s.setCounter s.counter.emptied) := if_pos few

theorem judgeQuiet_of_many (many : 4 ≤ s.counter.count) :
    judgeQuiet s = s.setCounter { s.counter with quietTimer := some (s.now + s.loader.settings.vacancyHold * 60000) } :=
  if_neg (by omega)

/-- The entries as an early release leaves them (R58, R59). -/
def released (entries : List Entry) : List Entry :=
  entries.filterMap (fun e => if e.state = .active ∧ e.seen = true then (e.finish .earlyRelease).kept else some e)

theorem releaseEarly_entries (minute : Nat) (s : State) : (releaseEarly minute s).session.entries = released s.session.entries := by
  have each : s.session.entries.filterMap (fun e => e.release.kept) = released s.session.entries := by
    refine List.filterMap_congr fun e _ => ?_
    unfold Entry.release
    split <;> rfl
  unfold releaseEarly
  split
  · rw [finishWork_derived]
    exact each
  next none =>
    rw [← each]
    refine ((List.filterMap_congr fun e mem => ?_).trans (List.filterMap_some)).symm
    unfold Entry.release
    rw [if_neg]
    · rfl
    · intro attended
      exact none (List.any_eq_true.2 ⟨e, mem, by simpa using attended⟩)

theorem sessionOccupancy_of_vacancy {e : OccupancyEvent} (idle : s.intake.merge = none) (kind : e.kind = .vacancyReached) :
    sessionOccupancy e s = releaseEarly s.clock.minute s := by
  rw [sessionOccupancy, idle, kind]

/-- Override is OFF, whatever the engine and the blocks do (R173). -/
theorem publishRegime_off (minute : Nat) (off : s.panel.on = false) : (publishRegime minute s).panel.on = false := by
  unfold publishRegime
  dsimp only
  refine ite_keeps (P := fun t => t.panel.on = false) (fanOut_keeps (fun t => t.panel.on = false) _ (fun b t off => ?_) _ _ off) off
  cases b with
  | air => exact (congrArg Panel.on (airRegime_frame _ t).panel).trans off
  | light => exact (congrArg Panel.on (lightRegime_only _ t).panel).trans off
  | blind => exact (congrArg Panel.on (blindRegime_frame _ t).panel).trans off
  | panel =>
    show (panelRegime _ t).panel.on = false
    rw [panelRegime_eq]
    exact ite_keeps (P := fun u => u.panel.on = false) (endIfOn_off _ _) off
  | clock | intake | session | counter | peers | alert => exact off

theorem overrideOff_engineKeeps : EngineKeeps (fun s => s.panel.on = false) where
  aside h off := (congrArg Panel.on h.panel).trans off
  regime minute off := publishRegime_off minute off
  ends cause _ := endIfOn_off cause _
  record off := off

/-- Vacancy reached ends override (R173). -/
theorem tellVacancy_off {e : OccupancyEvent} (kind : e.kind = .vacancyReached) (s : State) :
    (fanOut [.session, .air, .light, .blind, .panel] (takeOccupancy e) s).panel.on = false := by
  refine fanOut_brings_under (Q := fun _ => True) (P := fun t => t.panel.on = false) .panel (fun _ _ _ => trivial) (fun t _ => ?_)
    (fun b t other _ off => ?_) (by decide) trivial
  · show (panelOccupancy e t).panel.on = false
    unfold panelOccupancy
    dsimp only
    rw [if_pos kind]
    exact endIfOn_off _ _
  · cases b with
    | session => exact overrideOff_engineKeeps.sessionOccupancy e off
    | air => exact (congrArg Panel.on (airOccupancy_frame e t).panel).trans off
    | light => exact (congrArg Panel.on (lightOccupancy_only e t).panel).trans off
    | blind => exact (congrArg Panel.on (blindOccupancy_frame e t).panel).trans off
    | panel => exact absurd rfl other
    | clock | intake | counter | peers | alert => exact off

end Occupancy

/-- Settles O27: a pulse and the quiet timer by what they find, told to every block. -/
theorem presenceAndQuietDecideVacancy : Obligations.PresenceAndQuietDecideVacancy := by
  unfold Obligations.PresenceAndQuietDecideVacancy
  refine ⟨fun s input up low high => ?_, fun s due n up runs now => ⟨fun many => ?_, fun few => ?_⟩⟩
  · have ran : exec (.motionPulse input) s = .next (takePulse s) :=
      exec_of_started ((effectOf_motionPulse input s).trans (if_pos ⟨low, high⟩)) up
    obtain ⟨rest, kinds⟩ := withVacancyLeft_cons .motion s.counter.vacant
    have frame := sendOccupancy_frame (withVacancyLeft .motion s.counter.vacant) s.counter.count (s.setCounter s.pulsed)
    have counter : (takePulse s).counter = s.pulsed := frame.counter
    have knows : ∀ b : Block, b.KnowsCount (takePulse s) := by
      rw [takePulse_eq, kinds]
      exact sendOccupancy_knows _ _ _ _
    refine ⟨_, ran, SessionFrame.ownCounter frame, counter, (knows .air).1, (knows .air).2.trans (congrArg Counter.vacant counter),
      (knows .light).trans (congrArg Counter.vacant counter), (knows .blind).trans (congrArg Counter.vacant counter),
      (knows .panel).trans (congrArg Counter.vacant counter), fun idle => (takePulse_session idle).1,
      fun idle => (takePulse_session idle).2, fun merging => ?_⟩
    exact sendOccupancy_merging _ (by simp [kinds]) (by exact merging)
  · subst now
    rw [exec_of_expiry (timer := (·.counter.quietTimer)) (effectOf_quietTimerExpiry s) up runs, judgeQuiet_of_many (by exact many)]
    rfl
  · subst now
    have ran := exec_of_expiry (timer := (·.counter.quietTimer)) (effectOf_quietTimerExpiry s) up runs
    rw [judgeQuiet_of_few (by exact few)] at ran
    have frame := sendOccupancy_frame [.vacancyReached] s.counter.count ((s.setNow (max s.now due)).setCounter s.counter.emptied)
    have knows := sendOccupancy_knows .vacancyReached [] s.counter.count ((s.setNow (max s.now due)).setCounter s.counter.emptied)
    refine ⟨_, ran, frame.ownCounter, frame.counter, (knows .air).1.trans (congrArg Counter.count frame.counter),
      (knows .air).2.trans (congrArg Counter.vacant frame.counter), (knows .light).trans (congrArg Counter.vacant frame.counter),
      (knows .blind).trans (congrArg Counter.vacant frame.counter), (knows .panel).trans (congrArg Counter.vacant frame.counter),
      tellVacancy_off rfl _, fun idle => ?_, fun merging => sendOccupancy_merging _ (List.cons_ne_nil _ _) (by exact merging)⟩
    exact tellOccupancy_session (Q := fun t => t.intake.merge = none) SessionEngine.entries
      (fun b t q => by rw [takeOccupancy_intake]; exact q)
      (fun t q => by rw [sessionOccupancy_of_vacancy q rfl]; exact releaseEarly_entries _ t) idle

end Sys2Proof.Machine
end

section
/-!
PROOFS. A booking waits, begins its merge, or is turned away; a merge completes (R36 to R40, R49, R50, R59).
-/

namespace Sys2Proof.Machine

section Arrivals

variable {s t : State} {item : Item}

/-- An offer looks at the Bus Port and the Loader alone. -/
theorem offer_setIntake (f : Frame) (i : Intake) (s : State) : offer f (s.setIntake i) = (offer f s).setIntake i := by
  unfold offer offerAnswered
  rw [show (s.setIntake i).takesOffer f.kind = s.takesOffer f.kind from rfl]
  split <;> rfl

/-! ### The pacing of a sender (R37) -/

/-- The pacing test answers by the length of the queue and the held senders (R37). -/
def Intake.paces (i : Intake) (sender : Byte) : Bool := decide (5 ≤ i.queue.length) && !i.heldSenders.contains sender

/-- The held senders after the pacing of one (R37). -/
def Intake.pacing (i : Intake) (sender : Byte) : Intake :=
  { i with heldSenders := if i.paces sender && decide (i.heldSenders.length < 4) then i.heldSenders ++ [sender] else i.heldSenders }

theorem paceSender_of_quiet {sender : Byte} (quiet : s.intake.queue.length < 5 ∨ s.intake.heldSenders.contains sender) :
    paceSender sender s = s := if_pos quiet

theorem paceSender_of_paced {sender : Byte} (paced : ¬(s.intake.queue.length < 5 ∨ s.intake.heldSenders.contains sender))
    (sent : offer (Frame.plain .hold sender (depthBody s.intake.queue.length)) s = t) :
    paceSender sender s =
      if t.intake.heldSenders.length < 4 then t.setIntake { t.intake with heldSenders := t.intake.heldSenders ++ [sender] } else t := by
  subst sent
  exact if_neg paced

theorem Intake.paces_iff {i : Intake} {sender : Byte} :
    i.paces sender = true ↔ ¬(i.queue.length < 5 ∨ i.heldSenders.contains sender) := by
  simp [Intake.paces]

theorem paceSender_eq (sender : Byte) (i : Intake) (s : State) :
    paceSender sender (s.setIntake i) =
      (if i.paces sender then offer (Frame.plain .hold sender (depthBody i.queue.length)) s else s).setIntake (i.pacing sender) := by
  by_cases held : i.paces sender = true
  · have paced := paceSender_of_paced (s := s.setIntake i) (Intake.paces_iff.1 held) (offer_setIntake _ i s)
    rw [paced, if_pos held, Intake.pacing, held, State.setIntake_intake]
    by_cases room : i.heldSenders.length < 4
    · rw [if_pos room, if_pos (by simpa using room)]
      rfl
    · rw [if_neg room, if_neg (by simpa using room)]
      rfl
  · rw [paceSender_of_quiet (s := s.setIntake i) (not_not.1 (mt Intake.paces_iff.2 held)), if_neg held, Intake.pacing,
      Bool.eq_false_iff.2 held]
    rfl

theorem paceSender_of_short {sender : Byte} {i : Intake} (short : i.queue.length < 5) (s : State) :
    paceSender sender (s.setIntake i) = s.setIntake i := if_pos (.inl short)

/-! ### The beginning of a merge (R38, R39) -/

theorem resumeSenders_of_idle (idle : 2 < s.intake.queue.length ∨ s.intake.heldSenders = []) : resumeSenders s = s := if_pos idle

theorem resumeSenders_of_held (few : s.intake.queue.length ≤ 2) (held : s.intake.heldSenders ≠ []) :
    resumeSenders s = forEach (permute (Config.draw s.draws) s.intake.heldSenders)
      (fun sender => offer (Frame.plain .resume sender (depthBody s.intake.queue.length)))
      ((s.setDraws (s.draws + 1)).setIntake { s.intake with heldSenders := [] }) :=
  if_neg (not_or.2 ⟨Nat.not_lt.2 few, held⟩)

/-- The Intake when the merge of its oldest item has begun (R39). -/
def State.merging (s : State) (item : Item) (rest : List Item) : Intake :=
  { s.intake with queue := rest, merge := some { item := item, due := s.now + (5 + (35 * s.session.entries.length + 23) / 24) } }

theorem beginMerge_of_waiting {rest : List Item} (idle : s.intake.merge = none) (queue : s.intake.queue = item :: rest) :
    beginMerge s = resumeSenders (s.setIntake (s.merging item rest)) := by
  rw [beginMerge, idle, queue]
  rfl

theorem beginMerge_of_none (none : s.intake.merge ≠ none ∨ s.intake.queue = []) : beginMerge s = s := by
  rcases beginMerge_cases s with ⟨-, same⟩ | ⟨i, rest, idle, queue, -⟩
  · exact same
  · rcases none with busy | empty
    · exact absurd idle busy
    · exact nomatch empty.symm.trans queue

/-- A merge begins with the oldest waiting item, and RESUME to the held senders where few items are left (R38, R39). -/
theorem beginMerge_begun {rest : List Item} (idle : s.intake.merge = none) (queue : s.intake.queue = item :: rest) :
    MergeBegun item rest s (beginMerge s) := by
  rintro i rfl
  rw [beginMerge_of_waiting idle queue]
  exact ⟨resumeSenders_of_idle (s := s.setIntake (s.merging item rest)), fun few held =>
    ⟨_, permute_perm _ _, resumeSenders_of_held (s := s.setIntake (s.merging item rest)) few held⟩⟩

/-! ### Arrivals (R36, R50) -/

theorem bookingOf_sender {i : Instr} {b : Booking} (named : bookingOf i = some b) : b.item.sender = b.source := by
  unfold bookingOf at named
  split at named <;> cases named <;> rfl

theorem exec_of_booking {i : Instr} {b : Booking} (named : bookingOf i = some b) (accepts : s.accepts b.source b.dest false = true) :
    exec i s = .next (arrive b.item s) := exec_of_message (effectOf_booking named s) accepts

theorem arrive_of_room (normal : s.isNormal = true) (room : s.intake.queue.length < 8) :
    arrive item s = beginMerge (paceSender item.sender (s.setIntake { s.intake with queue := s.intake.queue ++ [item] })) := by
  rw [arrive, if_pos normal]
  exact if_pos room

theorem arrive_of_full (normal : s.isNormal = true) (full : 8 ≤ s.intake.queue.length) :
    arrive item s = paceSender item.sender (giveResult item .intakeFull s) := by
  rw [arrive, if_pos normal]
  exact if_neg (Nat.not_lt.2 full)

theorem arrive_of_unconfigured (fallback : s.isNormal = false) : arrive item s = giveResult item .notConfigured s :=
  if_neg (by simp [fallback])

end Arrivals

/-- Settles O16: an arrival by the merge in flight, the queue and the mode. -/
theorem bookingsAreQueuedMergedOrTurnedAway : Obligations.BookingsAreQueuedMergedOrTurnedAway := by
  unfold Obligations.BookingsAreQueuedMergedOrTurnedAway
  refine ⟨fun s i b paced named accepts normal room hp => ⟨fun m merging => ?_, fun idle empty => ?_⟩,
    fun s i b named accepts => ⟨fun fallback t ht => ?_, fun normal full => ?_⟩⟩
  · subst hp
    rw [exec_of_booking named accepts, arrive_of_room normal room, paceSender_eq, beginMerge_of_none (.inl ?_)]
    · rw [bookingOf_sender named, Intake.pacing, Intake.paces, List.length_append]
      rfl
    · show s.intake.merge ≠ none
      exact merging ▸ Option.some_ne_none m
  · have paced := paceSender_of_short (sender := b.item.sender) (i := { s.intake with queue := s.intake.queue ++ [b.item] })
      (by simp [empty]) s
    refine ⟨_, exec_of_booking named accepts, arrive_only _ s, ?_⟩
    rw [arrive_of_room normal room, paced]
    exact beginMerge_begun (s := s.setIntake { s.intake with queue := s.intake.queue ++ [b.item] }) idle (by simp [empty])
  · subst ht
    rw [exec_of_booking named accepts, arrive_of_unconfigured fallback, ← bookingOf_sender named]
    rfl
  · have given := (giveResult_frame b.item .intakeFull s).intake
    have moved := paceSender_intake b.item.sender (giveResult b.item .intakeFull s)
    rw [← arrive_of_full normal full, given] at moved
    refine ⟨_, exec_of_booking named accepts, arrive_only _ s, ?_⟩
    rw [moved]
    exact ⟨rfl, rfl, rfl, rfl, rfl⟩

end Sys2Proof.Machine
end

section
/-!
PROOFS. A merge completes, with the occupancy catch-up and the held clock events (R38 to R40, R49, R50, R59).
-/

namespace Sys2Proof.Machine

section Completion

variable {s t : State}

/-! ### The occupancy catch-up (R59) -/

theorem catchUp_of_clear (clear : s.session.catchUp = false) : catchUp s = s := by
  unfold catchUp
  rw [clear, ← clear]
  exact if_neg (by rw [clear]; exact nofun)

/-- The catch-up marks the entries first, where N is above 0. -/
def State.caughtUp (s : State) : State :=
  if 0 < s.counter.count then markEntries s.counter.count true (s.setSession { s.session with catchUp := false })
  else s.setSession { s.session with catchUp := false }

theorem catchUp_of_due (due : s.session.catchUp = true) :
    catchUp s = if s.caughtUp.counter.vacant then releaseEarly s.caughtUp.mergeMinute s.caughtUp else s.caughtUp := by
  unfold catchUp
  rw [due]
  rfl

theorem caughtUp_counter (s : State) : s.caughtUp.counter = s.counter :=
  ite_keeps (P := fun t => t.counter = s.counter) rfl rfl

/-- An ACTIVE entry takes the marks of a count above 0, and every other stands. -/
theorem mark_eq (e : Entry) {count : Nat} (occupied : 0 < count) :
    e.mark count true = if e.state = .active ∧ 0 < count then { e with seen := true, peak := max e.peak count } else e := by
  unfold Entry.mark
  rw [Bool.or_true]
  exact if_congr (by simp [occupied]) rfl rfl

theorem caughtUp_session (s : State) :
    s.caughtUp.session = { s.session with
      catchUp := false
      entries := s.session.entries.map (fun e => if e.state = .active ∧ 0 < s.counter.count then
        { e with seen := true, peak := max e.peak s.counter.count } else e) } := by
  unfold State.caughtUp
  by_cases occupied : 0 < s.counter.count
  · rw [if_pos occupied]
    simp only [markEntries, State.setSession_session, mark_eq _ occupied]
  · rw [if_neg occupied]
    simp only [State.setSession_session, occupied, and_false, if_false, List.map_id']

theorem releaseEarly_others (minute : Nat) (s : State) :
    (releaseEarly minute s).session.catchUp = s.session.catchUp ∧
      (releaseEarly minute s).session.lastMinute = s.session.lastMinute := by
  refine ite_keeps (P := fun t => t.session.catchUp = s.session.catchUp ∧ t.session.lastMinute = s.session.lastMinute) ?_ ⟨rfl, rfl⟩
  rw [finishWork_derived]
  exact ⟨rfl, rfl⟩

/-- The release that a vacant room asks for, and none where it is not vacant. -/
theorem releasedIf_eq (entries : List Entry) (vacant : Bool) :
    entries.filterMap (fun e => if e.state = .active ∧ e.seen = true ∧ vacant = true then (e.finish .earlyRelease).kept else some e) =
      if vacant then released entries else entries := by
  cases vacant <;> simp [released]

theorem catchUp_session_of_due (due : s.session.catchUp = true) :
    (catchUp s).session.catchUp = false ∧ (catchUp s).session.lastMinute = s.session.lastMinute ∧
      (catchUp s).session.entries = if s.counter.vacant then released s.caughtUp.session.entries else s.caughtUp.session.entries := by
  have marked := caughtUp_session s
  rw [catchUp_of_due due, caughtUp_counter]
  cases s.counter.vacant with
  | false => exact ⟨(congrArg SessionEngine.catchUp marked :), (congrArg SessionEngine.lastMinute marked :), rfl⟩
  | true =>
    obtain ⟨flag, last⟩ := releaseEarly_others s.caughtUp.mergeMinute s.caughtUp
    exact ⟨flag.trans (congrArg SessionEngine.catchUp marked :), last.trans (congrArg SessionEngine.lastMinute marked :),
      releaseEarly_entries _ _⟩

/-! ### The steps of a completion (R49) -/

/-- Step 2 of R49: an accepted item is applied at the engine's last minute taken. -/
def State.applied (item : Item) (s : State) : State :=
  if (judgeItem s.loader.settings.capacity s.session.entries item).accepts then
    finishWork s.mergeMinute (applyItem s.loader.settings.capacity
      { minute := s.session.lastMinute, count := s.counter.count, graceMinutes := s.loader.settings.graceMinutes }
      item s.session.work) s
  else s

theorem applied_frame (item : Item) (s : State) : SessionFrame s (s.applied item) :=
  ite_keeps (P := SessionFrame s) (finishWork_frame _ _ s) (SessionFrame.refl s)

theorem applied_of_refused {item : Item}
    (refused : (judgeItem s.loader.settings.capacity s.session.entries item).accepts = false) : s.applied item = s :=
  if_neg (by rw [refused]; exact nofun)

theorem applied_session {item : Item}
    (accepted : (judgeItem s.loader.settings.capacity s.session.entries item).accepts = true) :
    (s.applied item).session = s.session.derived s.mergeMinute (applyItem s.loader.settings.capacity
      { minute := s.session.lastMinute, count := s.counter.count, graceMinutes := s.loader.settings.graceMinutes }
      item s.session.work).entries :=
  (congrArg State.session (if_pos accepted)).trans (finishWork_derived _ _ s)

theorem mergeMinute_of_taken {minute : Nat} (taken : s.session.lastMinute = some minute) : s.mergeMinute = minute :=
  congrArg (·.getD s.clock.minute) taken

/-- A result given to an item of a state whose Intake is known (R50). -/
theorem giveResult_of_intake {item : Item} {v : Verdict} {i : Intake} (same : s.intake = i) :
    giveResult item v s =
      offer (Frame.plain .outcome item.sender
          (outcomeBytes (some { id := item.id, kind := item.request.kind, verdict := v }) ++ outcomeBytes i.current))
        (s.setIntake { i with previous := i.current, current := some { id := item.id, kind := item.request.kind, verdict := v } }) := by
  subst same
  rfl

/-- The queue waits untouched through the release of the held events. -/
theorem releaseHeld_queue (s : State) : (releaseHeld s).intake.queue = s.intake.queue :=
  (congrArg Intake.queue (releaseHeld_frame s).intake :)

theorem exec_mergeCompletion {m : Merge} (up : s.started = true) (merging : s.intake.merge = some m) :
    exec .mergeCompletion s = .next (completeMerge m.item (s.setNow (max s.now m.due))) := by
  rw [exec_eq_effectOf, effectOf_mergeCompletion, State.whileStarted, if_pos up, merging]
  rfl

end Completion

/-- Settles O17: the steps of a completed merge, and the occupancy catch-up by its mark. -/
theorem mergesComplete : Obligations.MergesComplete := by
  unfold Obligations.MergesComplete
  refine ⟨fun s m v up merging judged => ?_, fun s => ⟨catchUp_of_clear, fun due => ?_⟩⟩
  · subst judged
    let r := s.setNow (max s.now m.due)
    let b := settleItem m.item r
    have given : b = _ := giveResult_of_intake (applied_frame m.item r).intake
    have settled : b.intake = _ := (congrArg State.intake given).trans (offer_frame _ _).intake
    have queue : (releaseHeld b).intake.queue = s.intake.queue :=
      (releaseHeld_queue b).trans (congrArg Intake.queue settled :)
    refine ⟨r.applied m.item, b, releaseHeld b, _, exec_mergeCompletion up merging, completeMerge_frame m.item r,
      applied_of_refused (s := r), fun accepted => ?_, given, ?_, fun empty => ?_, fun item rest waiting => ?_⟩
    · have work := applied_session (s := r) (item := m.item) accepted
      refine ⟨applied_frame m.item r, (congrArg SessionEngine.entries work :),
        (congrArg SessionEngine.lastMinute work :), (congrArg SessionEngine.catchUp work :), fun minute taken => ?_⟩
      rw [work, mergeMinute_of_taken (s := r) taken]
      exact derived_regimeAt _ _ _
    · exact congrArg (fun events => forEach events takeClockEvent (catchUp (b.setIntake { b.intake with heldEvents := [] })))
        (congrArg Intake.heldEvents settled :)
    · exact beginMerge_of_none (.inr (queue.trans empty))
    · exact beginMerge_begun (s := (releaseHeld b).setIntake { (releaseHeld b).intake with merge := none }) rfl (queue.trans waiting)
  · obtain ⟨flag, last, entries⟩ := catchUp_session_of_due due
    refine ⟨catchUp_frame s, flag, last, ?_⟩
    rw [entries, releasedIf_eq, caughtUp_session]

end Sys2Proof.Machine
end

section
/-!
PROOFS. The judgement of an item and its writing into the list (R43 to R49).
-/

namespace Sys2Proof.Machine

section Judgement

/-! ### The first condition that applies -/

/-- An answer given under a condition is the first row's, where the condition is the row's. -/
theorem FirstOf.ite {α : Type} {p c : Prop} [Decidable c] {rows : List (Prop × α)} {v last rest : α} (same : c ↔ p)
    (others : FirstOf rows last rest) : FirstOf ((p, v) :: rows) last (if c then v else rest) :=
  ⟨fun holds => if_pos (same.2 holds), fun fails => by rw [if_neg (mt same.1 fails)]; exact others⟩

/-- A row whose condition fails is passed over. -/
theorem FirstOf.skip {α : Type} {p : Prop} {rows : List (Prop × α)} {v last answer : α} (fails : ¬p)
    (others : FirstOf rows last answer) : FirstOf ((p, v) :: rows) last answer :=
  ⟨fun holds => absurd holds fails, fun _ => others⟩

theorem FirstOf.here {α : Type} {p : Prop} {rows : List (Prop × α)} {v last : α} (holds : p) :
    FirstOf ((p, v) :: rows) last v :=
  ⟨fun _ => rfl, fun fails => absurd holds fails⟩

theorem FirstOf.done {α : Type} (last : α) : FirstOf [] last last := rfl

/-! ### The three judgements (R43, R44) -/

variable {capacity id : Nat} {entries : List Entry}

theorem accepts_verdict_iff (v : Verdict) : v.accepts = true ↔ v = .accepted ∨ v = .acceptedClamped := by
  cases v <;> simp [Verdict.accepts]

theorem goodEnd_eq_false_iff (stop : Nat) : goodEnd stop = false ↔ stop = 0 ∨ 10080 < stop := by
  rw [← Bool.not_eq_true, goodEnd_iff]
  omega

theorem goodDuration_eq_false_iff (start stop : Nat) :
    goodDuration start stop = false ↔ stop < start + 10 ∨ start + 600 < stop := by
  rw [← Bool.not_eq_true, goodDuration_iff]
  omega

theorem offerVerdict_firstOf (start stop expected lead : Nat) :
    FirstOf [
      (id = 0 ∨ 10080 ≤ start ∨ stop = 0 ∨ 10080 < stop ∨ stop < start + 10 ∨ start + 600 < stop, .badTimes),
      (∃ e ∈ entries, e.id = id, .duplicateId),
      (∃ e ∈ entries, start < e.stop ∧ e.start < stop, .overlap),
      (24 ≤ entries.length, .listFull),
      (capacity < expected ∨ 60 < lead, .acceptedClamped)] .accepted
      (offerVerdict capacity entries id start stop expected lead) := by
  refine .ite ?_ (.ite ?_ (.ite (overlapsAny_iff start stop entries) (.ite .rfl (.ite .rfl (.done _)))))
  · rw [goodEnd_eq_false_iff, goodDuration_eq_false_iff, or_assoc]
  · simp

theorem amendBadTimes_iff (found : Option Entry) (stop : Option Nat) :
    amendBadTimes found id stop = true ↔
      id = 0 ∨ ∃ e, stop = some e ∧ (e = 0 ∨ 10080 < e ∨ ∃ x, found = some x ∧ (e < x.start + 10 ∨ x.start + 600 < e)) := by
  cases stop with
  | none => simp [amendBadTimes]
  | some e => cases found <;> simp [amendBadTimes, goodEnd_eq_false_iff, goodDuration_eq_false_iff, or_assoc]

theorem amendOverlap_iff (found : Option Entry) (stop : Option Nat) :
    amendOverlap entries found stop = true ↔
      ∃ e x, stop = some e ∧ found = some x ∧ ∃ y ∈ entries, y.id ≠ x.id ∧ x.start < y.stop ∧ y.start < e := by
  cases found with
  | none => simp [amendOverlap]
  | some x => cases stop <;> simp [amendOverlap, overlapsAny_iff, and_assoc]

theorem presentOver_iff (v : Option Nat) (bound : Nat) : presentOver v bound = true ↔ ∃ h, v = some h ∧ bound < h := by
  cases v <;> simp [presentOver]

theorem amendVerdict_firstOf (stop expected : Option Nat) (mode : Option Mode) (lead : Option Nat) {found : Option Entry}
    (search : found = findEntry id entries) :
    FirstOf [
      (id = 0 ∨ ∃ e, stop = some e ∧ (e = 0 ∨ 10080 < e ∨
        ∃ x, found = some x ∧ (e < x.start + 10 ∨ x.start + 600 < e)), .badTimes),
      (∃ e x, stop = some e ∧ found = some x ∧ ∃ y ∈ entries, y.id ≠ x.id ∧ x.start < y.stop ∧ y.start < e, .overlap),
      (found = none, .unknownId),
      (∃ x, found = some x ∧ 4 ≤ x.amendments, .amendLimit),
      (stop = none ∧ expected = none ∧ mode = none ∧ lead = none, .nothingToAmend),
      ((∃ h, expected = some h ∧ capacity < h) ∨ (∃ l, lead = some l ∧ 60 < l), .acceptedClamped)] .accepted
      (amendVerdict capacity entries id stop expected mode lead) := by
  unfold amendVerdict
  rw [← search]
  refine .ite (amendBadTimes_iff found stop) (.ite (amendOverlap_iff found stop) ?_)
  cases found with
  | none => exact .here rfl
  | some x =>
    refine .skip (nomatch ·) (.ite (by simp) (.ite .rfl (.ite ?_ (.done _))))
    rw [Bool.or_eq_true, presentOver_iff, presentOver_iff]

theorem cancelVerdict_firstOf :
    FirstOf [(id = 0 ∨ ∀ e ∈ entries, e.id ≠ id, .unknownId)] .accepted (cancelVerdict entries id) := by
  have named : (findEntry id entries).isSome = true ↔ ∃ e ∈ entries, e.id = id := by simp [findEntry]
  unfold cancelVerdict
  by_cases known : id ≠ 0 ∧ (findEntry id entries).isSome
  · obtain ⟨e, mem, same⟩ := named.1 known.2
    rw [if_pos known]
    exact .skip (fun absent => absent.elim known.1 fun none => none e mem same) (.done _)
  · rw [if_neg known]
    refine .here ?_
    by_cases zero : id = 0
    · exact .inl zero
    · exact .inr fun e mem same => known ⟨zero, named.2 ⟨e, mem, same⟩⟩

/-! ### The writing of one entry (R45 to R48) -/

variable {w : EngineWork} {before after : List Entry} {x : Entry}

/-- Entries of other ids pass the taking of one id. -/
theorem filterMap_only_others (take : Entry → Turn) {others : List Entry} (ids : ∀ e ∈ others, e.id ≠ id) :
    others.filterMap (fun e => (if e.id = id then take e else .keep e).kept) = others := by
  rw [List.filterMap_congr fun e mem => congrArg Turn.kept (if_neg (ids e mem))]
  exact List.filterMap_some

/-- The taking of one id writes its entry's place and nothing else. -/
theorem only_split (take : Entry → Turn) (list : w.entries = before ++ x :: after) (named : x.id = id)
    (others : ∀ e ∈ before ++ after, e.id ≠ id) :
    (w.only id take).entries = before ++ (take x).kept.toList ++ after := by
  have front := filterMap_only_others take fun e mem => others e (List.mem_append_left _ mem)
  have back := filterMap_only_others take fun e mem => others e (List.mem_append_right _ mem)
  show w.entries.filterMap _ = _
  rw [list, List.filterMap_append, front, ← List.singleton_append, List.filterMap_append, back, List.append_assoc]
  cases h : (take x).kept <;> simp [named, h]

/-- Of distinct ids, those beside an entry's place are not its own. -/
theorem others_of_nodup (ids : (w.entries.map (·.id)).Nodup) (list : w.entries = before ++ x :: after) (named : x.id = id) :
    ∀ e ∈ before ++ after, e.id ≠ id := by
  subst named
  rw [list, (List.perm_middle.map _).nodup_iff, List.map_cons, List.nodup_cons] at ids
  exact fun e mem same => ids.1 (same ▸ List.mem_map_of_mem mem)

theorem evaluate_kept (now : AtOnce) (e : Entry) :
    (now.evaluate e).kept.toList = match now.minute with
      | none => [e]
      | some m => (e.evaluate m now.count now.graceMinutes false).kept.toList := by
  unfold AtOnce.evaluate
  cases now.minute <;> rfl

/-- What stays of an entry that an AMEND has written (R46). -/
theorem amend_kept (now : AtOnce) (stop : Option Nat) (y : Entry) : (∀ e, stop = some e → y.stop = e) →
    (now.amend stop.isSome y).kept.toList =
      if y.state = .active then
        match stop, now.minute with
        | some e, some m => if e ≤ m then (y.finish .ended).kept.toList else [y]
        | _, _ => [y]
      else (now.evaluate y).kept.toList := by
  intro given
  unfold AtOnce.amend
  cases state : y.state with
  | active =>
    cases stop with
    | none => rfl
    | some e =>
      rw [← given e rfl]
      cases now.minute with
      | none => rfl
      | some m => by_cases passed : y.stop ≤ m <;> simp [passed, Turn.keep]
  | _ => rfl

theorem cancelSeries_kept (e : Entry) : e.cancelSeries.kept = none := by
  unfold Entry.cancelSeries
  split <;> rfl

/-- What stays of an entry whose occurrence is cancelled (R47). -/
theorem cancelOccurrence_kept (e : Entry) :
    e.cancelOccurrence.kept.toList = match e.weekly, e.state with
      | true, .active => [{ e with
          state := .dormant, grace := none, seen := false, carried := false, streak := if e.seen then 0 else e.streak }]
      | true, .precondition => [{ e with state := .dormant, carried := false }]
      | true, .pending | true, .dormant => [{ e with skip := true }]
      | false, _ => [] := by
  unfold Entry.cancelOccurrence
  cases weekly : e.weekly <;> cases state : e.state <;>
    simp [Turn.keep, Turn.remove, Entry.finish, Entry.ended, Entry.settledStreak, Entry.drops, weekly]

end Judgement

/-- Settles O18: an item's result by the order of its checks, and its place in the list by the id. -/
theorem itemsAreJudgedAndWritten : Obligations.ItemsAreJudgedAndWritten := by
  unfold Obligations.ItemsAreJudgedAndWritten
  refine ⟨fun capacity entries item v judged => ⟨accepts_verdict_iff v, ?_⟩, fun capacity sender id w now atOnce ids evaluated => ?_⟩
  · subst judged
    rcases item with ⟨sender, id, request⟩
    cases request with
    | offer => exact offerVerdict_firstOf _ _ _ _
    | amend => exact fun found search => amendVerdict_firstOf _ _ _ _ search
    | cancel => exact cancelVerdict_firstOf
  · have once : ∀ e, (now.evaluate e).kept.toList = atOnce e := fun e => evaluated ▸ evaluate_kept now e
    refine ⟨fun start stop mode weekly report expected lead fresh => ?_, fun before x after list named => ?_⟩
    · have joined := insertEntry_eq (offeredEntry capacity sender id start stop mode weekly report expected lead) w.entries
      refine (only_split (w := { w with entries := insertEntry _ w.entries }) now.evaluate joined rfl fun e mem => ?_).trans ?_
      · rw [List.takeWhile_append_dropWhile] at mem
        exact fresh e mem
      · rw [once]
        rfl
    · have others := others_of_nodup ids list named
      refine ⟨fun stop expected mode lead y written => ?_, ?_, ?_⟩
      · subst written
        have written := amend_kept now stop (x.amended capacity stop expected mode lead) (by rintro e rfl; rfl)
        exact (only_split _ list named others).trans
          (congrArg (fun kept => before ++ kept ++ after) (written.trans (if_congr .rfl rfl (once _))))
      · refine (only_split _ list named others).trans ?_
        rw [cancelSeries_kept, Option.toList_none, List.append_nil]
      · exact (only_split _ list named others).trans
          (congrArg (fun kept => before ++ kept ++ after) (cancelOccurrence_kept x))

end Sys2Proof.Machine
end

section
/-!
PROOFS. The status reply, byte by byte (R178, R179, R185).
-/

namespace Sys2Proof.Machine

/-! ### Fields of a body -/

section Fields

variable {body rest : List Byte} {α : Type}

theorem flag_le_one (b : Bool) : flag b ≤ 1 := by cases b <;> decide

theorem twoBytes_value (n : Nat) :
    256 * (highByte (BitVec.ofNat 16 n)).toNat + (lowByte (BitVec.ofNat 16 n)).toNat = n % 65536 := by
  simp [highByte, lowByte, BitVec.extractLsb'_toNat, Nat.shiftRight_eq_div_pow]
  omega

/-- A field spelled by `twoBytes` is read as its number. -/
theorem wordAtOf_of_twoBytes {i n : Nat} (high : body.getD i 0 = highByte (BitVec.ofNat 16 n))
    (low : body.getD (i + 1) 0 = lowByte (BitVec.ofNat 16 n)) : wordAtOf body i = n % 65536 := by
  unfold wordAtOf byteOf
  rw [high, low, twoBytes_value]

theorem byteOf_of_byte {i n : Nat} (at_i : body.getD i 0 = byte n) (small : n < 256) : byteOf body i = n := by
  unfold byteOf
  rw [at_i, byte_toNat small]

theorem byteOf_append_left {i : Nat} (short : i < body.length) : byteOf (body ++ rest) i = byteOf body i := by
  unfold byteOf
  rw [List.getD_append _ _ _ _ short]

theorem byteOf_append_right (i : Nat) : byteOf (body ++ rest) (body.length + i) = byteOf rest i := by
  unfold byteOf
  rw [List.getD_append_right _ _ _ _ (Nat.le_add_right _ _), Nat.add_sub_cancel_left]

theorem length_flatMap_twoBytes (f : α → Nat) (xs : List α) : (xs.flatMap (fun x => twoBytes (f x))).length = 2 * xs.length := by
  induction xs with
  | nil => rfl
  | cons x xs ih =>
    rw [List.flatMap_cons, List.length_append, ih, List.length_cons, show (twoBytes (f x)).length = 2 from rfl]
    omega

/-- Of two-byte fields in a row, each is read at twice its place. -/
theorem wordAtOf_flatMap (f : α → Nat) (xs : List α) (k : Nat) (rest : List Byte) {x : α} (at_k : xs[k]? = some x) :
    wordAtOf (xs.flatMap (fun x => twoBytes (f x)) ++ rest) (2 * k) = f x % 65536 := by
  induction xs generalizing k with
  | nil => exact nomatch at_k
  | cons y ys ih =>
    cases k with
    | zero =>
      cases at_k
      exact wordAtOf_of_twoBytes rfl rfl
    | succ k => exact ih k at_k

/-- Of positions in a row, each is read at its place. -/
theorem byteOf_map (f : α → Byte) {xs : List α} {k : Nat} {x : α} (at_k : xs[k]? = some x) (rest : List Byte) :
    byteOf (xs.map f ++ rest) k = (f x).toNat := by
  obtain ⟨short, rfl⟩ := List.getElem?_eq_some_iff.1 at_k
  rw [byteOf_append_left (by rw [List.length_map]; exact short), byteOf, List.getD_eq_getElem _ _ (by rw [List.length_map]; exact short),
    List.getElem_map]

theorem length_packHalves (halves : List Nat) : (packHalves halves).length = (halves.length + 1) / 2 := by
  induction halves using packHalves.induct with
  | case1 a b rest ih =>
    rw [packHalves, List.length_cons, ih, List.length_cons, List.length_cons]
    omega
  | case2 => rw [packHalves, List.length_singleton, List.length_singleton]
  | case3 => rfl

/-- A half-byte is read at its half of its byte, the first of two in the high half (R185). -/
theorem packHalves_half (halves : List Nat) (small : ∀ h ∈ halves, h < 16) (k : Nat) {h : Nat} (at_k : halves[k]? = some h) :
    byteOf (packHalves halves) (k / 2) / (if k % 2 = 0 then 16 else 1) % 16 = h := by
  induction halves using packHalves.induct generalizing k with
  | case1 a b rest ih =>
    have first : a < 16 := small a (by simp)
    have second : b < 16 := small b (by simp)
    have packed : byteOf (packHalves (a :: b :: rest)) 0 = 16 * a + b := byteOf_of_byte rfl (by omega)
    match k with
    | 0 =>
      cases at_k
      rw [Nat.zero_div, packed, if_pos rfl]
      omega
    | 1 =>
      cases at_k
      rw [show 1 / 2 = 0 from rfl, packed, if_neg (by decide)]
      omega
    | k + 2 =>
      rw [show (k + 2) / 2 = k / 2 + 1 by omega, Nat.add_mod_right]
      exact ih (fun h mem => small h (by simp [mem])) k at_k
  | case2 a =>
    match k with
    | 0 =>
      cases at_k
      have first : h < 16 := small h (by simp)
      rw [Nat.zero_div, byteOf_of_byte (n := 16 * h) rfl (by omega), if_pos rfl]
      omega
    | k + 1 => exact nomatch at_k
  | case3 => exact nomatch at_k

end Fields

/-! ### The alerts -/

section Alerts

variable {u : AlertUnit}

theorem Alert.index_lt (a : Alert) : a.index < 12 := by cases a <;> decide

theorem Alert.exists_index {i : Nat} (small : i < 12) : ∃ a : Alert, a.index = i := by
  interval_cases i
  exacts [⟨.emergency, rfl⟩, ⟨.configFallback, rfl⟩, ⟨.damperFault, rfl⟩, ⟨.driveOut, rfl⟩, ⟨.shortfall, rfl⟩, ⟨.co2High, rfl⟩,
    ⟨.doorBlocked, rfl⟩, ⟨.sunLost, rfl⟩, ⟨.co2Lost, rfl⟩, ⟨.peerTableFull, rfl⟩, ⟨.clockUnset, rfl⟩, ⟨.configClamped, rfl⟩]

theorem shows_eq_false_iff (i : Nat) :
    (!(u.raised.getLsbD i && !u.mask.getLsbD i)) = true ↔ u.raised.getLsbD i = false ∨ u.mask.getLsbD i = true := by
  simp

/-- The top alert is the lowest-numbered one that is raised and not masked (R178). -/
theorem top_of_first {a : Alert} (raised : u.raised.getLsbD a.index = true) (unmasked : u.mask.getLsbD a.index = false)
    (before : ∀ c : Alert, c.index < a.index → u.raised.getLsbD c.index = false ∨ u.mask.getLsbD c.index = true) :
    u.top = a.index + 1 := by
  have first : (List.range 12).find? (fun i => u.raised.getLsbD i && !u.mask.getLsbD i) = some a.index := by
    refine List.find?_range_eq_some.2 ⟨by rw [raised, unmasked]; rfl, List.mem_range.2 a.index_lt, fun j lower => ?_⟩
    obtain ⟨c, rfl⟩ := Alert.exists_index (lower.trans a.index_lt)
    exact (shows_eq_false_iff _).2 (before c lower)
  rw [AlertUnit.top, first]

theorem top_of_none (none : ∀ a : Alert, u.raised.getLsbD a.index = false ∨ u.mask.getLsbD a.index = true) : u.top = 0 := by
  have empty : (List.range 12).find? (fun i => u.raised.getLsbD i && !u.mask.getLsbD i) = .none := by
    refine List.find?_range_eq_none.2 fun j lower => ?_
    obtain ⟨c, rfl⟩ := Alert.exists_index lower
    exact (shows_eq_false_iff _).2 (none c)
  rw [AlertUnit.top, empty]

theorem top_le (u : AlertUnit) : u.top ≤ 12 := by
  unfold AlertUnit.top
  split
  next i found => exact List.mem_range.1 (List.mem_of_find?_eq_some found)
  next => exact Nat.zero_le _

theorem alertsInOrder_lt (alerts : BitVec 12) : alertsInOrder alerts < 4096 := alerts.reverse.isLt

theorem alertsInOrder_testBit (alerts : BitVec 12) (a : Alert) :
    (alertsInOrder alerts).testBit (11 - a.index) = alerts.getLsbD a.index := by
  have small := a.index_lt
  rw [alertsInOrder, ← BitVec.getLsbD, BitVec.getLsbD_reverse, BitVec.getMsbD_eq_getLsbD]
  rw [decide_eq_true (by omega : 11 - a.index < 12), Bool.true_and]
  exact congrArg _ (by omega)

end Alerts

/-! ### Where each value of the status stands (R185) -/

section Status

variable (s : State)

/-- The fields of the groups and drives that are fitted follow the 22 bytes of the station (R185). -/
def State.statusTail : List Byte :=
  s.light.groups.flatMap (fun g => twoBytes (s.light.output g)) ++
    (s.blind.drives.map (fun d => positionByte d.position) ++ packHalves (s.blind.drives.map Drive.statusHalf))

/-- The 22 bytes of the station (R185), one by one. -/
def State.statusHead : List Byte :=
  let word (n : Nat) : BitVec 16 := BitVec.ofNat 16 n
  let active := word s.session.activeId
  let depth := word (s.intake.queue.length * 4096 + s.counter.count)
  let cause := causeField s.panel.record
  let alerts := word (16 * alertsInOrder s.alert.raised + s.alert.top)
  [s.statusFlags, highByte active, lowByte active, highByte depth, lowByte depth,
    byte (32 * s.light.groups.length + s.session.entries.length),
    highByte (word s.air.demand), lowByte (word s.air.demand), highByte (word s.air.minimum), lowByte (word s.air.minimum),
    highByte (word s.air.grant), lowByte (word s.air.grant), highByte (word s.air.command), lowByte (word s.air.command),
    byte s.blind.glare,
    byte (128 * flag s.panel.on + 64 * flag s.panel.boost + 8 * s.blind.drives.length + twosComplement 3 (s.panel.offset / 100)),
    highByte (word (cause / 65536)), lowByte (word (cause / 65536)), highByte (word cause), lowByte (word cause),
    highByte alerts, lowByte alerts]

theorem statusBody_eq : s.statusBody = s.statusHead ++ s.statusTail := by
  unfold State.statusBody State.statusTail
  simp only [List.append_assoc]
  rfl

theorem length_statusHead : s.statusHead.length = 22 := rfl

theorem length_statusTail : s.statusTail.length =
    2 * s.light.groups.length + s.blind.drives.length + (s.blind.drives.length + 1) / 2 := by
  rw [State.statusTail, List.length_append, List.length_append, length_flatMap_twoBytes, List.length_map, length_packHalves,
    List.length_map, Nat.add_assoc]

theorem byteOf_statusTail (i : Nat) : byteOf s.statusBody (22 + i) = byteOf s.statusTail i := by
  rw [statusBody_eq]
  exact byteOf_append_right (body := s.statusHead) i

theorem byteOf_statusHead {i : Nat} (inside : i < 22) : byteOf s.statusBody i = byteOf s.statusHead i := by
  rw [statusBody_eq]
  exact byteOf_append_left inside

/-- A two-byte field of the station is read as its number. -/
theorem wordAtOf_statusHead {i n : Nat} (inside : i + 1 < 22) (high : s.statusHead.getD i 0 = highByte (BitVec.ofNat 16 n))
    (low : s.statusHead.getD (i + 1) 0 = lowByte (BitVec.ofNat 16 n)) : wordAtOf s.statusBody i = n % 65536 := by
  rw [← wordAtOf_of_twoBytes high low]
  unfold wordAtOf
  rw [byteOf_statusHead s inside, byteOf_statusHead s (Nat.lt_of_succ_lt inside)]

theorem wordAtOf_statusHead_of_small {i n : Nat} (inside : i + 1 < 22) (small : n < 65536)
    (high : s.statusHead.getD i 0 = highByte (BitVec.ofNat 16 n)) (low : s.statusHead.getD (i + 1) 0 = lowByte (BitVec.ofNat 16 n)) :
    wordAtOf s.statusBody i = n :=
  (wordAtOf_statusHead s inside high low).trans (Nat.mod_eq_of_lt small)

theorem byteOf_statusHead_of_small {i n : Nat} (inside : i < 22) (small : n < 256) (at_i : s.statusHead.getD i 0 = byte n) :
    byteOf s.statusBody i = n :=
  (byteOf_statusHead s inside).trans (byteOf_of_byte at_i small)

theorem statusFlags_value :
    byteOf s.statusBody 0 = 128 * flag (s.loader.phase == .fallback) + 64 * flag s.clock.running +
      16 * regimeCode s.session.regime + 4 * (s.session.mode.map modeCode).getD 0 + 2 * flag s.counter.vacant +
      flag s.blind.glaring := by
  have fallback := flag_le_one (s.loader.phase == .fallback)
  have running := flag_le_one s.clock.running
  have vacant := flag_le_one s.counter.vacant
  have glaring := flag_le_one s.blind.glaring
  have regime : regimeCode s.session.regime ≤ 2 := by cases s.session.regime <;> decide
  have mode : (s.session.mode.map modeCode).getD 0 ≤ 3 := by
    cases s.session.mode with
    | none => decide
    | some m => cases m <;> decide
  exact byteOf_statusHead_of_small s (by decide) (by omega) rfl

theorem activeId_of_active {e : SessionEngine} {x : Entry} (mem : x ∈ e.entries) (active : x.state = .active)
    (alone : ∀ y ∈ e.entries, y.state = .active → y = x) : e.activeId = x.id := by
  unfold SessionEngine.activeId
  cases found : e.entries.find? (fun x => x.state = .active) with
  | none => exact absurd active (by simpa using List.find?_eq_none.1 found x mem)
  | some y => rw [alone y (List.mem_of_find?_eq_some found) (by simpa using List.find?_some found)]; rfl

theorem activeId_of_none {e : SessionEngine} (none : ∀ x ∈ e.entries, x.state ≠ .active) : e.activeId = 0 := by
  unfold SessionEngine.activeId
  rw [List.find?_eq_none.2 fun x mem => by simpa using none x mem]
  rfl

theorem twosComplement_thirteen {v : Int} (low : -4096 ≤ v) (high : v ≤ 4095) :
    twosComplement 13 v = (if v < 0 then v + 8192 else v).toNat := by
  unfold twosComplement
  split <;> omega

theorem activeField (small : s.session.activeId < 65536) : wordAtOf s.statusBody 1 = s.session.activeId :=
  wordAtOf_statusHead_of_small s (by decide) small rfl rfl

theorem depthField (small : s.intake.queue.length * 4096 + s.counter.count < 65536) :
    wordAtOf s.statusBody 3 = s.intake.queue.length * 4096 + s.counter.count :=
  wordAtOf_statusHead_of_small s (by decide) small rfl rfl

theorem countsField (few : s.light.groups.length ≤ 6) (listed : s.session.entries.length ≤ 24) :
    byteOf s.statusBody 5 = 32 * s.light.groups.length + s.session.entries.length :=
  byteOf_statusHead_of_small s (by decide) (by omega) rfl

theorem demandField (small : s.air.demand < 65536) : wordAtOf s.statusBody 6 = s.air.demand :=
  wordAtOf_statusHead_of_small s (by decide) small rfl rfl

theorem minimumField (small : s.air.minimum < 65536) : wordAtOf s.statusBody 8 = s.air.minimum :=
  wordAtOf_statusHead_of_small s (by decide) small rfl rfl

theorem grantField (small : s.air.grant < 65536) : wordAtOf s.statusBody 10 = s.air.grant :=
  wordAtOf_statusHead_of_small s (by decide) small rfl rfl

theorem commandField (small : s.air.command < 65536) : wordAtOf s.statusBody 12 = s.air.command :=
  wordAtOf_statusHead_of_small s (by decide) small rfl rfl

theorem glareField (small : s.blind.glare < 256) : byteOf s.statusBody 14 = s.blind.glare :=
  byteOf_statusHead_of_small s (by decide) small rfl

theorem causeField_value : 65536 * wordAtOf s.statusBody 16 + wordAtOf s.statusBody 18 = causeField s.panel.record % 4294967296 := by
  rw [wordAtOf_statusHead s (i := 16) (n := causeField s.panel.record / 65536) (by decide) rfl rfl,
    wordAtOf_statusHead s (i := 18) (n := causeField s.panel.record) (by decide) rfl rfl]
  omega

theorem causeField_small {r : CauseRecord} (minute : r.minute < 10080) (low : -4096 ≤ r.value) (high : r.value ≤ 4095) :
    causeField (some r) % 4294967296 = 268435456 * overrideCauseCode r.cause + 16384 * r.minute +
      (if r.value < 0 then r.value + 8192 else r.value).toNat := by
  have code : overrideCauseCode r.cause ≤ 8 := by cases r.cause <;> decide
  rw [causeField, twosComplement_thirteen low high]
  split <;> omega

/-- The override byte (R185): two flags, the drives, and the offset in steps of 100 as three bits. -/
theorem overrideByte_value {k : Int} (offset : s.panel.offset = 100 * k) (low : -3 ≤ k) (high : k ≤ 3)
    (fitted : s.blind.drives.length ≤ 4) :
    byteOf s.statusBody 15 = 128 * flag s.panel.on + 64 * flag s.panel.boost + 8 * s.blind.drives.length +
      (if k < 0 then k + 8 else k).toNat := by
  have steps : twosComplement 3 (s.panel.offset / 100) = (if k < 0 then k + 8 else k).toNat := by
    rw [offset, Int.mul_ediv_cancel_left k (by decide)]
    unfold twosComplement
    split <;> omega
  have on := flag_le_one s.panel.on
  have boost := flag_le_one s.panel.boost
  rw [← steps]
  refine byteOf_statusHead_of_small s (by decide) ?_ rfl
  rw [steps]
  split <;> omega

theorem alertWord : wordAtOf s.statusBody 20 = 2 ^ 4 * alertsInOrder s.alert.raised + s.alert.top := by
  have order := alertsInOrder_lt s.alert.raised
  have top := top_le s.alert
  exact wordAtOf_statusHead_of_small s (by decide) (by omega) rfl rfl

theorem alertWord_testBit (a : Alert) : (wordAtOf s.statusBody 20).testBit (15 - a.index) = s.isRaised a := by
  have small := a.index_lt
  have top := top_le s.alert
  rw [alertWord, Nat.testBit_two_pow_mul_add _ (by omega), if_neg (by omega), show 15 - a.index - 4 = 11 - a.index by omega]
  exact alertsInOrder_testBit _ a

theorem alertWord_top : wordAtOf s.statusBody 20 % 16 = s.alert.top := by
  have top := top_le s.alert
  rw [alertWord]
  omega

theorem groupField {position : Nat} {g : Group} (fitted : pick? s.light.groups position = some g) (level : s.light.output g ≤ 1000) :
    wordAtOf s.statusBody (20 + 2 * position) = s.light.output g := by
  obtain ⟨placed, at_place⟩ := pick?_eq_some_iff.1 fitted
  have read := wordAtOf_flatMap s.light.output s.light.groups _
    (s.blind.drives.map (fun d => positionByte d.position) ++ packHalves (s.blind.drives.map Drive.statusHalf)) at_place
  rw [Nat.mod_eq_of_lt (by omega)] at read
  rw [show 20 + 2 * position = 22 + 2 * (position - 1) by omega, ← read]
  unfold wordAtOf
  rw [byteOf_statusTail, Nat.add_assoc, byteOf_statusTail]
  rfl

theorem positionField {number : Nat} {d : Drive} (fitted : pick? s.blind.drives number = some d) :
    byteOf s.statusBody (21 + 2 * s.light.groups.length + number) = (positionByte d.position).toNat := by
  obtain ⟨placed, at_place⟩ := pick?_eq_some_iff.1 fitted
  rw [show 21 + 2 * s.light.groups.length + number = 22 + (2 * s.light.groups.length + (number - 1)) by omega, byteOf_statusTail,
    ← length_flatMap_twoBytes s.light.output, State.statusTail, byteOf_append_right]
  exact byteOf_map (fun d : Drive => positionByte d.position) at_place _

theorem statusHalf_lt (d : Drive) : d.statusHalf < 16 := by
  have out := flag_le_one (!d.inService)
  have code : driveStateCode d.state ≤ 4 := by cases d.state <;> decide
  unfold Drive.statusHalf
  omega

theorem halfField {number : Nat} {d : Drive} (fitted : pick? s.blind.drives number = some d) :
    byteOf s.statusBody (22 + 2 * s.light.groups.length + s.blind.drives.length + (number - 1) / 2) /
      (if number % 2 = 1 then 16 else 1) % 16 = d.statusHalf := by
  obtain ⟨placed, at_place⟩ := pick?_eq_some_iff.1 fitted
  have half := packHalves_half (s.blind.drives.map Drive.statusHalf) (fun h mem => by
    obtain ⟨x, -, rfl⟩ := List.mem_map.1 mem
    exact statusHalf_lt x) (number - 1) (h := d.statusHalf) (by rw [List.getElem?_map, at_place]; rfl)
  rw [← half, if_congr (by omega : number % 2 = 1 ↔ (number - 1) % 2 = 0) rfl rfl]
  rw [Nat.add_assoc, Nat.add_assoc, byteOf_statusTail, ← length_flatMap_twoBytes s.light.output, State.statusTail, byteOf_append_right,
    ← List.length_map (fun d : Drive => positionByte d.position), byteOf_append_right]

end Status

/-- Settles O57: each field of the body is read at its place, in its range. -/
theorem statusRequestsAreAnswered : Obligations.StatusRequestsAreAnswered := by
  unfold Obligations.StatusRequestsAreAnswered
  refine ⟨fun s source dest accepts => exec_of_message (effectOf_statusRequest source dest s) accepts,
    fun s b groups drives hb hgroups hdrives => ?_, rfl, rfl, rfl, rfl⟩
  subst hb hgroups hdrives
  have size : s.statusBody.length =
      22 + 2 * s.light.groups.length + s.blind.drives.length + (s.blind.drives.length + 1) / 2 := by
    rw [statusBody_eq, List.length_append, length_statusTail, length_statusHead]
    omega
  have cause := causeField_value s
  refine ⟨size, fun _ _ => by omega, statusFlags_value s, fun e mem active small alone => ?_, fun idle => ?_, fun waiting counted => ?_,
    countsField s, fun small => demandField s (by omega), fun small => minimumField s (by omega),
    fun small => grantField s (by omega), fun small => commandField s (by omega), fun small => glareField s (by omega),
    fun k offset low high few => overrideByte_value s offset low high few, fun empty => ?_, fun r recorded minute low high => ?_,
    alertWord_testBit s, fun a raised unmasked before => ?_, fun none => (alertWord_top s).trans (top_of_none none),
    fun position g fitted level => groupField s fitted level,
    fun number d fitted => ⟨fun p placed small => ?_, fun unplaced => ?_, halfField s fitted⟩⟩
  · have named := activeId_of_active mem active alone
    exact (activeField s (named ▸ small)).trans named
  · have none := activeId_of_none idle
    exact (activeField s (none ▸ by decide)).trans none
  · rw [Nat.mul_comm]
    exact depthField s (by omega)
  · rw [empty, show causeField none = 0 from rfl] at cause
    omega
  · rw [cause, recorded, causeField_small minute low high]
  · exact (alertWord_top s).trans (top_of_first raised unmasked before)
  · rw [positionField s fitted, placed]
    exact byte_toNat (by omega)
  · rw [positionField s fitted, unplaced]
    rfl

end Sys2Proof.Machine
end

section
/-!
PROOFS. What the Blind Controller's operations queue while the line is BUSY: a FEEDER END for each drive they stop and for a window they
end, and at most one FEEDER START, in a queue that has room for them (R20, R21, R153, R154, R156, R160).
-/

namespace Sys2Proof.Machine

/-! ### An offer on a BUSY line -/

section Offers

variable {s t : State} {f : Frame}

theorem takeHead_of_busy {b : BusPort} (busy : b.line = .busy) : b.takeHead = b := takeHead_of_not_ready (.inr (.inl busy))

/-- A feeder frame takes the place of none. -/
theorem replaces_feeder (feeder : f.kind = .feederStart ∨ f.kind = .feederEnd) (g : Frame) : replaces f g = false := by
  unfold replaces
  rcases feeder with e | e <;> rw [e]

theorem offerAnswered_of_busy (taken : s.takesOffer f.kind = true) (busy : s.bus.line = .busy) (new : ∀ g ∈ s.bus.queue, replaces f g = false)
    (room : s.bus.queue.length < 10) : offerAnswered f s = (s.setBus { s.bus with queue := s.bus.queue ++ [f] }, true) := by
  rw [offerAnswered_of_taken taken, enqueue_of_room new room, takeHead_of_busy (by exact busy)]

theorem offer_of_busy (taken : s.takesOffer f.kind = true) (busy : s.bus.line = .busy) (new : ∀ g ∈ s.bus.queue, replaces f g = false)
    (room : s.bus.queue.length < 10) : offer f s = s.setBus { s.bus with queue := s.bus.queue ++ [f] } :=
  congrArg Prod.fst (offerAnswered_of_busy taken busy new room)

theorem offer_of_refused (refused : ¬s.takesOffer f.kind = true) : offer f s = s :=
  congrArg Prod.fst (offerAnswered_of_refused refused)

/-- A frame that is not taken leaves the queue as it stands. -/
theorem offerAnswered_of_discarded (busy : s.bus.line = .busy) (discarded : (offerAnswered f s).2 = false) :
    (offerAnswered f s).1 = s := by
  by_cases taken : s.takesOffer f.kind = true
  · rw [offerAnswered_of_taken taken] at discarded ⊢
    rcases enqueue_shapes s.bus f with ⟨before, w, after, -, -, e⟩ | ⟨-, -, e⟩ | e | ⟨before, v, after, -, -, -, e⟩
    · exact nomatch (congrArg Prod.snd e).symm.trans discarded
    · exact nomatch (congrArg Prod.snd e).symm.trans discarded
    · rw [e]
      show s.setBus s.bus.takeHead = s
      rw [takeHead_of_busy busy]
      rfl
    · exact nomatch (congrArg Prod.snd e).symm.trans discarded
  · rw [offerAnswered_of_refused taken]

theorem takesOffer_of_loader (same : t.loader = s.loader) (kind : Kind) : t.takesOffer kind = s.takesOffer kind := by
  unfold State.takesOffer
  rw [same]

end Offers

/-! ### What the Blind Controller still owes the feeder -/

/-- Which drives are RUNNING, in drive order. -/
def Blind.motors (b : Blind) : List Bool := b.drives.map (·.state == .running)

/-- The FEEDER END that the end of a start in hand calls for (R160). -/
def StartInHand.ends (h : StartInHand) (facade : Nat) : List (List Byte) :=
  match h with
  | .window _ drives _ _ _ _ => [[byte facade, byte drives]]
  | .nothing | .awaiting .. => []

/-- The FEEDER ENDs that are queued when every RUNNING drive has stopped and the start in hand has ended; none for a drive
without a façade (R153, R160). -/
def State.owed (s : State) : List (List Byte) :=
  List.replicate (if s.loader.settings.facade = 0 then 0 else s.blind.motors.count true) [byte s.loader.settings.facade, 1] ++
    s.blind.hand.ends s.loader.settings.facade

section Owed

variable {s t u : State}

theorem motors_count (b : Blind) : b.motors.count true = b.drives.countP (·.state == .running) := by
  unfold Blind.motors
  rw [List.count, List.countP_map]
  exact List.countP_congr fun d _ => by simp

theorem owed_of_same (loader : t.loader = s.loader) (hand : t.blind.hand = s.blind.hand) (motors : t.blind.motors = s.blind.motors) :
    t.owed = s.owed := by
  unfold State.owed
  rw [loader, hand, motors]

theorem owed_eq_restartEnds (facade : s.loader.settings.facade ≠ 0) : s.owed = s.restartEnds := by
  unfold State.owed State.restartEnds
  rw [if_neg facade, motors_count]
  cases s.blind.hand <;> rfl

theorem length_motors (b : Blind) : b.motors.length = b.drives.length := List.length_map _

theorem length_owed_le (s : State) : s.owed.length ≤ s.blind.drives.length + 1 := by
  have running : s.blind.motors.count true ≤ s.blind.drives.length := length_motors s.blind ▸ List.count_le_length
  have window : (s.blind.hand.ends s.loader.settings.facade).length ≤ 1 := by
    cases s.blind.hand with
    | nothing | awaiting => exact Nat.zero_le 1
    | window => exact Nat.le_refl 1
  unfold State.owed
  rw [List.length_append, List.length_replicate]
  split <;> omega

theorem motors_put {drives : List Drive} {b : Blind} {n : Nat} {d d' : Drive} (changed : drives = put b.drives n d')
    (fitted : pick? b.drives n = some d) (same : (d'.state == .running) = (d.state == .running)) :
    drives.map (·.state == .running) = b.motors := by
  obtain ⟨first, inside⟩ := pick?_eq_some_iff.1 fitted
  subst changed
  unfold Blind.motors
  refine List.ext_getElem? fun k => ?_
  rw [List.getElem?_map, List.getElem?_map]
  by_cases own : k + 1 = n
  · subst own
    rw [← pick?_succ, pick?_put_same fitted, ← pick?_succ, fitted]
    exact congrArg some same
  · rw [← pick?_succ, pick?_put_other own, pick?_succ]

theorem motors_map {drives : List Drive} {b : Blind} {f : Drive → Drive} (changed : drives = b.drives.map f)
    (same : ∀ d ∈ b.drives, ((f d).state == .running) = (d.state == .running)) : drives.map (·.state == .running) = b.motors := by
  subst changed
  rw [List.map_map]
  exact List.map_congr_left same

end Owed

/-! ### Feeder frames queued -/

/-- From one state to another, while the line is BUSY and the queue has room for what is owed and for `n` more frames, the queue has grown
by feeder frames alone: each FEEDER END pays what was owed, and at most `n` other frames were added. -/
structure Feeds (n : Nat) (s t : State) : Prop where
  loader : t.loader = s.loader
  fitted : t.blind.drives.length = s.blind.drives.length
  posts : s.bus.line = .busy → s.bus.queue.length + s.owed.length + n ≤ 10 → ∃ added : List Frame,
    t.bus = { s.bus with queue := s.bus.queue ++ added } ∧ (∀ f ∈ added, f.kind = .feederStart ∨ f.kind = .feederEnd) ∧
      added.length + t.owed.length ≤ s.owed.length + n ∧
      (s.takesOffer .feederEnd = true → ((added.filter (·.kind == .feederEnd)).map (·.body) ++ t.owed).Perm s.owed)

namespace Feeds

variable {s t u : State} {n m : Nat}

/-- Nothing is queued where nothing is paid. -/
theorem of_unpaid (loader : t.loader = s.loader) (fitted : t.blind.drives.length = s.blind.drives.length) (bus : t.bus = s.bus)
    (owed : t.owed.length ≤ s.owed.length) (paid : s.takesOffer .feederEnd = true → t.owed.Perm s.owed) : Feeds 0 s t := by
  refine ⟨loader, fitted, fun _ _ => ⟨[], ?_, List.forall_mem_nil _, ?_, paid⟩⟩
  · rw [bus, List.append_nil]
  · rw [List.length_nil, Nat.zero_add]
    exact owed

theorem of_owed (loader : t.loader = s.loader) (fitted : t.blind.drives.length = s.blind.drives.length) (bus : t.bus = s.bus)
    (owed : t.owed = s.owed) : Feeds 0 s t :=
  of_unpaid loader fitted bus (Nat.le_of_eq (congrArg List.length owed)) fun _ => by rw [owed]

theorem of_same (loader : t.loader = s.loader) (bus : t.bus = s.bus) (hand : t.blind.hand = s.blind.hand)
    (motors : t.blind.motors = s.blind.motors) : Feeds 0 s t :=
  of_owed loader (by rw [← length_motors, motors, length_motors]) bus (owed_of_same loader hand motors)

theorem refl (s : State) : Feeds 0 s s := of_same rfl rfl rfl rfl

theorem trans (h : Feeds n s t) (k : Feeds m t u) : Feeds (n + m) s u := by
  refine ⟨k.loader.trans h.loader, k.fitted.trans h.fitted, fun busy room => ?_⟩
  obtain ⟨first, bus, kinds, bound, paid⟩ := h.posts busy (by omega)
  have queue : t.bus.queue.length = s.bus.queue.length + first.length := by rw [bus, List.length_append]
  obtain ⟨later, bus', kinds', bound', paid'⟩ := k.posts (by rw [bus]; exact busy) (by omega)
  refine ⟨first ++ later, ?_, fun f mem => (List.mem_append.1 mem).elim (kinds f) (kinds' f), ?_, fun taken => ?_⟩
  · rw [bus', bus, List.append_assoc]
  · rw [List.length_append]
    omega
  · rw [List.filter_append, List.map_append, List.append_assoc]
    exact ((paid' (takesOffer_of_loader h.loader _ ▸ taken)).append_left _).trans (paid taken)

theorem weaken (h : Feeds n s t) (le : n ≤ m) : Feeds m s t := by
  refine ⟨h.loader, h.fitted, fun busy room => ?_⟩
  obtain ⟨added, bus, kinds, bound, paid⟩ := h.posts busy (by omega)
  exact ⟨added, bus, kinds, by omega, paid⟩

/-- An offered FEEDER END pays the debt it stands for. -/
theorem of_end {body : List Byte} (loader : t.loader = s.loader) (fitted : t.blind.drives.length = s.blind.drives.length)
    (bus : t.bus = (offer (Frame.plain .feederEnd broadcast body) s).bus) (paid : (body :: t.owed).Perm s.owed) : Feeds 0 s t := by
  refine ⟨loader, fitted, fun busy room => ?_⟩
  have size := paid.length_eq
  rw [List.length_cons] at size
  by_cases taken : s.takesOffer .feederEnd = true
  · have sent : offer (Frame.plain .feederEnd broadcast body) s = _ :=
      offer_of_busy taken busy (fun g _ => replaces_feeder (.inr rfl) g) (by omega)
    refine ⟨[Frame.plain .feederEnd broadcast body], by rw [bus, sent]; rfl, fun f mem => ?_, ?_, fun _ => paid⟩
    · rw [List.mem_singleton.1 mem]
      exact .inr rfl
    · rw [List.length_singleton]
      omega
  · rw [offer_of_refused (by exact taken)] at bus
    exact (of_unpaid loader fitted bus (by omega) fun h => absurd h taken).posts busy room

end Feeds

/-! ### Stops and the start in hand (R153, R154, R160) -/

section Stops

variable {s t : State}

/-- A stop of a RUNNING drive queues its FEEDER END, on a façade. -/
theorem Halts.feeds {number : Nat} {d d' : Drive} (h : Halts s number d' t) (fitted : pick? s.blind.drives number = some d)
    (runs : d.state = .running) (stopped : d'.state ≠ .running) : Feeds 0 s t := by
  have hand : t.blind.hand = s.blind.hand := by rw [h.blind]
  have count : t.blind.motors.count true + 1 = s.blind.motors.count true := by
    have halted := runningCount_halt fitted runs stopped
    rwa [runningCount_eq, runningCount_eq, ← motors_count, ← motors_count, ← h.blind] at halted
  have length : t.blind.drives.length = s.blind.drives.length := by rw [h.blind, length_put]
  by_cases none : s.loader.settings.facade = 0
  · have owed : t.owed = s.owed := by
      unfold State.owed
      rw [h.loader, if_pos none, if_pos none, hand]
    exact .of_owed h.loader length (h.bus.trans (if_pos none)) owed
  · refine .of_end h.loader length (h.bus.trans (if_neg none)) ?_
    unfold State.owed
    rw [h.loader, if_neg none, if_neg none, hand, ← count]
    exact .refl _

/-- The end of the start in hand queues its FEEDER END. -/
theorem dropHand_feeds (s : State) : Feeds 0 s (dropHand s) := by
  cases hand : s.blind.hand with
  | nothing =>
    rw [dropHand, hand]
    exact .refl s
  | awaiting group drives tag =>
    rw [dropHand_of_awaiting hand]
    refine .of_owed rfl rfl rfl ?_
    unfold State.owed
    rw [hand]
    rfl
  | window group drives held lower opened due =>
    have frame := offer_frame (Frame.plain .feederEnd broadcast [byte s.loader.settings.facade, byte drives]) s
    rw [dropHand_of_window hand]
    refine .of_end frame.loader rfl rfl ?_
    unfold State.owed
    rw [hand, show ((offer (Frame.plain .feederEnd broadcast [byte s.loader.settings.facade, byte drives]) s).setBlind
      { s.blind with hand := .nothing }).loader = s.loader from frame.loader]
    show (_ :: (_ ++ [])).Perm (_ ++ [_])
    rw [List.append_nil]
    exact (List.perm_append_singleton _ _).symm

theorem withBlind_feeds (change : Blind → Blind) (s : State) (hand : (change s.blind).hand = s.blind.hand)
    (motors : (change s.blind).motors = s.blind.motors) : Feeds 0 s (withBlind change s) := .of_same rfl rfl hand motors

theorem withdrawGroup_feeds (group : Nat) (s : State) : Feeds 0 s (withdrawGroup group s) := by
  refine (dropHand_feeds s).trans (m := 0) (withBlind_feeds _ _ rfl (motors_map rfl fun d _ => ?_))
  split
  next own =>
    have settles := (Bool.and_eq_true_iff.1 own).2
    rw [beq_iff_eq.1 settles]
    show (d.idleState _ == .running) = _
    unfold Drive.idleState
    split <;> rfl
  next => rfl

theorem idleState_stands (d : Drive) (target : Nat) : (d.idleState target == .running) = false := by
  unfold Drive.idleState
  split <;> rfl

theorem retake_feeds {number : Nat} {d : Drive} (fitted : pick? s.blind.drives number = some d) (stands : (d.state == .running) = false) :
    Feeds 0 s (retake number s) := by
  rw [retake_eq fitted]
  exact .of_same rfl rfl rfl (motors_put rfl fitted ((idleState_stands d _).trans stands.symm))

/-- A drive that takes the target queues what its stop, or the withdrawal of its group, owes. -/
theorem takeTarget_feeds (number : Nat) (s : State) : Feeds 0 s (takeTarget number s) := by
  cases fitted : pick? s.blind.drives number with
  | none =>
    rw [takeTarget, fitted]
    exact .refl s
  | some d =>
    cases service : d.inService with
    | false =>
      rw [takeTarget_of_out fitted service]
      exact .refl s
    | true =>
      cases state : d.state with
      | stopped =>
        rw [takeTarget_of_idle fitted service (.inl state)]
        exact retake_feeds fitted (by rw [state]; rfl)
      | waitStage =>
        rw [takeTarget_of_idle fitted service (.inr state)]
        exact retake_feeds fitted (by rw [state]; rfl)
      | waitFeeder =>
        rw [takeTarget_of_waiting fitted service state]
        exact ite_keeps (P := Feeds 0 s) (.refl s) (.of_same rfl rfl rfl (motors_put rfl fitted (by rw [state]; rfl)))
      | settling =>
        cases grouped : d.group with
        | none =>
          rw [takeTarget, fitted]
          dsimp only
          rw [service, state, grouped]
          exact .refl s
        | some group =>
          rw [takeTarget_of_settling fitted service state grouped]
          exact ite_keeps (P := Feeds 0 s) (.refl s) (withdrawGroup_feeds group s)
      | running =>
        cases run : d.run with
        | none =>
          rw [takeTarget, fitted]
          dsimp only
          rw [service, state, run]
          exact .refl s
        | some r =>
          rw [takeTarget_of_running fitted service state run]
          have halts := (haltDrive_halts fitted state (d.estimate s.now)).retake fitted
          refine ite_keeps (P := Feeds 0 s) (.refl s) (halts.feeds fitted state fun runs => ?_)
          exact nomatch (idleState_stands _ _).symm.trans (beq_iff_eq.2 (by exact runs))

theorem forEach_feeds {α : Type} {act : α → State → State} (each : ∀ a s, Feeds 0 s (act a s)) (events : List α) (s : State) :
    Feeds 0 s (forEach events act s) := forEach_rel (Feeds 0) .refl (fun h k => h.trans k) act each events s

end Stops

end Sys2Proof.Machine
end

section
/-!
PROOFS. The room drive stage queues at most one FEEDER START (R155, R156), and so does a policy event beside the FEEDER ENDs it owes.
-/

namespace Sys2Proof.Machine

section Stage

variable {s t u : State}

/-! ### One START at a time -/

/-- Between two states of one event's end: with a start in hand nothing is queued, and it stays in hand; without one a FEEDER START may be
queued, which is then in hand. On a façade no drive enters RUNNING. -/
structure Asks (s t : State) : Prop where
  started : Feeds 1 s t
  held : s.blind.hand ≠ .nothing → Feeds 0 s t ∧ t.blind.hand ≠ .nothing
  turned : t.blind.hand = .nothing → Feeds 0 s t
  motors : s.loader.settings.facade ≠ 0 → t.blind.motors = s.blind.motors

theorem Asks.of_quiet (quiet : Feeds 0 s t) (hand : t.blind.hand = s.blind.hand)
    (motors : s.loader.settings.facade ≠ 0 → t.blind.motors = s.blind.motors) : Asks s t :=
  ⟨quiet.weaken (by decide), fun held => ⟨quiet, by rw [hand]; exact held⟩, fun _ => quiet, motors⟩

theorem Asks.refl (s : State) : Asks s s := .of_quiet (.refl s) rfl fun _ => rfl

theorem Asks.trans (h : Asks s t) (k : Asks t u) : Asks s u where
  started := by
    by_cases free : t.blind.hand = .nothing
    · exact (h.turned free).trans k.started
    · exact h.started.trans (k.held free).1
  held held := by
    obtain ⟨first, still⟩ := h.held held
    obtain ⟨later, last⟩ := k.held still
    exact ⟨first.trans later, last⟩
  turned free := by
    by_cases between : t.blind.hand = .nothing
    · exact (h.turned between).trans (k.turned free)
    · exact absurd free (k.held between).2
  motors facade := (k.motors (by rw [h.started.loader]; exact facade)).trans (h.motors facade)

/-- The Blind Controller's own state changes alone, its start in hand and its motors standing. -/
theorem setBlind_asks {b : Blind} (hand : b.hand = s.blind.hand) (motors : b.motors = s.blind.motors) : Asks s (s.setBlind b) :=
  .of_quiet (.of_same rfl rfl hand motors) hand fun _ => motors

theorem motors_moved (group : Nat) (before after : DriveState) (b : Blind) (first : before ≠ .running) (last : after ≠ .running) :
    (moved group before after b.drives).map (·.state == .running) = b.motors := by
  refine motors_map rfl fun d _ => ?_
  split
  next own => rw [own.2, beq_eq_false_iff_ne.2 first]; exact beq_eq_false_iff_ne.2 last
  next => rfl

/-! ### The feeder check (R156, R157) -/

theorem askFeeder_eq (group : Nat) (numbers : List Nat) (s : State) :
    (askFeeder group numbers s).1 =
      if (offerAnswered (s.feederStart numbers) s).2 then awaitReport group numbers.length (offer (s.feederStart numbers) s)
      else backOff group (awaitReport group numbers.length (offer (s.feederStart numbers) s)) := by
  unfold askFeeder offer
  dsimp only
  split <;> rfl

theorem awaitReport_motors (group drives : Nat) (s : State) : (awaitReport group drives s).blind.motors = s.blind.motors := by
  rw [awaitReport_eq]
  exact motors_moved _ _ _ _ (nomatch ·) (nomatch ·)

theorem backOff_motors (group : Nat) (s : State) : (backOff group s).blind.motors = s.blind.motors := by
  rw [backOff_eq]
  exact motors_moved _ _ _ _ (nomatch ·) (nomatch ·)

/-- Where no start is in hand, a START that is queued is in hand, and one that is discarded leaves the queue. -/
theorem askFeeder_asks (free : s.blind.hand = .nothing) (group : Nat) (numbers : List Nat) :
    Asks s (askFeeder group numbers s).1 := by
  have frame := offer_frame (s.feederStart numbers) s
  have blind : (offer (s.feederStart numbers) s).blind = s.blind := frame.blind
  rw [askFeeder_eq]
  split
  next taken =>
    have motors : (awaitReport group numbers.length (offer (s.feederStart numbers) s)).blind.motors = s.blind.motors := by
      rw [awaitReport_motors, blind]
    have owed : (awaitReport group numbers.length (offer (s.feederStart numbers) s)).owed = s.owed := by
      unfold State.owed
      rw [motors, free, show (awaitReport group numbers.length (offer (s.feederStart numbers) s)).loader = s.loader from frame.loader]
      rfl
    refine ⟨⟨frame.loader, ?_, fun busy room => ?_⟩, fun held => absurd free held, (nomatch ·), fun _ => motors⟩
    · rw [← length_motors, motors, length_motors]
    · by_cases gate : s.takesOffer .feederStart = true
      · have sent : offer (s.feederStart numbers) s = _ :=
          offer_of_busy gate busy (fun g _ => replaces_feeder (.inl rfl) g) (by omega)
        refine ⟨[s.feederStart numbers], (congrArg State.bus sent :), fun f mem => ?_, ?_, fun _ => ?_⟩
        · rw [List.mem_singleton.1 mem]
          exact .inl rfl
        · rw [owed, List.length_singleton, Nat.add_comm]
        · rw [owed]
          exact .refl _
      · rw [offerAnswered_of_refused (by exact gate)] at taken
        exact nomatch taken
  next discarded =>
    have untaken : (offerAnswered (s.feederStart numbers) s).2 = false := Bool.eq_false_iff.2 discarded
    have motors : (backOff group (awaitReport group numbers.length (offer (s.feederStart numbers) s))).blind.motors = s.blind.motors := by
      rw [backOff_motors, awaitReport_motors, blind]
    have owed : (backOff group (awaitReport group numbers.length (offer (s.feederStart numbers) s))).owed = s.owed :=
      owed_of_same frame.loader free.symm motors
    have fitted : (backOff group (awaitReport group numbers.length (offer (s.feederStart numbers) s))).blind.drives.length =
        s.blind.drives.length := by rw [← length_motors, motors, length_motors]
    have bus (busy : s.bus.line = .busy) : (backOff group (awaitReport group numbers.length (offer (s.feederStart numbers) s))).bus = s.bus :=
      (congrArg State.bus (offerAnswered_of_discarded busy untaken) :)
    have quiet : Feeds 0 s (backOff group (awaitReport group numbers.length (offer (s.feederStart numbers) s))) :=
      ⟨by exact frame.loader, fitted, fun busy => (Feeds.of_owed (by exact frame.loader) fitted (bus busy) owed).posts busy⟩
    exact .of_quiet quiet free.symm fun _ => motors

theorem plan_motors (group : Nat) (b : Blind) : (b.plan group).motors = b.motors := by
  refine motors_map rfl fun d _ => ?_
  split <;> rfl

theorem planGroup_asks (group : Nat) (s : State) : Asks s (planGroup group s) := by
  rw [planGroup_eq]
  exact setBlind_asks rfl (plan_motors group s.blind)

theorem feederCheck_asks (group : Nat) (s : State) : Asks s (feederCheck group s).1 := by
  have planned := planGroup_asks group s
  unfold feederCheck
  dsimp only
  split
  next => exact planned
  next free =>
    split
    next => exact planned
    next => exact planned.trans (askFeeder_asks (not_not.1 (not_or.1 free).2) group _)

theorem recheckGroups_asks (s : State) : Asks s (recheckGroups s).1 :=
  eachAnswered_rel Asks .refl .trans feederCheck feederCheck_asks _ s

/-! ### The grant of slots (R155) -/

/-- Without a façade nothing of the stage reaches the Bus Port. -/
def Hushed (s t : State) : Prop :=
  s.loader.settings.facade = 0 →
    t.loader = s.loader ∧ t.bus = s.bus ∧ t.blind.hand = s.blind.hand ∧ t.blind.drives.length = s.blind.drives.length

theorem Hushed.refl (s : State) : Hushed s s := fun _ => ⟨rfl, rfl, rfl, rfl⟩

theorem Hushed.trans (h : Hushed s t) (k : Hushed t u) : Hushed s u := fun none => by
  obtain ⟨loader, bus, hand, fitted⟩ := h none
  obtain ⟨loader', bus', hand', fitted'⟩ := k (by rw [loader]; exact none)
  exact ⟨loader'.trans loader, bus'.trans bus, hand'.trans hand, fitted'.trans fitted⟩

theorem Hushed.asks (h : Hushed s t) (none : s.loader.settings.facade = 0) : Asks s t := by
  obtain ⟨loader, bus, hand, fitted⟩ := h none
  refine .of_quiet (.of_owed loader fitted bus ?_) hand fun facade => absurd none facade
  unfold State.owed
  rw [loader, if_pos none, if_pos none, hand]

theorem mapDrive_shape (b : Blind) (n : Nat) (f : Drive → Drive) :
    (b.mapDrive n f).hand = b.hand ∧ (b.mapDrive n f).drives.length = b.drives.length := by
  rw [Blind.mapDrive_eq]
  exact ⟨rfl, List.length_mapIdx⟩

theorem foldl_mapDrive_shape (numbers : List Nat) (f : Drive → Drive) (b : Blind) :
    (numbers.foldl (fun b n => b.mapDrive n f) b).hand = b.hand ∧
      (numbers.foldl (fun b n => b.mapDrive n f) b).drives.length = b.drives.length :=
  ⟨foldl_keeps Blind.hand _ (fun b n => (mapDrive_shape b n f).1) numbers b,
    foldl_keeps (fun b : Blind => b.drives.length) _ (fun b n => (mapDrive_shape b n f).2) numbers b⟩

theorem setBlind_hushed {b : Blind} (shape : b.hand = s.blind.hand ∧ b.drives.length = s.blind.drives.length) : Hushed s (s.setBlind b) :=
  fun _ => ⟨rfl, rfl, shape.1, shape.2⟩

theorem LightOnly.hushed (h : LightOnly s t) : Hushed s t := by
  obtain ⟨l, -, rfl⟩ := h
  exact fun _ => ⟨rfl, rfl, rfl, rfl⟩

theorem haltDrive_hushed (number : Nat) (position : Option Nat) (s : State) : Hushed s (haltDrive number position s) := fun none => by
  have silent : announceHalt (withBlind (·.mapDrive number (·.halt position)) s) = withBlind (·.mapDrive number (·.halt position)) s :=
    if_pos none
  have bus : (haltDrive number position s).bus = s.bus := by
    rw [haltDrive, hearHalt_bus, silent]
    rfl
  refine ⟨(haltDrive_frame number position s).loader, bus, ?_, ?_⟩
  · rw [haltDrive_blind]
    exact (mapDrive_shape _ _ _).1
  · rw [haltDrive_blind]
    exact (mapDrive_shape _ _ _).2

theorem checkLimit_hushed (number : Nat) (s : State) : Hushed s (checkLimit number s) := by
  refine ite_keeps (P := Hushed s) ?_ (.refl s)
  unfold haltAtLimit
  split
  next => exact .refl s
  next =>
    split
    next => exact .refl s
    next => exact (haltDrive_hushed _ _ s).trans ((setBlind_hushed (mapDrive_shape _ _ _)).trans (setBlind_hushed (mapDrive_shape _ _ _)))

theorem enterRunning_hushed (numbers : List Nat) (s : State) : Hushed s (enterRunning numbers s) := by
  refine Hushed.trans ?_ (forEach_rel Hushed .refl .trans _ checkLimit_hushed numbers _)
  have started : Hushed s (withBlind (fun b => numbers.foldl (fun b n => b.mapDrive n (·.startMotor s.now)) b) s) :=
    setBlind_hushed (foldl_mapDrive_shape numbers _ s.blind)
  exact ite_keeps (P := Hushed s) (started.trans (motionStarted_only _).hushed) started

/-- None of the drives is RUNNING. -/
def Blind.Stand (b : Blind) (numbers : List Nat) : Prop := ∀ n ∈ numbers, pick? b.motors n ≠ some true

theorem mapDrive_motors {b : Blind} {n : Nat} {f : Drive → Drive} (stands : pick? b.motors n ≠ some true)
    (stopped : ∀ d, ((f d).state == .running) = false) : (b.mapDrive n f).motors = b.motors := by
  cases fitted : pick? b.drives n with
  | none => rw [Blind.mapDrive_of_absent fitted]
  | some d =>
    rw [Blind.mapDrive_of_fitted fitted]
    refine motors_put rfl fitted ((stopped d).trans ?_)
    rw [Blind.motors, pick?_map, fitted] at stands
    exact (Bool.eq_false_iff.2 fun runs => stands (congrArg some runs)).symm

theorem foldl_mapDrive_motors {f : Drive → Drive} (stopped : ∀ d, ((f d).state == .running) = false) :
    ∀ (numbers : List Nat) (b : Blind), b.Stand numbers → (numbers.foldl (fun b n => b.mapDrive n f) b).motors = b.motors
  | [], _, _ => rfl
  | n :: rest, b, stand => by
    have first := mapDrive_motors (stand n List.mem_cons_self) stopped
    refine (foldl_mapDrive_motors stopped rest (b.mapDrive n f) fun m mem => ?_).trans first
    rw [first]
    exact stand m (List.mem_cons_of_mem _ mem)

/-- A group that stands forms without a frame. -/
theorem launchGroup_asks {numbers : List Nat} (stand : s.loader.settings.facade ≠ 0 → s.blind.Stand numbers) :
    Asks s (launchGroup numbers s).1 := by
  unfold launchGroup
  dsimp only
  by_cases none : s.loader.settings.facade = 0
  · rw [if_pos (by exact none)]
    have formed : Hushed s (formGroup numbers s) := setBlind_hushed (foldl_mapDrive_shape numbers _ s.blind)
    exact (formed.trans (enterRunning_hushed numbers _)).asks none
  · rw [if_neg (by exact none)]
    have formed : Asks s (formGroup numbers s) :=
      setBlind_asks (foldl_mapDrive_shape numbers _ s.blind).1 (foldl_mapDrive_motors (fun _ => rfl) numbers s.blind (stand none))
    exact formed.trans (feederCheck_asks _ _)

theorem launchGroups_asks : ∀ (groups : List (List Nat)) (s : State),
    (s.loader.settings.facade ≠ 0 → ∀ g ∈ groups, s.blind.Stand g) → Asks s (eachAnswered launchGroup groups s).1
  | [], s, _ => .refl s
  | g :: rest, s, stand => by
    have first : Asks s (launchGroup g s).1 := launchGroup_asks fun facade => stand facade g List.mem_cons_self
    refine first.trans (launchGroups_asks rest (launchGroup g s).1 fun facade other mem n inside => ?_)
    rw [first.started.loader] at facade
    rw [first.motors facade]
    exact stand facade other (List.mem_cons_of_mem _ mem) n inside

theorem grantSlots_asks (s : State) : Asks s (grantSlots s).1 := by
  refine launchGroups_asks _ s fun _ g formed n mem runs => ?_
  obtain ⟨d, fitted, waits⟩ := mem_numbersOf.1 (List.mem_of_mem_take (mem_formations (List.mem_flatten_of_mem formed mem)))
  rw [Blind.motors, pick?_map, fitted, Option.map_some, Option.some_inj, beq_iff_eq] at runs
  exact nomatch (beq_iff_eq.1 waits).symm.trans runs

theorem settleStage_asksOnce : ∀ (rounds : Nat) (recheck : Bool) (s : State), Asks s (settleStage rounds recheck s)
  | 0, _, s => .refl s
  | n + 1, recheck, s => by
    have granted := grantSlots_asks s
    have checked : Asks s (if recheck then recheckGroups (grantSlots s).1 else ((grantSlots s).1, false)).1 := by
      split
      · exact granted.trans (recheckGroups_asks _)
      · exact granted
    unfold settleStage
    dsimp only
    split
    next => exact .refl s
    next => exact ite_keeps (P := Asks s) (checked.trans (settleStage_asksOnce n true _)) checked

/-! ### Events that apply a target -/

/-- A station without drives queues no START. -/
def State.askable (s : State) : Nat := min 1 s.blind.drives.length

theorem Feeds.askable (h : Feeds n s t) : t.askable = s.askable := by
  unfold State.askable
  rw [h.fitted]

/-- An event queues one FEEDER START at most, which is then in hand, beside what it owes. -/
structure Once (s t : State) : Prop where
  feeds : Feeds s.askable s t
  turned : t.blind.hand = .nothing → Feeds 0 s t

theorem Once.of_quiet (quiet : Feeds 0 s t) : Once s t := ⟨quiet.weaken (Nat.zero_le _), fun _ => quiet⟩

theorem Once.after (quiet : Feeds 0 s t) (once : Once t u) : Once s u := by
  refine ⟨?_, fun free => quiet.trans (once.turned free)⟩
  have feeds := quiet.trans once.feeds
  rwa [Nat.zero_add, quiet.askable] at feeds

theorem settleStage_once (rounds : Nat) (recheck : Bool) (s : State) : Once s (settleStage rounds recheck s) := by
  cases drives : s.blind.drives with
  | cons d rest =>
    have asks := settleStage_asksOnce rounds recheck s
    refine ⟨?_, asks.turned⟩
    unfold State.askable
    rw [drives, List.length_cons, Nat.min_eq_left (Nat.le_add_left 1 _)]
    exact asks.started
  | nil =>
    have idle : settleStage rounds recheck s = s :=
      settleStage_of_idle ((inState_eq_nil_iff _ _).2 (by rw [drives]; exact List.forall_mem_nil _))
        (waitingGroups_eq_nil (by rw [drives]; exact List.forall_mem_nil _)) rounds recheck
    rw [idle]
    exact .of_quiet (.refl s)

/-- The stage settled again queues no second START. -/
theorem Once.settle (h : Once s t) (rounds : Nat) (recheck : Bool) : Once s (settleStage rounds recheck t) := by
  have asks := settleStage_asksOnce rounds recheck t
  by_cases free : t.blind.hand = .nothing
  · exact .after (h.turned free) (settleStage_once rounds recheck t)
  · obtain ⟨quiet, held⟩ := asks.held free
    exact ⟨h.feeds.trans quiet, fun free => absurd free held⟩

theorem takeTargets_once (s : State) : Once s (takeTargets s) :=
  .after ((forEach_feeds takeTarget_feeds (numbersOf s.blind.drives fun _ => true) s).trans (withBlind_feeds Blind.pruneBackoffs _ rfl rfl))
    (settleStage_once stageRounds true _)

theorem applyWanted_once (s : State) : Once s (applyWanted s) :=
  .after (withBlind_feeds (fun b => { b with applied := b.wanted, dwellTimer := s.timer (minutes 10), latched := false }) s rfl rfl)
    (takeTargets_once _)

theorem rework_feeds (s : State) : Feeds 0 s (rework s) := withBlind_feeds _ s rfl rfl

theorem reapply_once (s : State) : Once s (reapply s) := .after (rework_feeds s) (applyWanted_once _)

theorem policyEvent_once (glare : Bool) (s : State) : Once s (policyEvent glare s) := by
  have quiet (change : Blind → Blind) (hand : (change (rework s).blind).hand = (rework s).blind.hand)
      (motors : (change (rework s).blind).motors = (rework s).blind.motors) : Once s (withBlind change (rework s)) :=
    .of_quiet ((rework_feeds s).trans (withBlind_feeds change _ hand motors))
  unfold policyEvent
  exact ite_keeps (P := Once s) (.of_quiet (rework_feeds s)) (ite_keeps (P := Once s) (quiet _ rfl rfl)
    (ite_keeps (P := Once s) (quiet _ rfl rfl) (.after (rework_feeds s) (applyWanted_once _))))

theorem setGlare_once (glare : Nat) (s : State) : Once s (setGlare glare s) := by
  have judged : Feeds 0 s (withBlind (fun b => { b with glare := glare, glaring := glaringAt glare b.glaring }) s) :=
    withBlind_feeds _ s rfl rfl
  exact ite_keeps (P := Once s) (.after judged (policyEvent_once true _)) (.of_quiet judged)

theorem recomputeGlare_once (s : State) : Once s (recomputeGlare s) := by
  unfold recomputeGlare
  split
  · exact ite_keeps (P := Once s) (.of_quiet (.refl s)) (.of_quiet (withBlind_feeds _ s rfl rfl))
  next g gs _ =>
    have cleared : Feeds 0 s (clearAlert .sunLost (withBlind ({ · with holdTimer := none }) s)) := .of_same rfl rfl rfl rfl
    exact .after cleared (setGlare_once _ _)

/-! ### Drives cut short (R161, R163) -/

/-- Drives that are RUNNING are cut short, each with the FEEDER END it owes. -/
theorem cutShorts_feeds : ∀ (numbers : List Nat) (s : State), numbers.Nodup →
    (∀ n ∈ numbers, ∃ d, pick? s.blind.drives n = some d ∧ d.state = .running) → Feeds 0 s (forEach numbers cutShort s)
  | [], s, _, _ => .refl s
  | n :: rest, s, nodup, runs => by
    obtain ⟨apart, distinct⟩ := List.nodup_cons.1 nodup
    obtain ⟨d, fitted, running⟩ := runs n List.mem_cons_self
    have cut : cutShort n s = haltDrive n (d.estimate s.now) s := by rw [cutShort, fitted]
    have halts := haltDrive_halts fitted running (d.estimate s.now)
    refine (halts.feeds fitted running (nomatch ·)).trans (m := 0) ?_
    show Feeds 0 _ (forEach rest cutShort (cutShort n s))
    rw [cut]
    refine cutShorts_feeds rest _ distinct fun m mem => ?_
    obtain ⟨e, held, moving⟩ := runs m (List.mem_cons_of_mem _ mem)
    refine ⟨e, ?_, moving⟩
    rw [halts.blind]
    exact (pick?_put_other (ne_of_mem_of_not_mem mem apart)).trans held

theorem cutRunning_feeds (s : State) : Feeds 0 s (forEach (s.blind.inState .running) cutShort s) := by
  refine cutShorts_feeds _ s (nodup_numbersOf _ _) fun n mem => ?_
  obtain ⟨d, fitted, runs⟩ := mem_numbersOf.1 mem
  exact ⟨d, fitted, beq_iff_eq.1 runs⟩

theorem standDown_motors (b : Blind) : b.standDown.motors = b.motors := by
  refine motors_map rfl fun d _ => ?_
  split
  next => rfl
  next stands => exact (Bool.eq_false_iff.2 stands).symm

theorem standDown_feeds (s : State) : Feeds 0 s (withBlind Blind.standDown s) := withBlind_feeds _ s rfl (standDown_motors _)

theorem blindAssertion_feeds (s : State) : Feeds 0 s (blindAssertion s) :=
  ((withBlind_feeds ({ · with emergency := true }) s rfl rfl).trans (cutRunning_feeds _)).trans
    ((dropHand_feeds _).trans (standDown_feeds _))

theorem blindRelease_once (s : State) : Once s (blindRelease s) :=
  .after (withBlind_feeds ({ · with emergency := false }) s rfl rfl) (reapply_once _)

theorem blindRestart_once (s : State) : Once s (blindRestart s) := by
  have stopped := ((cutRunning_feeds s).trans (withBlind_feeds ({ · with orphans := [] }) _ rfl rfl)).trans
    ((dropHand_feeds _).trans (standDown_feeds _))
  exact ite_keeps (P := Once s) (.of_quiet stopped) (.after stopped (reapply_once _))

end Stage

end Sys2Proof.Machine
end

section
/-!
PROOFS. A queue with room, on a BUSY line, keeps its frames while the blocks offer CLAIMs and feeder frames (R19 to R21).
-/

namespace Sys2Proof.Machine

section Room

variable {s t u : State} {n m k : Nat}

/-! ### CLAIMs offered -/

/-- Only the Air Controller has acted, and has offered one CLAIM at most. -/
structure Bids (s t : State) : Prop where
  loader : t.loader = s.loader
  blind : t.blind = s.blind
  bus : t.bus = s.bus ∨ ∃ f : Frame, f.kind = .claim ∧ t.bus = (offer f s).bus

theorem Bids.refl (s : State) : Bids s s := ⟨rfl, rfl, .inl rfl⟩

theorem Bids.of_quiet (loader : t.loader = s.loader) (blind : t.blind = s.blind) (bus : t.bus = s.bus) : Bids s t :=
  ⟨loader, blind, .inl bus⟩

theorem Bids.after (quiet : Bids t u) (loader : t.loader = s.loader) (blind : t.blind = s.blind) (bus : t.bus = s.bus) : Bids s u := by
  refine ⟨quiet.loader.trans loader, quiet.blind.trans blind, ?_⟩
  rcases quiet.bus with same | ⟨f, claim, sent⟩
  · exact .inl (same.trans bus)
  · exact .inr ⟨f, claim, sent.trans (offer_bus f bus loader)⟩

theorem AirSettles.bids (h : AirSettles s t) : Bids s t := .of_quiet h.loader h.blind h.bus

theorem AirSettles.then_bids (h : AirSettles s t) (k : Bids t u) : Bids s u := k.after h.loader h.blind h.bus

theorem setAir_then_bids {a : Air} (h : Bids (s.setAir a) t) : Bids s t := h.after rfl rfl rfl

theorem offerClaim_bids (s : State) : Bids s (offerClaim s) := by
  unfold offerClaim
  refine ite_keeps (P := Bids s) ?_ ?_
  · rw [offerWithdrawal_eq]
    exact setAir_then_bids ⟨(offer_frame _ _).loader, (offer_frame _ _).blind, .inr ⟨_, rfl, rfl⟩⟩
  · rw [offerFigures_eq]
    exact setAir_then_bids ⟨(offer_frame _ _).loader, (offer_frame _ _).blind, .inr ⟨_, rfl, rfl⟩⟩

theorem triggerClaim_bids (s : State) : Bids s (triggerClaim s) := by
  unfold triggerClaim
  split
  · split
    · exact offerClaim_bids s
    · exact .of_quiet rfl rfl rfl
  · exact .refl s

theorem recomputeDemand_bids (s : State) : Bids s (recomputeDemand s) := by
  cases normal : s.isNormal with
  | false =>
    rw [recomputeDemand_of_fallback normal]
    exact .refl s
  | true =>
    rw [recomputeDemand_of_normal normal]
    exact setAir_then_bids ((regranted_settles s).then_bids (ite_keeps (P := Bids (regranted s)) (triggerClaim_bids _) (.refl _)))

theorem airBoost_bids (on : Bool) (s : State) : Bids s (airBoost on s) := setAir_then_bids (recomputeDemand_bids _)

theorem airClaimNotice_bids (s : State) : Bids s (airClaimNotice s) :=
  ite_keeps (P := Bids s) ((regrant_settles s).trans (judgeShortfall_settles _)).bids (.refl s)

theorem airAssertion_bids (s : State) : Bids s (airAssertion s) :=
  setAir_then_bids (((setCommand_settles 0 _).trans (judgeShortfall_settles _)).then_bids (triggerClaim_bids _))

theorem airRelease_bids (s : State) : Bids s (airRelease s) :=
  setAir_then_bids (a := { s.air with emergency := false }) (ite_keeps (P := Bids (s.setAir { s.air with emergency := false }))
    (((regrant_settles _).trans (judgeShortfall_settles _)).then_bids (triggerClaim_bids _)) (setCommand_settles 500 _).bids)

theorem airRestart_bids (s : State) : Bids s (airRestart s) :=
  ite_keeps (P := Bids s) (setAir_then_bids (((regrant_settles _).trans (judgeShortfall_settles _)).then_bids (triggerClaim_bids _)))
    (.refl s)

theorem startCommand_settles (s : State) : AirSettles s (startCommand s) :=
  ite_keeps (P := AirSettles s) (.refl s) (ite_keeps (P := AirSettles s) (setGrant_settles _ s) (setCommand_settles _ s))

theorem airStart_bids (s : State) : Bids s (airStart s) := by
  refine setAir_then_bids (a := s.airAtStart) (ite_keeps (P := Bids (s.setAir s.airAtStart)) ?_
    ((startCommand_settles _).trans (compareDamper_settles _)).bids)
  exact setAir_then_bids (((startCommand_settles _).trans ((compareDamper_settles _).trans (judgeShortfall_settles _))).then_bids
    (triggerClaim_bids _))

/-! ### A queue with room -/

/-- The place that a CLAIM still needs: none where one waits already (R20). -/
def BusPort.claimRoom (b : BusPort) : Nat := if b.queue.any (·.kind == .claim) then 0 else 1

/-- The line is BUSY, and beside `k` more frames the queue has room for a CLAIM and for the FEEDER ENDs owed. -/
structure Spare (k : Nat) (s : State) : Prop where
  busy : s.bus.line = .busy
  room : s.bus.queue.length + s.owed.length + s.bus.claimRoom + k ≤ 10

theorem Spare.less (h : Spare n s) (le : m ≤ n) : Spare m s := ⟨h.busy, by have := h.room; omega⟩

/-- What a queue keeps while CLAIMs and feeder frames are taken: one joins behind, or a CLAIM that waits takes a body. -/
structure Durable (G : List Frame → Prop) : Prop where
  join : ∀ {q : List Frame} {f : Frame}, f.kind ∈ [Kind.claim, .feederStart, .feederEnd] → G q → G (q ++ [f])
  recast : ∀ {before after : List Frame} {w : Frame} {body : List Byte}, w.kind = .claim →
    G (before ++ w :: after) → G (before ++ { w with body := body } :: after)

theorem Durable.joinAll {G : List Frame → Prop} (durable : Durable G) {added : List Frame}
    (kinds : ∀ f ∈ added, f.kind ∈ [Kind.claim, .feederStart, .feederEnd]) {q : List Frame} (holds : G q) : G (q ++ added) := by
  induction added generalizing q with
  | nil => rwa [List.append_nil]
  | cons f rest ih =>
    rw [List.append_cons]
    exact ih (fun g mem => kinds g (List.mem_cons_of_mem _ mem)) (durable.join (kinds f List.mem_cons_self) holds)

/-- The bodies of the FEEDER ENDs that wait. -/
def BusPort.ends (b : BusPort) : List (List Byte) := (b.queue.filter (·.kind == .feederEnd)).map (·.body)

/-- CLAIMs and feeder frames have been taken into a queue with room: at most `n` beside a CLAIM and the FEEDER ENDs owed. -/
structure Books (n : Nat) (s t : State) : Prop where
  loader : t.loader = s.loader
  fitted : t.blind.drives.length = s.blind.drives.length
  spare : ∀ {k : Nat}, Spare (n + k) s → Spare k t
  bus : Spare n s → ∃ q, t.bus = { s.bus with queue := q } ∧ (∀ {G : List Frame → Prop}, Durable G → G s.bus.queue → G q) ∧
    (s.takesOffer .feederEnd = true → (t.bus.ends ++ t.owed).Perm (s.bus.ends ++ s.owed))

theorem Books.refl (s : State) : Books 0 s s :=
  ⟨rfl, rfl, fun spare => spare.less (by omega), fun _ => ⟨s.bus.queue, rfl, fun _ => id, fun _ => .refl _⟩⟩

theorem Books.trans (h : Books n s t) (k : Books m t u) : Books (n + m) s u := by
  refine ⟨k.loader.trans h.loader, k.fitted.trans h.fitted, fun spare => k.spare (h.spare (spare.less (by omega))), fun spare => ?_⟩
  obtain ⟨q, bus, kept, paid⟩ := h.bus (spare.less (by omega))
  obtain ⟨q', bus', kept', paid'⟩ := k.bus (h.spare spare)
  refine ⟨q', by rw [bus', bus], fun durable holds => kept' durable ?_, fun taken => ?_⟩
  · rw [bus]
    exact kept durable holds
  · exact (paid' (takesOffer_of_loader h.loader _ ▸ taken)).trans (paid taken)

theorem Books.weaken (h : Books n s t) (le : n ≤ m) : Books m s t :=
  ⟨h.loader, h.fitted, fun spare => h.spare (spare.less (by omega)), fun spare => h.bus (spare.less le)⟩

theorem claimRoom_append {b c : BusPort} {added : List Frame} (queue : c.queue = b.queue ++ added) : c.claimRoom ≤ b.claimRoom := by
  unfold BusPort.claimRoom
  rw [queue, List.any_append]
  cases b.queue.any (·.kind == .claim) with
  | true => exact Nat.le_refl 0
  | false => split <;> decide

/-- Feeder frames join the queue. -/
theorem Feeds.books (h : Feeds n s t) : Books n s t := by
  have posts (spare : Spare n s) := h.posts spare.busy (by have := spare.room; omega)
  refine ⟨h.loader, h.fitted, fun {k} spare => ?_, fun spare => ?_⟩
  · obtain ⟨added, bus, -, bound, -⟩ := posts (spare.less (by omega))
    have claim : t.bus.claimRoom ≤ s.bus.claimRoom := claimRoom_append (congrArg BusPort.queue bus)
    have room := spare.room
    refine ⟨by rw [bus]; exact spare.busy, ?_⟩
    rw [show t.bus.queue = s.bus.queue ++ added from congrArg BusPort.queue bus, List.length_append]
    omega
  · obtain ⟨added, bus, kinds, -, paid⟩ := posts spare
    refine ⟨s.bus.queue ++ added, bus, fun durable => durable.joinAll fun f mem => ?_, fun taken => ?_⟩
    · rcases kinds f mem with kind | kind <;> rw [kind] <;> decide
    · rw [bus]
      unfold BusPort.ends
      rw [List.filter_append, List.map_append, List.append_assoc]
      exact (paid taken).append_left _

theorem replaces_of_claim {f : Frame} (claim : f.kind = .claim) (g : Frame) : replaces f g = (g.kind == .claim) := by
  unfold replaces
  rw [claim]

/-- A CLAIM that is taken where there is room for it gives its body to one that waits, or joins behind. -/
theorem offer_claim {f : Frame} (claim : f.kind = .claim) (taken : s.takesOffer f.kind = true) (spare : Spare 0 s) :
    (∃ before w after, s.bus.queue = before ++ w :: after ∧ w.kind = .claim ∧
        offer f s = s.setBus { s.bus with queue := before ++ { w with body := f.body } :: after }) ∨
      (s.bus.queue.any (·.kind == .claim) = false ∧ offer f s = s.setBus { s.bus with queue := s.bus.queue ++ [f] }) := by
  cases found : s.bus.queue.find? (·.kind == .claim) with
  | some w =>
    obtain ⟨own, before, after, split, others⟩ := List.find?_eq_some_iff_append.1 found
    refine .inl ⟨before, w, after, split, beq_iff_eq.1 own, ?_⟩
    have entered := enqueue_of_replaces (f := f) split (fun g mem => (replaces_of_claim claim g).trans (by simpa using others g mem))
      ((replaces_of_claim claim w).trans own)
    unfold offer
    rw [offerAnswered_of_taken taken, entered, takeHead_of_busy (by exact spare.busy)]
  | none =>
    have absent : s.bus.queue.any (·.kind == .claim) = false := List.any_eq_false.2 (List.find?_eq_none.1 found)
    have room := spare.room
    rw [BusPort.claimRoom, absent, if_neg Bool.false_ne_true] at room
    exact .inr ⟨absent, offer_of_busy taken spare.busy
      (fun g mem => (replaces_of_claim claim g).trans (Bool.eq_false_iff.2 (List.find?_eq_none.1 found g mem))) (by omega)⟩

theorem claimRoom_of_mem {b : BusPort} {f : Frame} (mem : f ∈ b.queue) (claim : f.kind = .claim) : b.claimRoom = 0 :=
  if_pos (List.any_eq_true.2 ⟨f, mem, by rw [claim]; rfl⟩)

/-- A CLAIM that is taken joins the queue, or gives its body to one that waits. -/
theorem Bids.books (h : Bids s t) : Books 0 s t := by
  have owed : t.owed = s.owed := owed_of_same h.loader (by rw [h.blind]) (by rw [h.blind])
  have fitted : t.blind.drives.length = s.blind.drives.length := by rw [h.blind]
  have quiet (bus : t.bus = s.bus) : Books 0 s t :=
    (Feeds.of_same h.loader bus (by rw [h.blind]) (by rw [h.blind])).books
  rcases h.bus with bus | ⟨f, claim, sent⟩
  · exact quiet bus
  by_cases taken : s.takesOffer f.kind = true
  · refine ⟨h.loader, fitted, fun {k} spare => ?_, fun spare => ?_⟩
    · have room := spare.room
      rcases offer_claim claim taken (spare.less (Nat.zero_le _)) with ⟨before, w, after, split, waits, entered⟩ | ⟨absent, entered⟩
      · rw [entered] at sent
        have claims : t.bus.claimRoom = 0 :=
          claimRoom_of_mem (f := { w with body := f.body }) (by rw [sent]; simp) waits
        rw [split, List.length_append, List.length_cons] at room
        refine ⟨by rw [sent]; exact spare.busy, ?_⟩
        rw [owed, claims, show t.bus.queue = _ from congrArg BusPort.queue sent, State.setBus_bus, List.length_append, List.length_cons]
        omega
      · rw [entered] at sent
        have claims : t.bus.claimRoom = 0 := claimRoom_of_mem (f := f) (by rw [sent]; simp) claim
        rw [BusPort.claimRoom, absent, if_neg Bool.false_ne_true] at room
        refine ⟨by rw [sent]; exact spare.busy, ?_⟩
        rw [owed, claims, show t.bus.queue = _ from congrArg BusPort.queue sent, State.setBus_bus, List.length_append, List.length_singleton]
        omega
    · rcases offer_claim claim taken spare with ⟨before, w, after, split, waits, entered⟩ | ⟨absent, entered⟩
      · rw [entered] at sent
        refine ⟨_, sent, fun durable holds => ?_, fun _ => ?_⟩
        · rw [split] at holds
          exact durable.recast waits holds
        · rw [sent, owed]
          unfold BusPort.ends
          rw [State.setBus_bus, split]
          simp [waits]
      · rw [entered] at sent
        refine ⟨_, sent, fun durable holds => durable.join (by rw [claim]; decide) holds, fun _ => ?_⟩
        rw [sent, owed]
        unfold BusPort.ends
        rw [State.setBus_bus, List.filter_append]
        simp [claim]
  · rw [offer_of_refused taken] at sent
    exact quiet sent

/-! ### The blocks take an event, in whatever order -/

theorem Bids.askable (h : Bids s t) : t.askable = s.askable := by
  unfold State.askable
  rw [h.blind]

theorem Books.askable (h : Books n s t) : t.askable = s.askable := by
  unfold State.askable
  rw [h.fitted]

/-- A block that takes an event once takes it between those before and those after it. -/
theorem fanOut_around {b : Block} {blocks : List Block} (mem : b ∈ blocks) (act : Block → State → State) (s : State) :
    ∃ before after, (before ++ b :: after).Perm blocks ∧ fanOut blocks act s = forEach after act (act b (forEach before act s)) := by
  have order := permute_perm s.order blocks
  obtain ⟨before, after, split⟩ := List.append_of_mem (order.mem_iff.2 mem)
  refine ⟨before, after, split ▸ order, ?_⟩
  rw [fanOut, split]
  exact List.foldl_append ..

end Room

end Sys2Proof.Machine
end

section
/-!
PROOFS. The mode is taken and the blocks start, with the IDENTITY first in the queue (R4, R6 to R10).
-/

namespace Sys2Proof.Machine

/-! ### The transmit side while the line is BUSY -/

section Silent

/-- The transmitter rests, on a BUSY line. -/
def BusPort.Silent (b : BusPort) : Prop := b.line = .busy ∧ b.transmitter = .idle ∧ b.attempts = 0

/-- Of a BUSY line an offer leaves all but the queue and the hold. -/
theorem offerAnswered_silent {s : State} (f : Frame) (silent : s.bus.Silent) : (offerAnswered f s).1.bus.Silent := by
  obtain ⟨busy, idle, fresh⟩ := silent
  rcases offerAnswered_cases f s with ⟨-, e⟩ | ⟨-, e⟩ <;> rw [e]
  · show (s.bus.enqueue f).1.takeHead.Silent
    rcases enqueue_shapes s.bus f with ⟨_, _, _, -, -, e⟩ | ⟨-, -, e⟩ | e | ⟨_, _, _, -, -, -, e⟩ <;>
      rw [e, takeHead_of_busy (by exact busy)] <;> exact ⟨busy, idle, fresh⟩
  · exact ⟨busy, idle, fresh⟩

theorem silent_offersOnly : OffersOnly (fun s => s.bus.Silent) where
  offer f := offerAnswered_silent f
  air _ p := p
  light _ p := p
  blind _ p := p
  panel _ p := p
  session _ p := p
  intake _ p := p
  draws _ p := p
  raise _ _ p := p
  clear _ _ p := p
  lines _ p := p
  now _ p := p
  clock _ p := p
  counter _ p := p
  peers _ p := p
  alert _ p := p

/-- A station without a working address, and its Bus Port as it stands. -/
def State.Mute (b : BusPort) (s : State) : Prop := s.loader.address = none ∧ s.bus = b

theorem offerAnswered_mute {b : BusPort} {s : State} (f : Frame) (mute : s.Mute b) : (offerAnswered f s).1.Mute b := by
  rw [offerAnswered_of_refused fun taken => ((takesOffer_iff s f.kind).1 taken).1 mute.1]
  exact mute

theorem mute_offersOnly (b : BusPort) : OffersOnly (State.Mute b) where
  offer f := offerAnswered_mute f
  air _ p := p
  light _ p := p
  blind _ p := p
  panel _ p := p
  session _ p := p
  intake _ p := p
  draws _ p := p
  raise _ _ p := p
  clear _ _ p := p
  lines _ p := p
  now _ p := p
  clock _ p := p
  counter _ p := p
  peers _ p := p
  alert _ p := p

end Silent

/-! ### The IDENTITY stays first in the queue -/

section Identity

variable {s t : State} {id : Frame} {k : Nat}

/-- The IDENTITY waits first under its hold. -/
structure Waits (id : Frame) (s : State) : Prop where
  hold : s.bus.hold = true
  first : s.bus.queue.head? = some id

theorem durable_first (kind : id.kind = .identity) : Durable (fun q => q.head? = some id) where
  join _ holds := by rw [List.head?_append, holds]; rfl
  recast {before after w body} claim holds := by
    cases before with
    | nil =>
      rw [List.nil_append, List.head?_cons, Option.some_inj] at holds
      rw [holds, kind] at claim
      exact nomatch claim
    | cons f rest => exact holds

theorem Books.waits {n : Nat} (h : Books n s t) (kind : id.kind = .identity) (spare : Spare n s) (waits : Waits id s) : Waits id t := by
  obtain ⟨q, bus, kept, -⟩ := h.bus spare
  refine ⟨by rw [bus]; exact waits.hold, ?_⟩
  rw [bus]
  exact kept (durable_first kind) waits.first

theorem identityWaits_of_waits {address : Byte} (addressed : t.loader.address = some address) (waits : Waits (t.identity address) t) :
    IdentityWaits t := by
  refine ⟨fun none => (nomatch none.symm.trans addressed), fun other same => ?_⟩
  obtain rfl : other = address := Option.some_inj.1 (same.symm.trans addressed)
  refine ⟨waits.hold, ?_, waits.first⟩
  rw [headPlace_of_held waits.hold]
  have first := waits.first
  cases queue : t.bus.queue with
  | nil => exact nomatch queue ▸ first
  | cons f rest =>
    rw [queue, List.head?_cons, Option.some_inj] at first
    subst first
    rfl

/-- An offered IDENTITY waits first in an empty queue on a BUSY line. -/
theorem offerIdentity_waits {address : Byte} (addressed : s.loader.address = some address) (up : s.started = true)
    (busy : s.bus.line = .busy) (empty : s.bus.queue = []) :
    offerIdentity s = s.setBus { s.bus with queue := [s.identity address], hold := true } := by
  have gate : s.takesOffer .identity = true := by
    refine (takesOffer_iff s .identity).2 ⟨by rw [addressed]; exact nofun, ?_⟩
    unfold State.started at up
    split at up
    next phase => exact .inl phase
    next phase => exact .inr ⟨phase, .inl rfl⟩
    all_goals exact nomatch up
  have entered : s.bus.enqueue (s.identity address) = ({ s.bus with queue := s.bus.queue ++ [s.identity address] }, true) :=
    enqueue_of_room (by rw [empty]; exact List.forall_mem_nil _) (by rw [empty]; decide)
  unfold offerIdentity
  rw [addressed]
  dsimp only
  rw [if_pos gate, BusPort.admitHeld, entered, takeHead_of_busy (by exact busy), empty]
  simp

theorem offerIdentity_of_unaddressed (unaddressed : s.loader.address = none) : offerIdentity s = s := by
  unfold offerIdentity
  rw [unaddressed]

end Identity

/-! ### The start of the blocks -/

section Start

variable {s t : State} {id : Frame}

/-- A run of blocks under a budget. -/
theorem forEach_within {P : Nat → State → Prop} {act : Block → State → State} {cost : Block → Nat}
    (each : ∀ b k s, P (cost b + k) s → P k (act b s)) :
    ∀ (blocks : List Block) (k : Nat) (s : State), P ((blocks.map cost).sum + k) s → P k (forEach blocks act s)
  | [], _, _, p => by rwa [List.map_nil, List.sum_nil, Nat.zero_add] at p
  | b :: rest, k, s, p => by
    rw [List.map_cons, List.sum_cons, Nat.add_assoc] at p
    exact forEach_within each rest k (act b s) (each b _ s p)

theorem fanOut_within {P : Nat → State → Prop} {act : Block → State → State} {cost : Block → Nat}
    (each : ∀ b k s, P (cost b + k) s → P k (act b s)) (blocks : List Block) {k : Nat} (p : P ((blocks.map cost).sum + k) s) :
    P k (fanOut blocks act s) := by
  refine forEach_within each _ k s ?_
  rwa [((permute_perm s.order blocks).map cost).sum_eq]

/-- While the blocks start nothing is owed: the Blind Controller's drives stand from its own start on. -/
def Starting (id : Frame) (k : Nat) (s : State) : Prop := Spare k (s.setBlind Blind.idle) ∧ Waits id s

theorem Bids.setBlind (h : Bids s t) (b : Blind) : Bids (s.setBlind b) (t.setBlind b) := by
  refine ⟨h.loader, rfl, h.bus.imp id fun ⟨f, claim, sent⟩ => ⟨f, claim, ?_⟩⟩
  rw [offer_setBlind]
  exact sent

theorem Bids.starting {k : Nat} (h : Bids s t) (kind : id.kind = .identity) (starting : Starting id k s) : Starting id k t := by
  have books := (h.setBlind Blind.idle).books
  have waits : Waits id (t.setBlind Blind.idle) :=
    books.waits kind (starting.1.less (Nat.zero_le _)) ⟨starting.2.hold, starting.2.first⟩
  exact ⟨books.spare (starting.1.less (by omega)), waits.hold, waits.first⟩

theorem motors_blindAtStart (s : State) : s.blindAtStart.motors.count true = 0 := by
  refine List.count_eq_zero.2 fun runs => ?_
  obtain ⟨d, mem, running⟩ := List.mem_map.1 runs
  obtain ⟨i, inside, rfl⟩ := List.mem_mapIdx.1 mem
  exact nomatch running

theorem owed_of_standing (hand : s.blind.hand = .nothing) (motors : s.blind.motors.count true = 0) : s.owed = [] := by
  unfold State.owed
  rw [hand, motors, ite_self]
  rfl

theorem blindStart_once (s : State) : Once (s.setBlind s.blindAtStart) (blindStart s) := by
  rw [blindStart_eq]
  exact ite_keeps (P := Once (s.setBlind s.blindAtStart)) (.of_quiet (.refl _)) (reapply_once _)

theorem askable_le (s : State) : s.askable ≤ 1 := Nat.min_le_left _ _

theorem blindStart_starting {k : Nat} (kind : id.kind = .identity) (starting : Starting id (1 + k) s) : Starting id k (blindStart s) := by
  have books := (blindStart_once s).feeds.books.weaken (askable_le _)
  have owed : (s.setBlind s.blindAtStart).owed = (s.setBlind Blind.idle).owed :=
    (owed_of_standing rfl (motors_blindAtStart s)).trans (owed_of_standing (s := s.setBlind Blind.idle) rfl rfl).symm
  have spare : Spare (1 + k) (s.setBlind s.blindAtStart) := ⟨starting.1.busy, by rw [owed]; exact starting.1.room⟩
  have after := books.spare spare
  have waits : Waits id (blindStart s) := books.waits kind (spare.less (by omega)) ⟨starting.2.hold, starting.2.first⟩
  refine ⟨⟨after.busy, ?_⟩, waits⟩
  have idle : ((blindStart s).setBlind Blind.idle).owed = [] := owed_of_standing rfl rfl
  have room := after.room
  rw [idle]
  show (blindStart s).bus.queue.length + 0 + (blindStart s).bus.claimRoom + k ≤ 10
  omega

theorem takeStart_starting (b : Block) (k : Nat) (s : State) (kind : id.kind = .identity)
    (starting : Starting id ((if b = .blind then 1 else 0) + k) s) : Starting id k (takeStart b s) := by
  have quiet {t : State} (loader : t.loader = s.loader) (blind : t.blind = s.blind) (bus : t.bus = s.bus)
      (other : b ≠ .blind) : Starting id k t := by
    rw [if_neg other, Nat.zero_add] at starting
    exact (Bids.of_quiet loader blind bus).starting kind starting
  cases b with
  | blind => exact blindStart_starting kind starting
  | air =>
    rw [if_neg (by decide), Nat.zero_add] at starting
    exact (airStart_bids s).starting kind starting
  | alert =>
    show Starting id k (alertStart s)
    rw [alertStart_alert]
    exact quiet rfl rfl rfl (by decide)
  | clock | intake | session | counter | peers | light | panel => exact quiet rfl rfl rfl (by decide)

end Start

end Sys2Proof.Machine
end

section
/-!
PROOFS. The mode is taken: what the station holds when its blocks have started (R4, R6 to R10).
-/

namespace Sys2Proof.Machine

section Parts

variable {s t : State}

/-! ### What each block's start leaves of the others -/

theorem takeStart_clock (b : Block) (s : State) (other : b ≠ .clock) : (takeStart b s).clock = s.clock := by
  cases b
  case air => exact (airStart_frame s).clock
  case blind => exact (blindStart_frame s).clock
  case alert => exact (congrArg State.clock (alertStart_alert s) :)
  case clock => exact absurd rfl other
  all_goals rfl

theorem takeStart_intake (b : Block) (s : State) (other : b ≠ .intake) : (takeStart b s).intake = s.intake := by
  cases b
  case air => exact (airStart_frame s).intake
  case blind => exact (blindStart_frame s).intake
  case alert => exact (congrArg State.intake (alertStart_alert s) :)
  case intake => exact absurd rfl other
  all_goals rfl

theorem takeStart_air (b : Block) (s : State) (other : b ≠ .air) : (takeStart b s).air = s.air := by
  cases b
  case blind => exact (blindStart_frame s).air
  case alert => exact (congrArg State.air (alertStart_alert s) :)
  case air => exact absurd rfl other
  all_goals rfl

theorem takeStart_blind (b : Block) (s : State) (other : b ≠ .blind) : (takeStart b s).blind = s.blind := by
  cases b
  case air => exact (airStart_frame s).blind
  case alert => exact (congrArg State.blind (alertStart_alert s) :)
  case blind => exact absurd rfl other
  all_goals rfl

theorem takeStart_panel (b : Block) (s : State) (other : b ≠ .panel) : (takeStart b s).panel = s.panel := by
  cases b
  case air => exact (airStart_frame s).panel
  case blind => exact (blindStart_frame s).panel
  case alert => exact (congrArg State.panel (alertStart_alert s) :)
  case panel => exact absurd rfl other
  all_goals rfl

/-- The Light Controller but for its harvest hold, which the drives move. -/
def Light.unheld (l : Light) : Light := { l with hold := .off }

theorem takeStart_light (b : Block) (s : State) (other : b ≠ .light) : (takeStart b s).light.unheld = s.light.unheld := by
  cases b
  case air => exact congrArg Light.unheld (airStart_frame s).light
  case blind =>
    have moved := (blindStart_frame s).light
    show (blindStart s).light.unheld = _
    rw [moved]
    rfl
  case alert => exact congrArg Light.unheld (congrArg State.light (alertStart_alert s) :)
  case light => exact absurd rfl other
  all_goals rfl

theorem takeStart_mask (b : Block) (s : State) (other : b ≠ .alert) : (takeStart b s).alert.mask = s.alert.mask := by
  cases b
  case air => exact (airStart_frame s).mask
  case blind => exact (blindStart_frame s).mask
  case alert => exact absurd rfl other
  all_goals rfl

theorem alertStart_mask (s : State) : (alertStart s).alert.mask = s.loader.settings.mask := by
  unfold alertStart
  dsimp only
  split <;> rfl

/-- The alerts that a start may move. -/
def startAlerts : List Alert := [.emergency, .damperFault, .shortfall, .clockUnset]

theorem takeStart_kept (b : Block) (s : State) : AlertsKept startAlerts s (takeStart b s) := by
  have closed := alertsKept_closed startAlerts s
  have kept := AlertsKept.refl startAlerts s
  cases b with
  | air => exact closed.airStart (by decide) (by decide) kept
  | blind => exact closed.blindStart kept
  | clock => exact closed.raise _ (by decide) kept
  | alert => exact ite_keeps (P := AlertsKept startAlerts s) (closed.raise (s := s.setAlert _) _ (by decide) kept) kept
  | light | panel | session | intake | counter | peers => exact kept

theorem takeStart_clockUnset (b : Block) (s : State) (other : b ≠ .clock) :
    (takeStart b s).isRaised .clockUnset = s.isRaised .clockUnset := by
  have closed := alertsKept_closed [.emergency, .damperFault, .shortfall] s
  have kept := AlertsKept.refl [.emergency, .damperFault, .shortfall] s
  have same : AlertsKept [.emergency, .damperFault, .shortfall] s (takeStart b s) := by
    cases b with
    | air => exact closed.airStart (by decide) (by decide) kept
    | blind => exact closed.blindStart kept
    | clock => exact absurd rfl other
    | alert =>
      exact ite_keeps (P := AlertsKept [.emergency, .damperFault, .shortfall] s) (closed.raise (s := s.setAlert _) _ (by decide) kept) kept
    | light | panel | session | intake | counter | peers => exact kept
  exact same _ (by decide)

/-! ### What the start of each block brings -/

theorem airStart_air (s : State) : s.airAtStart.Computes (airStart s).air ∧ (airStart s).air.claimClass = 0 := by
  have normal : (s.setAir s.airAtStart).air.Computes
        (triggerClaim (judgeShortfall (compareDamper (startCommand (computeDemand (s.setAir s.airAtStart)))))).air ∧
      (triggerClaim (judgeShortfall (compareDamper (startCommand (computeDemand (s.setAir s.airAtStart)))))).air.claimClass = 0 := by
    have settles := (startCommand_settles (computeDemand (s.setAir s.airAtStart))).trans
      ((compareDamper_settles _).trans (judgeShortfall_settles _))
    have claims := triggerClaim_claims (judgeShortfall (compareDamper (startCommand (computeDemand (s.setAir s.airAtStart)))))
    have computed : (s.setAir s.airAtStart).air.Computes (computeDemand (s.setAir s.airAtStart)).air :=
      ⟨⟨rfl, rfl, rfl, rfl, rfl, rfl⟩, rfl, rfl, rfl, rfl, rfl⟩
    refine ⟨computed.trans (settles.computes.trans claims.computes), ?_⟩
    exact congrArg ClaimFigures.claimClass (claims.figures.trans settles.figures)
  have fallback := (startCommand_settles (s.setAir s.airAtStart)).trans (compareDamper_settles _)
  exact ite_keeps (P := fun t => (s.setAir s.airAtStart).air.Computes t.air ∧ t.air.claimClass = 0) normal
    ⟨fallback.computes, congrArg ClaimFigures.claimClass fallback.figures⟩

theorem airAtStart_timer (s : State) : s.airAtStart.co2Timer = some (s.now + 900000) := rfl

/-- The Light Controller holds these values where it is, but for its harvest hold, that of a start (R127). -/
theorem light_of_unheld {l : Light} {groups : List Group} {now : Nat} {asserted : Bool} (light : l.unheld = { Light.idle with
      groups := groups, harvestTimer := some (now + 10000), photoTimer := some (now + 60000), emergency := asserted }) :
    l.regime = .standby ∧ l.vacant = false ∧ l.scene = .standby ∧ l.warning = none ∧ l.offset = 0 ∧ l.photoState = .awaiting ∧
      l.reading = none ∧ l.harvestTimer = some (now + 10000) ∧ l.photoTimer = some (now + 60000) ∧ l.emergency = asserted ∧
      l.groups.length = groups.length :=
  ⟨(congrArg Light.regime light :), (congrArg Light.vacant light :), (congrArg Light.scene light :),
    (congrArg Light.warning light :), (congrArg Light.offset light :), (congrArg Light.photoState light :),
    (congrArg Light.reading light :), (congrArg Light.harvestTimer light :), (congrArg Light.photoTimer light :),
    (congrArg Light.emergency light :), (congrArg (fun l : Light => l.groups.length) light :)⟩

theorem lightStart_light (s : State) : ∃ groups, groups.length = s.loader.settings.groups.length ∧
    (lightStart s).light.unheld = { Light.idle with
      groups := groups, harvestTimer := some (s.now + 10000), photoTimer := some (s.now + 60000), emergency := s.alert.emergency } := by
  have fitted : (startGroups s.loader.settings.groups s.lines.switches).length = s.loader.settings.groups.length := List.length_mapIdx
  unfold lightStart
  dsimp only [State.setLight_light]
  split
  · exact ⟨_, fitted, rfl⟩
  · exact ⟨_, (List.length_map _).trans fitted, rfl⟩

/-- The Blind Controller at its start: no sun, its copies empty, the target open, as many drives as the settings name (R142). -/
theorem blindStart_blind (s : State) : (blindStart s).blind.own = none ∧ (blindStart s).blind.glare = 0 ∧
    (blindStart s).blind.glaring = false ∧ (blindStart s).blind.regime = .standby ∧ (blindStart s).blind.vacant = false ∧
    (blindStart s).blind.override = none ∧ (blindStart s).blind.wanted = 0 ∧ (blindStart s).blind.applied = 0 ∧
    (blindStart s).blind.emergency = s.alert.emergency ∧ (blindStart s).blind.drives.length = s.loader.settings.travel.length := by
  have fitted : (blindStart s).blind.drives.length = s.loader.settings.travel.length :=
    (blindStart_once s).feeds.fitted.trans List.length_mapIdx
  have policy : ∃ timer, (blindStart s).blind.policy = { s.blindAtStart.policy with dwellTimer := timer } := by
    rw [blindStart_eq]
    split
    · exact ⟨none, rfl⟩
    · exact ⟨_, takeTargets_policy _⟩
  obtain ⟨timer, policy⟩ := policy
  exact ⟨(congrArg Blind.own policy :), (congrArg Blind.glare policy :), (congrArg Blind.glaring policy :),
    (congrArg Blind.regime policy :), (congrArg Blind.vacant policy :), (congrArg Blind.override policy :),
    (congrArg Blind.wanted policy :), (congrArg Blind.applied policy :), (congrArg Blind.emergency policy :), fitted⟩

end Parts

/-! ### What the station holds when every block has started -/

section Started

variable (u : State)

theorem takeStart_premise (b : Block) (t : State) (kept : StartFrame u t) : StartFrame u (takeStart b t) :=
  kept.trans (takeStart_frame b t)

theorem starts_clock : (fanOut otherBlocks takeStart u).clock = { WeekClock.unset with tick := some (u.now + 1000) } := by
  refine fanOut_part State.clock _ .clock (takeStart_premise u) (fun t kept => ?_) takeStart_clock (mem_otherBlocks _) (.refl u)
  exact congrArg (fun n => ({ WeekClock.unset with tick := some (n + 1000) } : WeekClock)) kept.now

theorem starts_intake : (fanOut otherBlocks takeStart u).intake = Intake.empty :=
  fanOut_part State.intake _ .intake (takeStart_premise u) (fun _ _ => rfl) takeStart_intake (mem_otherBlocks _) (.refl u)

theorem starts_air : (fanOut otherBlocks takeStart u).air.co2State = .awaiting ∧
    (fanOut otherBlocks takeStart u).air.co2 = u.loader.settings.setpoint ∧
    (fanOut otherBlocks takeStart u).air.co2Timer = some (u.now + 900000) ∧
    (fanOut otherBlocks takeStart u).air.count = 0 ∧ (fanOut otherBlocks takeStart u).air.vacant = false ∧
    (fanOut otherBlocks takeStart u).air.regime = .standby ∧ (fanOut otherBlocks takeStart u).air.boost = false ∧
    (fanOut otherBlocks takeStart u).air.emergency = u.alert.emergency ∧
    (fanOut otherBlocks takeStart u).air.feedback = u.lines.damper ∧ (fanOut otherBlocks takeStart u).air.claimClass = 0 := by
  refine fanOut_brings_under (P := fun t => t.air.co2State = .awaiting ∧ t.air.co2 = u.loader.settings.setpoint ∧
      t.air.co2Timer = some (u.now + 900000) ∧ t.air.count = 0 ∧ t.air.vacant = false ∧ t.air.regime = .standby ∧
      t.air.boost = false ∧ t.air.emergency = u.alert.emergency ∧ t.air.feedback = u.lines.damper ∧ t.air.claimClass = 0)
    .air (takeStart_premise u) (fun t kept => ?_) (fun b t other _ p => by rw [takeStart_air b t other]; exact p)
    (mem_otherBlocks _) (.refl u)
  obtain ⟨computes, claimClass⟩ := airStart_air t
  exact ⟨computes.co2State, computes.co2.trans (congrArg (fun l : Loader => l.settings.setpoint) kept.loader),
    (computes.co2Timer.trans (airAtStart_timer t)).trans (by rw [kept.now]), computes.count, computes.vacant, computes.inputs.regime,
    computes.inputs.boost, computes.inputs.emergency.trans kept.emergency,
    computes.inputs.feedback.trans (congrArg Lines.damper kept.lines), claimClass⟩

theorem starts_unheld : ∃ groups : List Group, groups.length = u.loader.settings.groups.length ∧
    (fanOut otherBlocks takeStart u).light.unheld = { Light.idle with
      groups := groups, harvestTimer := some (u.now + 10000), photoTimer := some (u.now + 60000), emergency := u.alert.emergency } := by
  refine fanOut_brings_under (P := fun t => ∃ groups : List Group, groups.length = u.loader.settings.groups.length ∧
      t.light.unheld = { Light.idle with
        groups := groups, harvestTimer := some (u.now + 10000), photoTimer := some (u.now + 60000), emergency := u.alert.emergency })
    .light (takeStart_premise u) (fun t kept => ?_) (fun b t other _ p => by rw [takeStart_light b t other]; exact p)
    (mem_otherBlocks _) (.refl u)
  obtain ⟨groups, fitted, light⟩ := lightStart_light t
  rw [kept.now, kept.emergency] at light
  exact ⟨groups, fitted.trans (congrArg (fun l : Loader => l.settings.groups.length) kept.loader), light⟩

theorem starts_light : (fanOut otherBlocks takeStart u).light.regime = .standby ∧
    (fanOut otherBlocks takeStart u).light.vacant = false ∧ (fanOut otherBlocks takeStart u).light.scene = .standby ∧
    (fanOut otherBlocks takeStart u).light.warning = none ∧ (fanOut otherBlocks takeStart u).light.offset = 0 ∧
    (fanOut otherBlocks takeStart u).light.photoState = .awaiting ∧ (fanOut otherBlocks takeStart u).light.reading = none ∧
    (fanOut otherBlocks takeStart u).light.harvestTimer = some (u.now + 10000) ∧
    (fanOut otherBlocks takeStart u).light.photoTimer = some (u.now + 60000) ∧
    (fanOut otherBlocks takeStart u).light.emergency = u.alert.emergency ∧
    (fanOut otherBlocks takeStart u).light.groups.length = u.loader.settings.groups.length :=
  (starts_unheld u).elim fun _ held => held.1 ▸ light_of_unheld held.2

theorem starts_blind : (fanOut otherBlocks takeStart u).blind.own = none ∧ (fanOut otherBlocks takeStart u).blind.glare = 0 ∧
    (fanOut otherBlocks takeStart u).blind.glaring = false ∧ (fanOut otherBlocks takeStart u).blind.regime = .standby ∧
    (fanOut otherBlocks takeStart u).blind.vacant = false ∧ (fanOut otherBlocks takeStart u).blind.override = none ∧
    (fanOut otherBlocks takeStart u).blind.wanted = 0 ∧ (fanOut otherBlocks takeStart u).blind.applied = 0 ∧
    (fanOut otherBlocks takeStart u).blind.emergency = u.alert.emergency ∧
    (fanOut otherBlocks takeStart u).blind.drives.length = u.loader.settings.travel.length := by
  refine fanOut_brings_under (P := fun t => t.blind.own = none ∧ t.blind.glare = 0 ∧ t.blind.glaring = false ∧
      t.blind.regime = .standby ∧ t.blind.vacant = false ∧ t.blind.override = none ∧ t.blind.wanted = 0 ∧ t.blind.applied = 0 ∧
      t.blind.emergency = u.alert.emergency ∧ t.blind.drives.length = u.loader.settings.travel.length)
    .blind (takeStart_premise u) (fun t kept => ?_) (fun b t other _ p => by rw [takeStart_blind b t other]; exact p)
    (mem_otherBlocks _) (.refl u)
  have begun := blindStart_blind t
  rw [kept.emergency, kept.loader] at begun
  exact begun

theorem starts_panel : (fanOut otherBlocks takeStart u).panel = { Panel.idle with emergency := u.alert.emergency } := by
  refine fanOut_part State.panel _ .panel (takeStart_premise u) (fun t kept => ?_) takeStart_panel (mem_otherBlocks _) (.refl u)
  exact congrArg (fun e => ({ Panel.idle with emergency := e } : Panel)) kept.emergency

theorem starts_mask : (fanOut otherBlocks takeStart u).alert.mask = u.loader.settings.mask := by
  refine fanOut_part (fun t => t.alert.mask) _ .alert (takeStart_premise u) (fun t kept => ?_) takeStart_mask (mem_otherBlocks _) (.refl u)
  exact (alertStart_mask t).trans (congrArg (fun l : Loader => l.settings.mask) kept.loader)

theorem starts_clockUnset : (fanOut otherBlocks takeStart u).isRaised .clockUnset = true := by
  refine fanOut_part (fun t => t.isRaised .clockUnset) _ .clock (takeStart_premise u) (fun t _ => ?_) takeStart_clockUnset
    (mem_otherBlocks _) (.refl u)
  show (raiseAlert .clockUnset _).isRaised .clockUnset = true
  rw [isRaised_raise]
  exact Bool.or_true _

end Started

/-! ### The mode (R4, R6) -/

section Mode

variable (phase : Phase) (address : Option Byte) (settings : Settings) (clamped : Bool) (s : State)

/-- The Bus Port when the blocks start: nothing but the IDENTITY of a station with a working address, under its hold (R9, R10). -/
theorem modeTaken_bus (mode : phase = .normal ∨ phase = .fallback) :
    (modeTaken phase address settings clamped s).bus =
      match address with
      | none => { BusPort.off with quietTimer := some (s.now + 2) }
      | some a => { BusPort.off with
          quietTimer := some (s.now + 2), queue := [(modeTaken phase address settings clamped s).identity a], hold := true } := by
  have taken : QuietFrame (s.setLoader { phase := phase, readTimer := none, address := address, settings := settings })
      (alertIs .configClamped clamped (alertIs .configFallback (phase == .fallback)
        (s.setLoader { phase := phase, readTimer := none, address := address, settings := settings }))) :=
    (alertIs_frame .configFallback (phase == .fallback) _).trans (alertIs_frame .configClamped clamped _)
  have now : (busStart (alertIs .configClamped clamped (alertIs .configFallback (phase == .fallback)
      (s.setLoader { phase := phase, readTimer := none, address := address, settings := settings })))).bus =
      { BusPort.off with quietTimer := some (s.now + 2) } :=
    congrArg (fun n => ({ BusPort.off with quietTimer := some (n + 2) } : BusPort)) taken.now
  cases address with
  | none =>
    unfold modeTaken
    rw [offerIdentity_of_unaddressed (by exact congrArg Loader.address taken.loader)]
    exact now
  | some a =>
    have offered := offerIdentity_waits (s := busStart (alertIs .configClamped clamped (alertIs .configFallback (phase == .fallback)
        (s.setLoader { phase := phase, readTimer := none, address := some a, settings := settings }))))
      (by exact congrArg Loader.address taken.loader)
      (by unfold State.started; rw [show (busStart _).loader = _ from taken.loader]; rcases mode with rfl | rfl <;> rfl) rfl rfl
    unfold modeTaken
    rw [offered, now]
    rfl

/-- The IDENTITY stays first while the blocks start. -/
theorem takeMode_identityWaits (mode : phase = .normal ∨ phase = .fallback) :
    IdentityWaits (takeMode phase address settings clamped s) := by
  have bus := modeTaken_bus phase address settings clamped s mode
  have loader := takeMode_loader phase address settings clamped s
  have taken := (modeTaken_frame phase address settings clamped s).loader
  rw [takeMode_eq] at loader ⊢
  cases address with
  | none =>
    have mute : (fanOut otherBlocks takeStart (modeTaken phase none settings clamped s)).Mute
        { BusPort.off with quietTimer := some (s.now + 2) } :=
      fanOut_keeps _ _ (fun b _ => (mute_offersOnly _).takeStart b) _ _ ⟨(congrArg Loader.address taken :), bus⟩
    exact ⟨fun _ => by rw [mute.2]; exact ⟨rfl, rfl⟩, fun a some => nomatch mute.1.symm.trans some⟩
  | some a =>
    have spare : Spare 8 ((modeTaken phase (some a) settings clamped s).setBlind Blind.idle) := by
      refine ⟨by rw [State.setBlind_bus, bus]; rfl, ?_⟩
      rw [owed_of_standing (s := (modeTaken phase (some a) settings clamped s).setBlind Blind.idle) rfl rfl, State.setBlind_bus, bus]
      exact Nat.le_refl 10
    have begun : Starting ((modeTaken phase (some a) settings clamped s).identity a)
        ((otherBlocks.map fun b => if b = .blind then 1 else 0).sum + 7) (modeTaken phase (some a) settings clamped s) :=
      ⟨spare, by rw [bus], by rw [bus]; rfl⟩
    have started := fanOut_within (fun b k t => takeStart_starting b k t rfl) otherBlocks begun
    refine identityWaits_of_waits (congrArg Loader.address loader) ?_
    have same : (fanOut otherBlocks takeStart (modeTaken phase (some a) settings clamped s)).identity a =
        (modeTaken phase (some a) settings clamped s).identity a := by
      unfold State.identity
      rw [(takeStarts_frame _).loader]
    rw [same]
    exact started.2

/-- The blocks have started from the state in which the mode is taken (R6). -/
theorem takeMode_startedFrom (mode : phase = .normal ∨ phase = .fallback) :
    StartedFrom s (takeMode phase address settings clamped s) := by
  have frame := modeTaken_frame phase address settings clamped s
  have bus := modeTaken_bus phase address settings clamped s mode
  have rests : (modeTaken phase address settings clamped s).bus.Silent ∧
      (modeTaken phase address settings clamped s).bus.quietTimer = some (s.now + 2) := by
    rw [bus]
    cases address <;> exact ⟨⟨rfl, rfl, rfl⟩, rfl⟩
  have counter := takeMode_counter phase address settings clamped s
  have session := takeMode_session phase address settings clamped s
  have peers := takeMode_peers phase address settings clamped s
  have identity := takeMode_identityWaits phase address settings clamped s mode
  have loader := takeMode_loader phase address settings clamped s
  rw [takeMode_eq] at loader counter session peers identity ⊢
  generalize modeTaken phase address settings clamped s = u at *
  have start := takeStarts_frame u
  have silent := fanOut_keeps (fun t => t.bus.Silent) takeStart (fun b _ => silent_offersOnly.takeStart b) otherBlocks u rests.1
  obtain ⟨kept_line, kept_quiet⟩ := start.line.resolve_right fun began => nomatch rests.1.1.symm.trans began.1
  have taken : u.loader = (fanOut otherBlocks takeStart u).loader := start.loader.symm
  have air := starts_air u
  have light := starts_light u
  have blind := starts_blind u
  have panel := starts_panel u
  have clock := starts_clock u
  have mask := starts_mask u
  rw [taken] at air light blind mask
  rw [show u.now = s.now from frame.now] at air light clock
  rw [show u.alert.emergency = s.alert.emergency from frame.emergency] at air light blind panel
  rw [show u.lines = s.lines from frame.lines] at air
  have counted : (fanOut otherBlocks takeStart u).counter.count = 0 ∧ (fanOut otherBlocks takeStart u).counter.vacant = false ∧
      (fanOut otherBlocks takeStart u).counter.quietTimer =
        some (s.now + (fanOut otherBlocks takeStart u).loader.settings.vacancyHold * 60000) := by
    rw [counter, loader]
    exact ⟨rfl, rfl, rfl⟩
  exact {
    pending := start.pending.trans frame.pending, inbox := start.inbox.trans frame.inbox, now := start.now.trans frame.now
    draws := start.draws.trans frame.draws, order := start.order.trans frame.order, lines := start.lines.trans frame.lines
    receiver := ⟨start.receiver.trans frame.receiver, start.collected.trans frame.collected, kept_line.trans rests.1.1,
      kept_quiet.trans rests.2⟩
    transmitter := silent.2, clock := clock, intake := starts_intake u, session := session, counter := counted, peers := peers
    air := air, light := light, blind := blind, panel := panel
    alert := ⟨mask, start.emergency.trans frame.emergency, start.debounce.trans frame.debounce⟩
    clockUnset := starts_clockUnset u, identity := identity }

theorem takeMode_alerts :
    (takeMode phase address settings clamped s).isRaised .configFallback = (phase == .fallback) ∧
      (takeMode phase address settings clamped s).isRaised .configClamped = clamped := by
  have kept : AlertsKept startAlerts (modeTaken phase address settings clamped s) (takeMode phase address settings clamped s) :=
    fanOut_rel (AlertsKept startAlerts) (.refl _) (fun h k a other => (k a other).trans (h a other)) _ takeStart_kept _ _
  have offered (a : Alert) : (modeTaken phase address settings clamped s).isRaised a =
      (alertIs .configClamped clamped (alertIs .configFallback (phase == .fallback)
        (s.setLoader { phase := phase, readTimer := none, address := address, settings := settings }))).isRaised a := by
    unfold modeTaken offerIdentity
    split
    · rfl
    · split <;> rfl
  constructor
  · rw [kept _ (by decide), offered, isRaised_alertIs, if_neg (by decide), isRaised_alertIs, if_pos rfl]
  · rw [kept _ (by decide), offered, isRaised_alertIs, if_pos rfl]

end Mode

/-! ### The choice of the mode (R3, R4) -/

section Choice

variable {s : State} {image : Vector Byte 48} {address : Byte}

theorem imageAddress_of_range (first : image.toList[0]? = some address) (range : 1 ≤ address.toNat ∧ address.toNat ≤ 254) :
    imageAddress image = some address := by
  have same : image.toList.getD 0 0 = address := by rw [List.getD_eq_getElem?_getD, first]; rfl
  unfold imageAddress byteAt
  rw [same]
  exact if_pos range

theorem imageAddress_of_outside (first : image.toList[0]? = some address) (outside : address.toNat = 0 ∨ address.toNat = 255) :
    imageAddress image = none := by
  have same : image.toList.getD 0 0 = address := by rw [List.getD_eq_getElem?_getD, first]; rfl
  unfold imageAddress byteAt
  rw [same]
  exact if_neg (by rcases outside with e | e <;> rw [e] <;> decide)

theorem judgeImage_of_bad (bad : imageGood image = false) :
    judgeImage image s = takeMode .fallback (imageAddress image) .fallback false s := by
  rw [judgeImage, bad]

theorem judgeImage_of_unaddressed (good : imageGood image = true) (none : imageAddress image = none) :
    judgeImage image s = takeMode .fallback .none .fallback false s := by
  rw [judgeImage, good, none]

theorem judgeImage_of_good (good : imageGood image = true) (found : imageAddress image = some address) :
    judgeImage image s = takeMode .normal (some address) (settle image) (needsClamp image) s := by
  rw [judgeImage, good, found]

theorem byte_toNat_range (b : Byte) : (1 ≤ b.toNat ∧ b.toNat ≤ 254) ∨ b.toNat = 0 ∨ b.toNat = 255 := by
  have := b.isLt
  omega

end Choice

/-- Settles O4: the mode by the image's check and address, and the start of the blocks in it. -/
theorem modeIsTaken : Obligations.ModeIsTaken := by
  unfold Obligations.ModeIsTaken
  refine fun s reading => ⟨fun image address first => ?_, fun due runs => ?_⟩
  · have exec_image : exec (.readCompletion image) s = .next (judgeImage image s) := by
      rw [exec_eq_effectOf, effectOf_readCompletion, if_pos reading]
    refine ⟨_, exec_image, ?_⟩
    cases good : imageGood image with
    | false =>
      rw [judgeImage_of_bad good]
      obtain ⟨fallback, clamp⟩ := takeMode_alerts .fallback (imageAddress image) .fallback false s
      have loader := takeMode_loader .fallback (imageAddress image) .fallback false s
      refine ⟨takeMode_startedFrom _ _ _ _ s (.inr rfl), fun _ range => ?_, fun _ outside => ?_, (nomatch ·), (nomatch ·), ?_, ?_⟩
      · rw [loader, imageAddress_of_range first range]
      · rw [loader, imageAddress_of_outside first outside]
      · rw [fallback, loader]
      · rw [clamp, loader]
        rfl
    | true =>
      rcases byte_toNat_range address with range | outside
      · rw [judgeImage_of_good good (imageAddress_of_range first range)]
        obtain ⟨fallback, clamp⟩ := takeMode_alerts .normal (some address) (settle image) (needsClamp image) s
        have loader := takeMode_loader .normal (some address) (settle image) (needsClamp image) s
        refine ⟨takeMode_startedFrom _ _ _ _ s (.inl rfl), (nomatch ·), (nomatch ·), fun _ outside => by omega, fun _ _ => loader, ?_, ?_⟩
        · rw [fallback, loader]
        · rw [clamp, loader]
          rfl
      · rw [judgeImage_of_unaddressed good (imageAddress_of_outside first outside)]
        obtain ⟨fallback, clamp⟩ := takeMode_alerts .fallback none .fallback false s
        have loader := takeMode_loader .fallback none .fallback false s
        refine ⟨takeMode_startedFrom _ _ _ _ s (.inr rfl), (nomatch ·), (nomatch ·), fun _ _ => loader, fun _ range => by omega, ?_, ?_⟩
        · rw [fallback, loader]
        · rw [clamp, loader]
          rfl
  · obtain ⟨fallback, clamp⟩ := takeMode_alerts .fallback none .fallback false (s.setNow (max s.now due))
    refine ⟨_, ?_, takeMode_startedFrom .fallback none .fallback false _ (.inr rfl), takeMode_loader _ _ _ _ _, fallback, clamp⟩
    rw [exec_eq_effectOf, effectOf_readTimerExpiry, if_pos reading, runs, onExpiry_some]

end Sys2Proof.Machine
end

section
/-!
PROOFS. What an end of override and the other blocks leave while the Air Controller offers its CLAIM, in every order of the blocks
(R112, R114, R123, R172, R173).
-/

namespace Sys2Proof.Machine

section Apart

variable {s t u : State} {n m : Nat}

/-! ### An end of override -/

/-- Of the lights an end of override leaves all but the offset and the harvest hold. -/
theorem endOverride_light (cause : OverrideCause) (value : Int) (s : State) :
    ∃ offset hold, (endOverride cause value s).light = { s.light with offset := offset, hold := hold } := by
  have boosted := returnBoost_air_frame s.panel (returnOffset s.panel (resetOverride cause value s))
  have targeted := returnTarget_blind_frame s.panel (returnBoost s.panel (returnOffset s.panel (resetOverride cause value s)))
  have returned : ∃ offset, (returnOffset s.panel (resetOverride cause value s)).light = { s.light with offset := offset } :=
    ite_keeps (P := fun u => ∃ offset, u.light = { s.light with offset := offset }) ⟨s.light.offset, rfl⟩ ⟨0, rfl⟩
  obtain ⟨offset, light⟩ := returned
  have last := targeted.light
  rw [boosted.light, light] at last
  exact ⟨offset, _, last⟩

theorem endIfOn_light (cause : OverrideCause) (s : State) :
    ∃ offset hold, (endIfOn cause s).light = { s.light with offset := offset, hold := hold } :=
  ite_keeps (P := fun u => ∃ offset hold, u.light = { s.light with offset := offset, hold := hold }) (endOverride_light cause 0 s)
    (ite_keeps (P := fun u => ∃ offset hold, u.light = { s.light with offset := offset, hold := hold }) ⟨_, _, rfl⟩ ⟨_, _, rfl⟩)

/-- Without a boost, an end of override leaves the Air Controller as it is. -/
theorem endIfOn_air (cause : OverrideCause) (idle : s.panel.boost = false) : (endIfOn cause s).air = s.air :=
  ite_keeps (P := fun u => u.air = s.air) ((endOverride_keeps cause 0 s).1 idle) (ite_keeps (P := fun u => u.air = s.air) rfl rfl)

theorem endIfOn_boost (cause : OverrideCause) (idle : s.panel.boost = false) : (endIfOn cause s).panel.boost = false :=
  ite_keeps (P := fun u => u.panel.boost = false) (congrArg Panel.boost (endOverride_panel_eq cause 0 s))
    (ite_keeps (P := fun u => u.panel.boost = false) idle idle)

theorem returnOffset_feeds (held : Panel) (s : State) : Feeds 0 s (returnOffset held s) :=
  ite_keeps (P := Feeds 0 s) (.refl s) (.of_same rfl rfl rfl rfl)

theorem resetOverride_feeds (cause : OverrideCause) (value : Int) (s : State) : Feeds 0 s (resetOverride cause value s) :=
  .of_same rfl rfl rfl rfl

theorem writeRecord_feeds (cause : OverrideCause) (value : Int) (s : State) : Feeds 0 s (writeRecord cause value s) :=
  .of_same rfl rfl rfl rfl

theorem blindTarget_once (target : Option Nat) (s : State) : Once s (blindTarget target s) :=
  .after (withBlind_feeds _ s rfl rfl) (policyEvent_once false _)

theorem returnTarget_feeds (held : Panel) (s : State) : Feeds s.askable s (returnTarget held s) :=
  ite_keeps (P := Feeds s.askable s) (blindTarget_once none s).feeds (Feeds.weaken (.refl s) (Nat.zero_le _))

/-- An end of override books one FEEDER START at most, beside a CLAIM. -/
theorem endOverride_books (cause : OverrideCause) (value : Int) (s : State) : Books s.askable s (endOverride cause value s) := by
  have offset := ((resetOverride_feeds cause value s).trans (returnOffset_feeds s.panel _)).books
  have boost : Books 0 s (returnBoost s.panel (returnOffset s.panel (resetOverride cause value s))) :=
    offset.trans (ite_keeps (P := Books 0 _) (airBoost_bids false _).books (.refl _))
  have target := (returnTarget_feeds s.panel (returnBoost s.panel (returnOffset s.panel (resetOverride cause value s)))).books
  exact (boost.trans (target.weaken (Nat.le_of_eq boost.askable))).weaken (Nat.le_of_eq (Nat.zero_add _))

theorem endIfOn_books (cause : OverrideCause) (s : State) : Books s.askable s (endIfOn cause s) :=
  ite_keeps (P := Books s.askable s) (endOverride_books cause 0 s) (Books.weaken (n := 0)
    (ite_keeps (P := Books 0 s) (writeRecord_feeds cause 0 s).books (.refl s)) (Nat.zero_le _))

/-- Without a boost, an end of override offers no CLAIM. -/
theorem endIfOn_feeds (cause : OverrideCause) (idle : s.panel.boost = false) : Feeds s.askable s (endIfOn cause s) := by
  have offset := (resetOverride_feeds cause 0 s).trans (returnOffset_feeds s.panel _)
  have still : returnBoost s.panel (returnOffset s.panel (resetOverride cause 0 s)) =
      returnOffset s.panel (resetOverride cause 0 s) := if_neg (by simp [idle])
  have target := returnTarget_feeds s.panel (returnOffset s.panel (resetOverride cause 0 s))
  refine ite_keeps (P := Feeds s.askable s) ?_ (Feeds.weaken (n := 0)
    (ite_keeps (P := Feeds 0 s) (writeRecord_feeds cause 0 s) (.refl s)) (Nat.zero_le _))
  rw [endOverride, still]
  exact (offset.trans (target.weaken (Nat.le_of_eq offset.askable))).weaken (Nat.le_of_eq (Nat.zero_add _))

/-! ### Blocks beside the Air Controller -/

/-- The Air Controller has taken no part, and at most `n` feeder frames have joined beside the FEEDER ENDs owed. -/
structure Apart (n : Nat) (s t : State) : Prop extends Feeds n s t where
  air : t.air = s.air
  now : t.now = s.now

theorem Apart.refl (s : State) : Apart 0 s s := ⟨.refl s, rfl, rfl⟩

theorem Apart.trans (h : Apart n s t) (k : Apart m t u) : Apart (n + m) s u :=
  ⟨h.toFeeds.trans k.toFeeds, k.air.trans h.air, k.now.trans h.now⟩

theorem Apart.weaken (h : Apart n s t) (le : n ≤ m) : Apart m s t := ⟨h.toFeeds.weaken le, h.air, h.now⟩

/-- What each block books, a run of blocks books together. -/
theorem forEach_apart {Q : State → Prop} {act : Block → State → State} {cost : Block → Nat} {asked : Nat} :
    ∀ (blocks : List Block), (∀ b ∈ blocks, ∀ s, Q s → s.askable ≤ asked → Apart (cost b) s (act b s) ∧ Q (act b s)) →
      ∀ s, Q s → s.askable ≤ asked → Apart (blocks.map cost).sum s (forEach blocks act s) ∧ Q (forEach blocks act s)
  | [], _, s, q, _ => ⟨.refl s, q⟩
  | b :: rest, each, s, q, few => by
    rw [List.map_cons, List.sum_cons]
    obtain ⟨first, kept⟩ := each b List.mem_cons_self s q few
    obtain ⟨later, last⟩ := forEach_apart rest (fun c mem => each c (List.mem_cons_of_mem _ mem)) (act b s) kept
      (by rw [first.toFeeds.askable]; exact few)
    exact ⟨first.trans later, last⟩

/-- An event the Air Controller takes between blocks that leave it alone, with a budget for what those book. -/
theorem fanOut_apart {Q : State → Prop} {act : Block → State → State} {cost : Block → Nat} {asked : Nat} {blocks : List Block}
    (nodup : blocks.Nodup) (mem : .air ∈ blocks) (free : cost .air = 0)
    (each : ∀ b ∈ blocks, b ≠ .air → ∀ s, Q s → s.askable ≤ asked → Apart (cost b) s (act b s) ∧ Q (act b s))
    (airOnly : ∀ s, (act .air s).askable = s.askable ∧ (Q s → Q (act .air s)))
    (s : State) (q : Q s) (few : s.askable ≤ asked) :
    ∃ u k m, Apart k s u ∧ Apart m (act .air u) (fanOut blocks act s) ∧ k + m = (blocks.map cost).sum := by
  obtain ⟨before, after, order, split⟩ := fanOut_around mem act s
  have distinct := order.nodup_iff.2 nodup
  rw [List.nodup_middle, List.nodup_cons, List.mem_append, not_or] at distinct
  obtain ⟨⟨notBefore, notAfter⟩, -⟩ := distinct
  have inside : ∀ b, b ∈ before ∨ b ∈ after → b ∈ blocks := fun b among =>
    order.mem_iff.1 (List.mem_append.2 (among.imp_right (List.mem_cons_of_mem _)))
  obtain ⟨first, kept⟩ := forEach_apart (cost := cost) (Q := Q) before
    (fun b mem => each b (inside b (.inl mem)) fun same => notBefore (same ▸ mem)) s q few
  obtain ⟨askable, keeps⟩ := airOnly (forEach before act s)
  obtain ⟨last, -⟩ := forEach_apart (cost := cost) (Q := Q) after
    (fun b mem => each b (inside b (.inr mem)) fun same => notAfter (same ▸ mem)) (act .air (forEach before act s)) (keeps kept)
    (by rw [askable, first.toFeeds.askable]; exact few)
  refine ⟨_, _, _, first, split ▸ last, ?_⟩
  rw [← (order.map cost).sum_eq, List.map_append, List.map_cons, List.sum_append, List.sum_cons, free, Nat.zero_add]

/-! ### The CLAIM that waits -/

/-- Where one CLAIM at most waits and there is room for it, the one that is taken waits with its body (R20). -/
theorem offer_claim_waits {f : Frame} (claim : f.kind = .claim) (taken : s.takesOffer f.kind = true) (spare : Spare 0 s)
    (single : s.bus.queue.countP (·.kind == .claim) ≤ 1) :
    (∃ g ∈ (offer f s).bus.queue, g.kind = .claim) ∧ ∀ g ∈ (offer f s).bus.queue, g.kind = .claim → g.body = f.body := by
  rcases offer_claim claim taken spare with ⟨before, w, after, split, waits, entered⟩ | ⟨absent, entered⟩ <;> rw [entered]
  · rw [split, List.countP_append, List.countP_cons, if_pos (beq_iff_eq.2 waits)] at single
    have outside : ∀ g, g ∈ before ∨ g ∈ after → g.kind ≠ .claim := by
      rintro g (left | right) own
      · have := List.countP_pos_iff (p := fun f : Frame => f.kind == .claim).2 ⟨g, left, beq_iff_eq.2 own⟩
        omega
      · have := List.countP_pos_iff (p := fun f : Frame => f.kind == .claim).2 ⟨g, right, beq_iff_eq.2 own⟩
        omega
    refine ⟨⟨{ w with body := f.body }, by simp, waits⟩, fun g mem own => ?_⟩
    rcases List.mem_append.1 mem with left | right
    · exact absurd own (outside g (.inl left))
    rcases List.mem_cons.1 right with rfl | right
    · rfl
    · exact absurd own (outside g (.inr right))
  · refine ⟨⟨f, by simp, claim⟩, fun g mem own => ?_⟩
    rcases List.mem_append.1 mem with before | last
    · exact absurd (beq_iff_eq.2 own) (List.any_eq_false.1 absent g before)
    · rw [List.mem_singleton.1 last]

/-- Of the frames that wait, feeder frames leave the CLAIMs as they are. -/
theorem Feeds.claims (h : Feeds n s t) (spare : Spare n s) :
    (∀ g : Frame, g.kind = .claim → (g ∈ t.bus.queue ↔ g ∈ s.bus.queue)) ∧
      t.bus.queue.countP (·.kind == .claim) = s.bus.queue.countP (·.kind == .claim) := by
  obtain ⟨added, bus, kinds, -, -⟩ := h.posts spare.busy (by have := spare.room; omega)
  have others : ∀ g ∈ added, ¬(g.kind == .claim) = true := fun g mem own => by
    rcases kinds g mem with kind | kind <;> rw [kind] at own <;> exact nomatch own
  rw [bus]
  refine ⟨fun g own => ⟨fun mem => ?_, fun mem => List.mem_append_left _ mem⟩, ?_⟩
  · exact (List.mem_append.1 mem).resolve_right fun late => others g late (beq_iff_eq.2 own)
  · rw [List.countP_append, List.countP_eq_zero.2 others]
    rfl

/-- A CLAIM offered between two runs of blocks that offer none waits with its body, in a queue with room for what those book. -/
theorem Feeds.claim_waits {r : State} {f : Frame} (first : Feeds n s u) (last : Feeds m (offer f r) t) (bus : r.bus = u.bus)
    (loader : r.loader = u.loader) (blind : r.blind = u.blind) (claim : f.kind = .claim) (spare : Spare (n + m) s)
    (taken : s.takesOffer .claim = true) (single : s.bus.queue.countP (·.kind == .claim) ≤ 1) :
    (∃ g ∈ t.bus.queue, g.kind = .claim) ∧ ∀ g ∈ t.bus.queue, g.kind = .claim → g.body = f.body := by
  have room : Spare m u := first.books.spare spare
  have bid : Bids r (offer f r) := ⟨(offer_frame f r).loader, (offer_frame f r).blind, .inr ⟨f, claim, rfl⟩⟩
  have spared : Spare m r := by
    refine ⟨bus ▸ room.busy, ?_⟩
    rw [bus, owed_of_same loader (by rw [blind]) (by rw [blind])]
    exact room.room
  obtain ⟨-, count⟩ := first.claims (spare.less (by omega))
  obtain ⟨⟨g, waits, own⟩, bodies⟩ := offer_claim_waits claim (s := r)
    (by rw [claim, takesOffer_of_loader (loader.trans first.loader)]; exact taken) (spared.less (Nat.zero_le _)) (by rw [bus, count]; exact single)
  obtain ⟨same, -⟩ := last.claims (bid.books.spare (by rw [Nat.zero_add]; exact spared))
  exact ⟨⟨g, (same g own).2 waits, own⟩, fun h mem kind => bodies h ((same h kind).1 mem) kind⟩

end Apart

end Sys2Proof.Machine
end

section
/-!
PROOFS. An assertion of the emergency line on the whole of the station: the room stands still, and the CLAIM is withdrawn (R123, R138,
R161, R173, R175, R176).
-/

namespace Sys2Proof.Machine

section Assertion

variable {s t u : State}

/-! ### The rate window, open -/

/-- An open rate window stays as it is, and a trigger that is pending stays pending (R114). -/
def WindowKept (s t : State) : Prop := ∀ window, s.air.rateWindow = some window →
  t.air.rateWindow = some window ∧ (s.air.pendingTrigger = true → t.air.pendingTrigger = true)

theorem WindowKept.refl (s : State) : WindowKept s s := fun _ opened => ⟨opened, id⟩

theorem WindowKept.trans (h : WindowKept s t) (k : WindowKept t u) : WindowKept s u := fun window opened =>
  have ⟨still, pending⟩ := h window opened
  have ⟨last, waits⟩ := k window still
  ⟨last, waits ∘ pending⟩

theorem WindowKept.of_same (window : t.air.rateWindow = s.air.rateWindow) (pending : t.air.pendingTrigger = s.air.pendingTrigger) :
    WindowKept s t := fun _ opened => ⟨window.trans opened, pending.trans⟩

theorem AirSettles.windowKept (h : AirSettles s t) : WindowKept s t := .of_same (by rw [h.air]) (by rw [h.air])

theorem triggerClaim_windowKept (s : State) : WindowKept s (triggerClaim s) := fun window opened => by
  cases claims : s.claims with
  | false =>
    rw [triggerClaim_of_silent claims]
    exact ⟨opened, id⟩
  | true =>
    rw [triggerClaim_of_open claims (by rw [opened]; exact nofun)]
    exact ⟨opened, fun _ => rfl⟩

theorem recomputeDemand_windowKept (s : State) : WindowKept s (recomputeDemand s) := by
  cases normal : s.isNormal with
  | false =>
    rw [recomputeDemand_of_fallback normal]
    exact .refl s
  | true =>
    rw [recomputeDemand_of_normal normal]
    have figured : WindowKept s (figured s) := .of_same rfl rfl
    exact figured.trans ((regranted_settles s).windowKept.trans
      (ite_keeps (P := WindowKept (regranted s)) (triggerClaim_windowKept _) (.refl _)))

theorem airBoost_windowKept (on : Bool) (s : State) : WindowKept s (airBoost on s) :=
  have noted : WindowKept s (s.setAir { s.air with boost := on }) := .of_same rfl rfl
  noted.trans (recomputeDemand_windowKept _)

theorem endIfOn_windowKept (cause : OverrideCause) (s : State) : WindowKept s (endIfOn cause s) := by
  have offset : WindowKept s (returnOffset s.panel (resetOverride cause 0 s)) :=
    ite_keeps (P := WindowKept s) (.of_same rfl rfl) (.of_same rfl rfl)
  have boost := ite_keeps (c := s.panel.boost = true) (P := WindowKept (returnOffset s.panel (resetOverride cause 0 s)))
    (airBoost_windowKept false _) (.refl _)
  have targeted := returnTarget_blind_frame s.panel (returnBoost s.panel (returnOffset s.panel (resetOverride cause 0 s)))
  have target : WindowKept _ (endOverride cause 0 s) := .of_same (congrArg Air.rateWindow targeted.air) (congrArg Air.pendingTrigger targeted.air)
  exact ite_keeps (P := WindowKept s) (offset.trans (boost.trans target))
    (ite_keeps (P := WindowKept s) (.of_same rfl rfl) (.refl s))

/-! ### The Air Controller's withdrawal (R123) -/

/-- The Air Controller has taken the assertion and judged the shortfall; its CLAIM is next. -/
theorem airAsserted_settles (s : State) :
    AirSettles (s.setAir { s.air with emergency := true, grant := 0, refreshTimer := none }) (judgeShortfall (airAsserted s)) :=
  (setCommand_settles 0 _).trans (judgeShortfall_settles _)

theorem airAsserted_claims (s : State) : (judgeShortfall (airAsserted s)).claims = s.claims := by
  have loader := (airAsserted_settles s).loader
  unfold State.claims State.isNormal
  rw [loader]
  rfl

theorem airAssertion_pending {window : Nat} (claims : s.claims = true) (opened : s.air.rateWindow = some window) :
    (airAssertion s).air.pendingTrigger = true := by
  have settles := airAsserted_settles s
  rw [airAssertion_eq, triggerClaim_of_open ((airAsserted_claims s).trans claims)]
  · rfl
  · rw [settles.rateWindow]
    show s.air.rateWindow ≠ none
    rw [opened]
    exact nofun

/-- Under a closed rate window the withdrawal is offered at once, and opens it. -/
theorem airAssertion_withdraws (claims : s.claims = true) (closed : s.air.rateWindow = none) :
    ∃ r : State, r.air.rateWindow = some (s.now + 2000) ∧ r.air.record = s.air.record ∧ r.bus = s.bus ∧ r.loader = s.loader ∧
      r.blind = s.blind ∧ airAssertion s = offer (s.claimFrame { demand := 0, minimum := 0, claimClass := 0 } true) r := by
  have settles := airAsserted_settles s
  have asserted : (judgeShortfall (airAsserted s)).air.emergency = true := settles.airEmergency
  refine ⟨(judgeShortfall (airAsserted s)).setAir { (judgeShortfall (airAsserted s)).air with rateWindow := some (s.now + 2000) },
    rfl, settles.record, settles.bus, settles.loader, settles.blind, ?_⟩
  rw [airAssertion_eq, triggerClaim_of_closed ((airAsserted_claims s).trans claims) (settles.rateWindow.trans closed),
    offerClaim_of_asserted asserted, offerWithdrawal_eq, settles.now]
  unfold State.claimFrame
  rw [settles.loader]
  rfl

/-! ### Beside the Air Controller -/

theorem takeAssertion_windowKept (k : Block) (s : State) : WindowKept s (takeAssertion k s) := by
  cases k with
  | air =>
    have noted : WindowKept s (s.setAir { s.air with emergency := true, grant := 0, refreshTimer := none }) := .of_same rfl rfl
    exact noted.trans ((airAsserted_settles s).windowKept.trans (triggerClaim_windowKept _))
  | blind =>
    have air := (blindAssertion_frame s).air
    exact .of_same (congrArg Air.rateWindow air) (congrArg Air.pendingTrigger air)
  | panel =>
    have noted : WindowKept s (s.setPanel { s.panel with emergency := true }) := .of_same rfl rfl
    exact noted.trans (endIfOn_windowKept .emergency _)
  | light | alert | clock | intake | session | counter | peers => exact .refl s

/-- Without a boost the Blind Controller's FEEDER START, at the end of override, is all that is offered beside the CLAIM. -/
theorem takeAssertion_apart {asked : Nat} {k : Block} (other : k ≠ .air) (idle : s.panel.boost = false) (few : s.askable ≤ asked) :
    Apart (if k = .panel then asked else 0) s (takeAssertion k s) ∧ (takeAssertion k s).panel.boost = false := by
  have quiet {t : State} (same : Apart 0 s t) (boost : t.panel.boost = false) :
      Apart (if k = .panel then asked else 0) s t ∧ t.panel.boost = false := ⟨same.weaken (Nat.zero_le _), boost⟩
  have stays : Apart 0 s s := .refl s
  cases k with
  | air => exact absurd rfl other
  | light => exact quiet ⟨.of_same rfl rfl rfl rfl, rfl, rfl⟩ idle
  | alert => exact quiet ⟨.of_same rfl rfl rfl rfl, rfl, rfl⟩ idle
  | blind =>
    have frame := blindAssertion_frame s
    exact quiet ⟨blindAssertion_feeds s, frame.air, frame.now⟩ ((congrArg Panel.boost frame.panel :).trans idle)
  | panel =>
    have ends := endIfOn_feeds (s := s.setPanel { s.panel with emergency := true }) .emergency idle
    have noted : Feeds 0 s (s.setPanel { s.panel with emergency := true }) := .of_same rfl rfl rfl rfl
    refine ⟨⟨(noted.trans ends).weaken (by rw [if_pos rfl, Nat.zero_add]; exact few),
      endIfOn_air (s := s.setPanel { s.panel with emergency := true }) .emergency idle, (panelAssertion_frame s).now⟩,
      endIfOn_boost (s := s.setPanel { s.panel with emergency := true }) .emergency idle⟩
  | clock | intake | session | counter | peers => exact quiet stays idle

theorem takeAssertion_kept (k : Block) (h : AlertsKept [.emergency, .damperFault, .shortfall] u s) :
    AlertsKept [.emergency, .damperFault, .shortfall] u (takeAssertion k s) := by
  have closed := alertsKept_closed [.emergency, .damperFault, .shortfall] u
  cases k with
  | alert => exact closed.raise .emergency (by decide) h
  | air => exact closed.airAssertion (by decide) (by decide) h
  | blind => exact closed.blindAssertion h
  | panel => exact closed.endIfOn (by decide) (by decide) _ (closed.panel _ h)
  | light => exact closed.light _ h
  | clock | intake | session | counter | peers => exact h

/-! ### The lights and the drives -/

theorem takeAssertion_light {k : Block} (other : k ≠ .light) (s : State) :
    ((takeAssertion k s).light.warning, (takeAssertion k s).light.groups) = (s.light.warning, s.light.groups) := by
  cases k with
  | light => exact absurd rfl other
  | air => exact congrArg (fun l : Light => (l.warning, l.groups)) (airAssertion_frame s).light
  | blind => exact (congrArg (fun l : Light => (l.warning, l.groups)) (blindAssertion_frame s).light :).trans rfl
  | panel =>
    obtain ⟨offset, hold, light⟩ := endIfOn_light .emergency (s.setPanel { s.panel with emergency := true })
    rw [takeAssertion, panelAssertion, withPanel, light]
    rfl
  | alert | clock | intake | session | counter | peers => rfl

/-- While the Blind Controller holds the line asserted, an end of override moves no drive (R148, R149). -/
theorem endIfOn_drives (cause : OverrideCause) (asserted : s.blind.emergency = true) : (endIfOn cause s).blind.drives = s.blind.drives := by
  have only := returnOffset_only s.panel (resetOverride cause 0 s)
  have boosted := returnBoost_air_frame s.panel (returnOffset s.panel (resetOverride cause 0 s))
  have blind : (returnBoost s.panel (returnOffset s.panel (resetOverride cause 0 s))).blind = s.blind := boosted.blind.trans only.blind
  have target {r : State} (same : r.blind = s.blind) : (returnTarget s.panel r).blind.drives = s.blind.drives := by
    refine ite_keeps (P := fun u => u.blind.drives = s.blind.drives) ?_ (congrArg Blind.drives same)
    rw [blindTarget, policyEvent_of_asserted (by rw [withBlind, same]; exact asserted), withBlind, same]
    rfl
  exact ite_keeps (P := fun u => u.blind.drives = s.blind.drives) (target blind)
    (ite_keeps (P := fun u => u.blind.drives = s.blind.drives) rfl rfl)

/-- The Blind Controller holds the line asserted, and no drive has a run. -/
def NoRuns (s : State) : Prop := s.blind.emergency = true ∧ ∀ d ∈ s.blind.drives, d.run = none

theorem blindAssertion_noRuns (s : State) : NoRuns (blindAssertion s) := by
  have cut := cutRunning_stopped (withBlind ({ · with emergency := true }) s)
  obtain ⟨-, drives⟩ := dropHand_blind
    (forEach ((withBlind ({ · with emergency := true }) s).blind.inState .running) cutShort (withBlind ({ · with emergency := true }) s))
  refine ⟨(blindAssertion_frame s).blindEmergency, fun d mem => ?_⟩
  obtain ⟨d', held, rfl⟩ := List.mem_map.1 (show d ∈ List.map _ (dropHand _).blind.drives from mem)
  rw [drives] at held
  rw [if_neg (by simpa using cut d' held)]
  rfl

theorem takeAssertion_noRuns (k : Block) (h : NoRuns s) : NoRuns (takeAssertion k s) := by
  cases k with
  | blind => exact blindAssertion_noRuns s
  | air =>
    have blind := (airAssertion_frame s).blind
    exact ⟨(congrArg Blind.emergency blind :).trans h.1, fun d mem => h.2 d (by rw [takeAssertion, blind] at mem; exact mem)⟩
  | panel =>
    have frame := (panelAssertion_frame s).blindEmergency
    have drives := endIfOn_drives (s := s.setPanel { s.panel with emergency := true }) .emergency h.1
    exact ⟨frame.trans h.1, fun d mem => h.2 d (drives ▸ mem)⟩
  | light | alert | clock | intake | session | counter | peers => exact h

theorem assertions_noRuns (s : State) : NoRuns (fanOut lineBlocks takeAssertion s) :=
  fanOut_brings NoRuns _ .blind blindAssertion_noRuns (fun k _ => takeAssertion_noRuns k) _ s (by decide)

theorem assertions_light (s : State) :
    ((fanOut lineBlocks takeAssertion s).light.warning, (fanOut lineBlocks takeAssertion s).light.groups) =
      (none, s.light.groups.map Group.stopFade) :=
  fanOut_once (Q := fun _ => True) (part := fun s => (s.light.warning, s.light.groups))
    (change := fun held => (none, held.2.map Group.stopFade)) .light (fun _ _ => id) (fun _ _ => rfl)
    (fun _ s other _ => takeAssertion_light other s) (by decide) (by decide) trivial

/-! ### The CLAIM of the whole event -/

theorem assertions_pending {window : Nat} (claims : s.claims = true) (opened : s.air.rateWindow = some window) :
    (fanOut lineBlocks takeAssertion s).air.pendingTrigger = true ∧
      (fanOut lineBlocks takeAssertion s).air.rateWindow = some window := by
  have kept : ∀ k t, (t.claims = true ∧ t.air.rateWindow = some window) →
      (takeAssertion k t).claims = true ∧ (takeAssertion k t).air.rateWindow = some window := fun k t held => by
    refine ⟨Eq.trans ?_ held.1, (takeAssertion_windowKept k t window held.2).1⟩
    unfold State.claims State.isNormal
    rw [(takeAssertion_frame k t).loader]
  have pending := fanOut_brings_under (P := fun t => t.air.pendingTrigger = true) .air kept
    (fun t held => airAssertion_pending held.1 held.2) (fun k t _ held => (takeAssertion_windowKept k t window held.2).2)
    (show .air ∈ lineBlocks by decide) ⟨claims, opened⟩
  exact ⟨pending, (fanOut_keeps _ _ kept lineBlocks s ⟨claims, opened⟩).2⟩

/-- Under a closed rate window, and without a boost, the withdrawal opens the window and waits in a queue with room. -/
theorem assertions_withdraw (claims : s.claims = true) (closed : s.air.rateWindow = none) (idle : s.panel.boost = false) :
    (fanOut lineBlocks takeAssertion s).air.rateWindow = some (s.now + 2000) ∧
      (fanOut lineBlocks takeAssertion s).air.record = s.air.record ∧
      (Spare s.askable s → s.takesOffer .claim = true → s.bus.queue.countP (·.kind == .claim) ≤ 1 →
        (∃ f ∈ (fanOut lineBlocks takeAssertion s).bus.queue, f.kind = .claim) ∧
          ∀ f ∈ (fanOut lineBlocks takeAssertion s).bus.queue, f.kind = .claim → s.withdraws f) := by
  obtain ⟨u, k, m, first, last, sum⟩ := fanOut_apart (Q := fun t => t.panel.boost = false) (act := takeAssertion)
    (cost := fun b => if b = .panel then s.askable else 0) (asked := s.askable) (blocks := lineBlocks) (by decide) (by decide) rfl
    (fun b _ other t => takeAssertion_apart other)
    (fun t => ⟨(airAssertion_bids t).askable, fun held => (congrArg Panel.boost (airAssertion_frame t).panel :).trans held⟩) s idle
    (Nat.le_refl _)
  have total : k + m = s.askable := sum.trans (by simp [lineBlocks])
  have claimsThere : u.claims = true := by
    unfold State.claims State.isNormal
    rw [first.loader]
    exact claims
  obtain ⟨r, window, record, bus, loader, blind, offered⟩ := airAssertion_withdraws claimsThere (first.air ▸ closed)
  have sent : (airAssertion u).air = r.air := offered ▸ (offer_frame _ r).air
  refine ⟨?_, ?_, fun spare taken single => ?_⟩
  · rw [last.air, takeAssertion, sent, window, first.now]
  · rw [last.air, takeAssertion, sent, record, first.air]
  rw [takeAssertion, offered] at last
  obtain ⟨waits, bodies⟩ := first.toFeeds.claim_waits last.toFeeds bus loader blind rfl (total ▸ spare) taken single
  refine ⟨waits, fun g mem own => (bodies g mem own).trans ?_⟩
  unfold State.claimFrame
  rw [first.loader]
  rfl

end Assertion

/-- The room that the queue needs for the FEEDER ENDs owed, a FEEDER START and a CLAIM. -/
theorem spare_of_length {s : State} (busy : s.bus.line = .busy)
    (short : s.bus.queue.length + 2 * s.blind.drives.length + 1 ≤ 9) : Spare s.askable s := by
  refine ⟨busy, ?_⟩
  have owed := length_owed_le s
  have claim : s.bus.claimRoom ≤ 1 := by
    unfold BusPort.claimRoom
    split <;> decide
  unfold State.askable
  omega

/-- The debounce of a level that differs expires, and in a started station the event reaches its blocks (R175). -/
theorem debounce_sends {s : State} {due : Nat} (up : s.started = true) (runs : s.alert.debounce = some due)
    (differs : s.lines.emergency ≠ s.alert.emergency) :
    exec .debounceTimerExpiry s = .next (fanOut lineBlocks (if s.lines.emergency then takeAssertion else takeRelease)
      ((s.setNow (max s.now due)).setAlert { s.alert with debounce := none, emergency := s.lines.emergency })) := by
  have blocks : (s.setNow (max s.now due)).emergencyBlocks = lineBlocks := if_pos up
  have powered : s.powered = true := by
    unfold State.started at up
    unfold State.powered
    split at up <;> simp_all
  rw [exec_eq_effectOf, effectOf_debounceTimerExpiry, if_pos powered, runs, onExpiry_some, settleEmergency_of_differs (by exact differs),
    blocks]
  rfl

/-- Settles O54: every block binds its part of the room, in whatever order, and the Air Controller's withdrawal joins or takes the place
of the CLAIM that waits. -/
theorem assertionsBindTheRoom : Obligations.AssertionsBindTheRoom := by
  rintro s due n up runs rfl line released
  let a := (s.setNow (max s.now due)).setAlert { s.alert with debounce := none, emergency := true }
  have lined : Lined true a := ⟨up, rfl⟩
  obtain ⟨b, held⟩ := assertions_held lined
  have minded := held.1
  have bound := held.2
  obtain ⟨bodies, damper, motors, -, -⟩ := outputsFollowTheFirstRow.2 _ held.law minded.up minded.asserted
  have light := assertions_light a
  obtain ⟨warning, groups⟩ := Prod.mk.injEq .. ▸ light
  refine ⟨fanOut lineBlocks takeAssertion a, ?_, ?_, minded.raised, ?_, minded.air, bound.grant, bound.command, bound.refresh,
    minded.light, warning, ?_, ?_, bodies, damper, minded.blind, bound.blind.2.1, bound.blind.2.2.1,
    fun d mem => ⟨bound.blind.2.2.2 d mem, (assertions_noRuns a).2 d mem⟩, motors, minded.panel, bound.panel, fun trunk normal => ?_⟩
  · refine (debounce_sends up runs fun same => nomatch line.symm.trans (same.trans released)).trans ?_
    rw [line]
    rfl
  · exact fanOut_rel EmergencyFrame .refl .trans _ takeAssertion_frame _ _
  · exact fanOut_keeps _ _ (fun k _ => takeAssertion_kept k) _ a (AlertsKept.refl _ _)
  · rw [groups]
    intro g mem
    obtain ⟨g', -, rfl⟩ := List.mem_map.1 mem
    rfl
  · rw [groups, List.map_map]
    exact List.map_congr_left fun g _ => rfl
  · have claims : a.claims = true := (claims_iff a).2 ⟨trunk, normal⟩
    refine ⟨fun window opened => assertions_pending (s := a) claims opened, fun closed idle => ?_⟩
    obtain ⟨window, record, withdraws⟩ := assertions_withdraw (s := a) claims closed idle
    exact ⟨window, record, fun law busy addressed short =>
      withdraws (spare_of_length busy short) (takesOffer_of_normal (Option.isSome_iff_ne_none.2 addressed) normal .claim) law.claims⟩

end Sys2Proof.Machine
end

section
/-!
PROOFS. A release of the emergency line on the whole of the station: the grant, the lights and the target are taken anew, and the CLAIM is
offered (R124, R125, R138, R162, R173, R175).
-/

namespace Sys2Proof.Machine

section Release

variable {s t u : State} {n : Nat}

/-! ### The Air Controller's part (R124, R125) -/

/-- The grant recomputed and the shortfall judged, with the line released. -/
theorem judgedRegrant_air (released : s.air.emergency = false) (normal : s.isNormal = true) :
    (judgeShortfall (regrant s)).air.grant = s.grantNow ∧
      (judgeShortfall (regrant s)).air.command = commandFor s.loader.settings s.grantNow ∧
      (judgeShortfall (regrant s)).air.shortfall = (judgeShortfall (regrant s)).air.shortNow := by
  obtain ⟨fault, granted⟩ := setGrant_air s.grantNow s
  obtain ⟨timer, record, judged⟩ := judgeShortfall_air (regrant s)
  rw [judged, regrant_of_released released normal, granted]
  exact ⟨rfl, rfl, rfl⟩

theorem judgedRegrant_settles (s : State) : AirSettles s (judgeShortfall (regrant s)) := (regrant_settles s).trans (judgeShortfall_settles _)

/-- The figures, the grant, the command and the shortfall state are no concern of a CLAIM. -/
theorem AirClaims.grants (h : AirClaims s t) :
    t.air.grant = s.air.grant ∧ t.air.command = s.air.command ∧ t.air.shortfall = s.air.shortfall ∧ t.air.shortNow = s.air.shortNow := by
  rw [h.air]
  exact ⟨rfl, rfl, rfl, rfl⟩

/-- The Air Controller has taken the release; its grant and its CLAIM are next. -/
def airReleased (s : State) : State := s.setAir { s.air with emergency := false }

theorem airReleased_settles (s : State) : AirSettles (airReleased s) (judgeShortfall (regrant (airReleased s))) := judgedRegrant_settles _

theorem airRelease_of_normal_eq (normal : s.isNormal = true) :
    airRelease s = triggerClaim (judgeShortfall (regrant (airReleased s))) := airRelease_of_normal normal

theorem airRelease_grants (normal : s.isNormal = true) :
    (airRelease s).air.grant = s.grantNow ∧ (airRelease s).air.command = commandFor s.loader.settings s.grantNow ∧
      (airRelease s).air.shortfall = (airRelease s).air.shortNow := by
  obtain ⟨grant, command, short⟩ := judgedRegrant_air (s := airReleased s) rfl normal
  rw [airRelease_of_normal_eq normal]
  obtain ⟨grant', command', short', same⟩ := (triggerClaim_claims (judgeShortfall (regrant (airReleased s)))).grants
  exact ⟨grant'.trans grant, command'.trans command, short'.trans (short.trans same.symm)⟩

theorem airRelease_command (other : s.isNormal = false) : (airRelease s).air.command = 500 := by
  obtain ⟨timer, air⟩ := setCommand_air 500 (s.setAir { s.air with emergency := false })
  rw [airRelease_of_fallback other, air]

theorem airRelease_figures (s : State) : (airRelease s).air.figures = s.air.figures := by
  cases normal : s.isNormal with
  | true =>
    rw [airRelease_of_normal_eq normal]
    exact (triggerClaim_claims _).figures.trans (airReleased_settles s).figures
  | false =>
    rw [airRelease_of_fallback normal]
    exact (setCommand_settles 500 _).figures

theorem airReleased_claims (s : State) : (judgeShortfall (regrant (airReleased s))).claims = s.claims := by
  unfold State.claims State.isNormal
  rw [(airReleased_settles s).loader]
  rfl

/-- Under an open rate window the trigger is pending (R114). -/
theorem airRelease_pending (claims : s.claims = true) (opened : s.air.rateWindow ≠ none) :
    (airRelease s).air.pendingTrigger = true ∧ (airRelease s).air.rateWindow = s.air.rateWindow ∧
      (airRelease s).air.record = s.air.record ∧ (airRelease s).air.refreshTimer = s.air.refreshTimer := by
  have settles := airReleased_settles s
  rw [airRelease_of_normal_eq ((claims_iff s).1 claims).2, triggerClaim_of_open ((airReleased_claims s).trans claims)
    (by rw [settles.rateWindow]; exact opened)]
  exact ⟨rfl, settles.rateWindow, settles.record, by rw [State.setAir_air, settles.air]; rfl⟩

/-- Under a closed one the CLAIM with the current figures is offered at once, and opens it. -/
theorem airRelease_offers (claims : s.claims = true) (closed : s.air.rateWindow = none) :
    ∃ r : State, r.air.pendingTrigger = s.air.pendingTrigger ∧ r.air.rateWindow = some (s.now + 2000) ∧
      r.air.record = some s.air.figures ∧ r.air.refreshTimer = some (s.now + 30000) ∧ r.bus = s.bus ∧ r.loader = s.loader ∧
      r.blind = s.blind ∧ airRelease s = offer (s.claimFrame s.air.figures false) r := by
  have settles := airReleased_settles s
  have released : (judgeShortfall (regrant (airReleased s))).air.emergency = false := settles.airEmergency
  have figures : (judgeShortfall (regrant (airReleased s))).air.figures = s.air.figures := settles.figures
  have loader : (judgeShortfall (regrant (airReleased s))).loader = s.loader := settles.loader
  have now : (judgeShortfall (regrant (airReleased s))).now = s.now := settles.now
  refine ⟨(judgeShortfall (regrant (airReleased s))).setAir { (judgeShortfall (regrant (airReleased s))).air with
    record := some s.air.figures, rateWindow := some (s.now + 2000), refreshTimer := some (s.now + 30000) },
    by rw [State.setAir_air, settles.air]; rfl, rfl, rfl, rfl, settles.bus, loader, settles.blind, ?_⟩
  rw [airRelease_of_normal_eq ((claims_iff s).1 claims).2, triggerClaim_of_closed ((airReleased_claims s).trans claims)
    (settles.rateWindow.trans closed), offerClaim_of_released released, offerFigures_eq, figures, now]
  unfold State.claimFrame
  rw [loader]

/-! ### Beside the Air Controller -/

/-- Beside the CLAIM, the Blind Controller's FEEDER START is all that is offered. -/
theorem takeRelease_apart {asked : Nat} {k : Block} (other : k ≠ .air) (few : s.askable ≤ asked) :
    Apart (if k = .blind then asked else 0) s (takeRelease k s) := by
  have quiet {t : State} (same : Apart 0 s t) : Apart (if k = .blind then asked else 0) s t := same.weaken (Nat.zero_le _)
  cases k with
  | air => exact absurd rfl other
  | light | panel | alert => exact quiet ⟨.of_same rfl rfl rfl rfl, rfl, rfl⟩
  | blind =>
    have frame := blindRelease_frame s
    exact ⟨(blindRelease_once s).feeds.weaken few, frame.air, frame.now⟩
  | clock | intake | session | counter | peers => exact quiet (.refl s)

/-- The release in the whole of the station, seen from the Air Controller. -/
theorem releases_apart (s : State) : ∃ u k m, Apart k s u ∧ Apart m (airRelease u) (fanOut lineBlocks takeRelease s) ∧
    k + m = s.askable ∧ (fanOut lineBlocks takeRelease s).air = (airRelease u).air := by
  obtain ⟨u, k, m, first, last, sum⟩ := fanOut_apart (Q := fun _ => True) (act := takeRelease)
    (cost := fun b => if b = .blind then s.askable else 0) (asked := s.askable) (blocks := lineBlocks) (by decide) (by decide) rfl
    (fun b _ other t _ few => ⟨takeRelease_apart other few, trivial⟩) (fun t => ⟨(airRelease_bids t).askable, id⟩) s trivial
    (Nat.le_refl _)
  exact ⟨u, k, m, first, last, sum.trans (by simp [lineBlocks]), last.air⟩

theorem takeRelease_kept (k : Block) (h : AlertsKept [.emergency, .damperFault, .shortfall] u s) :
    AlertsKept [.emergency, .damperFault, .shortfall] u (takeRelease k s) := by
  have closed := alertsKept_closed [.emergency, .damperFault, .shortfall] u
  cases k with
  | alert => exact closed.clear .emergency (by decide) h
  | air => exact closed.airRelease (by decide) (by decide) h
  | blind => exact closed.blindRelease h
  | panel => exact closed.panel _ h
  | light => exact closed.light _ h
  | clock | intake | session | counter | peers => exact h

/-- The grant is the one the view gives, and the damper command follows it (R118, R119). -/
def ViewGranted (s : State) : Prop := s.air.grant = s.grantNow ∧ s.air.command = commandFor s.loader.settings s.air.grant

theorem airRelease_viewGranted (normal : s.isNormal = true) : ViewGranted (airRelease s) := by
  obtain ⟨grant, command, -⟩ := airRelease_grants normal
  have frame := airRelease_frame s
  have same : (airRelease s).grantNow = s.grantNow :=
    grantNow_of_same frame.loader (congrArg PeerTable.claims frame.peers) (airRelease_figures s)
  exact ⟨grant.trans same.symm, by rw [command, grant, show (airRelease s).loader = s.loader from frame.loader]⟩

theorem takeRelease_viewGranted {k : Block} (other : k ≠ .air) (granted : ViewGranted s) : ViewGranted (takeRelease k s) := by
  have frame := takeRelease_frame k s
  have air : (takeRelease k s).air = s.air := (takeRelease_apart other (Nat.le_refl _)).air
  have same : (takeRelease k s).grantNow = s.grantNow :=
    grantNow_of_same frame.loader (congrArg PeerTable.claims frame.peers) (by rw [air])
  exact ⟨by rw [air, same, granted.1], by rw [air, frame.loader, granted.2]⟩

theorem releases_viewGranted (normal : s.isNormal = true) : ViewGranted (fanOut lineBlocks takeRelease s) :=
  fanOut_brings_under (Q := fun t => t.isNormal = true) (P := ViewGranted) (act := takeRelease) .air
    (fun k t held => by
      unfold State.isNormal at held ⊢
      rw [(takeRelease_frame k t).loader]
      exact held)
    (fun _ => airRelease_viewGranted) (fun _ _ other _ => takeRelease_viewGranted other) (by decide) normal

/-! ### The lights, the target and the override -/

/-- The lights after a release: each group that is not hand-select fades from 1000 to the scene as derived now (R138). -/
def Light.freed (now : Nat) (l : Light) : Light := { l with
  emergency := false, scene := sceneOf l.regime l.mode l.vacant
  groups := l.groups.map fun g => if g.handSelect then g else
    { g with level := 1000, target := (sceneOf l.regime l.mode l.vacant).innerLevel, fade := some (now + 5) } }

theorem innerLevel_ne_full (scene : Scene) : 1000 ≠ scene.innerLevel := by cases scene <;> decide

theorem lightRelease_light (s : State) : (lightRelease s).light = s.light.freed s.now := by
  have groups : (lightRelease s).light.groups = (s.light.freed s.now).groups := by
    refine (List.map_map (l := s.light.groups) ..).trans (List.map_congr_left fun g _ => ?_)
    cases hand : g.handSelect with
    | true => simp [hand]
    | false =>
      simp only [Function.comp_apply, hand, Bool.false_eq_true, if_false]
      rw [Group.fadeTo, if_neg (innerLevel_ne_full _)]
  exact (show (lightRelease s).light = { s.light.freed s.now with groups := (lightRelease s).light.groups } from rfl).trans
    (by rw [groups])

theorem releases_light (s : State) :
    { (fanOut lineBlocks takeRelease s).light with hold := .off } = ({ s.light with hold := .off } : Light).freed s.now :=
  fanOut_once (Q := fun t => t.now = s.now) (part := fun s => { s.light with hold := .off }) (change := Light.freed s.now) .light
    (fun k t same => (takeRelease_frame k t).now.trans same)
    (fun t same => by
      show { (lightRelease t).light with hold := .off } = ({ t.light with hold := .off } : Light).freed s.now
      rw [lightRelease_light, same]
      rfl)
    (fun k t other _ => by
      cases k with
      | light => exact absurd rfl other
      | air => exact congrArg (fun l : Light => { l with hold := .off }) (airRelease_frame t).light
      | blind => exact (congrArg (fun l : Light => { l with hold := .off }) (blindRelease_frame t).light :).trans rfl
      | panel | alert | clock | intake | session | counter | peers => rfl)
    (by decide) (by decide) rfl

/-- The policy after a release: the wanted target is applied, with a new dwell (R149, R162). -/
def Blind.freed (park now : Nat) (b : Blind) : Blind := { b with
  emergency := false, wanted := b.wantedNow park, applied := b.wantedNow park, latched := false, dwellTimer := some (now + 600000) }

theorem releases_policy (s : State) : (fanOut lineBlocks takeRelease s).blind.policy =
    s.blind.policy.freed s.loader.settings.park s.now :=
  fanOut_once (Q := fun t => t.now = s.now ∧ t.loader = s.loader) (part := fun s => s.blind.policy)
    (change := Blind.freed s.loader.settings.park s.now) .blind
    (fun k t same => ⟨(takeRelease_frame k t).now.trans same.1, (takeRelease_frame k t).loader.trans same.2⟩)
    (fun t same => by
      rw [← same.1, ← same.2]
      exact takeTargets_policy ((withBlind ({ · with emergency := false }) t).applying
        (withBlind ({ · with emergency := false }) t).wanted))
    (fun k t other _ => by
      cases k with
      | blind => exact absurd rfl other
      | air => exact congrArg Blind.policy (airRelease_frame t).blind
      | light | panel | alert | clock | intake | session | counter | peers => rfl)
    (by decide) (by decide) ⟨rfl, rfl⟩

theorem releases_panel (s : State) : (fanOut lineBlocks takeRelease s).panel = { s.panel with emergency := false } :=
  fanOut_once (Q := fun _ => True) (part := fun s => s.panel) (change := fun p => { p with emergency := false }) .panel
    (fun _ _ => id) (fun _ _ => rfl)
    (fun k t other _ => by
      cases k with
      | panel => exact absurd rfl other
      | air => exact (airRelease_frame t).panel
      | blind => exact (blindRelease_frame t).panel
      | light | alert | clock | intake | session | counter | peers => rfl)
    (by decide) (by decide) trivial

end Release

/-- Settles O55: every block frees its part of the room, in whatever order, and the Air Controller's CLAIM joins or takes the place of the
one that waits. -/
theorem releasesFreeTheRoom : Obligations.ReleasesFreeTheRoom := by
  rintro s due n scene up runs rfl line asserted rfl
  let a := (s.setNow (max s.now due)).setAlert { s.alert with debounce := none, emergency := false }
  have minded := releases_minded (s := a) ⟨up, rfl⟩
  have frame : EmergencyFrame a (fanOut lineBlocks takeRelease a) := fanOut_rel EmergencyFrame .refl .trans _ takeRelease_frame _ _
  obtain ⟨u, k, m, first, last, total, air⟩ := releases_apart a
  have normalThere : u.isNormal = s.isNormal := by
    unfold State.isNormal
    rw [first.loader]
    rfl
  have light := releases_light a
  have policy := releases_policy a
  have figures : (fanOut lineBlocks takeRelease a).air.figures = s.air.figures := by
    rw [air, airRelease_figures, first.air]
    rfl
  refine ⟨fanOut lineBlocks takeRelease a, ?_, frame, minded.raised, ?_, minded.air, fun normal => ?_, fun other => ?_, minded.light,
    (congrArg Light.scene light :), (congrArg Light.warning light :), (congrArg Light.groups light :), minded.blind,
    (congrArg Blind.wanted policy :), ?_, (congrArg Blind.latched policy :), (congrArg Blind.dwellTimer policy :), releases_panel a,
    fun normal => ?_, figures, fun trunk normal => ?_⟩
  · refine (debounce_sends up runs fun same => nomatch line.symm.trans (same.trans asserted)).trans ?_
    rw [line]
    rfl
  · exact fanOut_keeps _ _ (fun k _ => takeRelease_kept k) _ a (AlertsKept.refl _ _)
  · exact releases_viewGranted (s := a) normal
  · rw [air]
    exact airRelease_command (normalThere.trans other)
  · exact (congrArg Blind.applied policy :).trans (congrArg Blind.wanted policy :).symm
  · rw [air]
    exact (airRelease_grants (normalThere.trans normal)).2.2
  · have claims : u.claims = true := (claims_iff u).2 ⟨by rw [first.loader]; exact trunk, normalThere.trans normal⟩
    refine ⟨fun window opened => ?_, fun closed => ?_⟩
    · obtain ⟨pending, window', record, refresh⟩ := airRelease_pending claims (by rw [first.air]; exact opened ▸ nofun)
      rw [air, record, refresh, window', first.air]
      exact ⟨pending, opened, rfl, rfl⟩
    · obtain ⟨r, pending, window, record, refresh, bus, loader, blind, offered⟩ := airRelease_offers claims (by rw [first.air]; exact closed)
      have sent : (airRelease u).air = r.air := offered ▸ (offer_frame _ r).air
      rw [offered] at last
      rw [air, sent, pending, window, record, refresh, first.air, first.now]
      refine ⟨rfl, rfl, rfl, rfl, fun law busy addressed short => ?_⟩
      obtain ⟨waits, bodies⟩ := first.toFeeds.claim_waits last.toFeeds bus loader blind rfl
        (by rw [total]; exact spare_of_length (s := a) busy short)
        (takesOffer_of_normal (s := a) (Option.isSome_iff_ne_none.2 addressed) normal .claim) law.claims
      refine ⟨waits, fun g mem own => (bodies g mem own).trans ?_⟩
      unfold State.claimFrame
      rw [first.loader, first.air]
      rfl

end Sys2Proof.Machine
end

section
/-!
PROOFS. The course of each drive through the stage, the feeder and the taking of a target (R151 to R157), and what it leaves of the drive.
-/

namespace Sys2Proof.Machine

section Walk

variable {s t u : State} {numbers : List Nat}

/-! ### The end of an event, act by act -/

/-- A drive waits for a slot, for the feeder or for its settle window. -/
def Drive.Waits (d : Drive) : Prop := d.state ≠ .stopped ∧ d.state ≠ .running

/-- A drive that waits goes on waiting, each in its place. -/
def WaitsOn (s t : State) : Prop := List.Forall₂ (fun d e : Drive => d.Waits → e.Waits) s.blind.drives t.blind.drives

theorem WaitsOn.of_same (h : t.blind.drives = s.blind.drives) : WaitsOn s t := by
  unfold WaitsOn
  rw [h]
  exact List.forall₂_same.2 fun _ _ => id

theorem WaitsOn.trans (h : WaitsOn s t) (k : WaitsOn t u) : WaitsOn s u := forall₂_trans (fun first later => later ∘ first) h k

theorem WaitsOn.map {f : Drive → Drive} (h : t.blind.drives = s.blind.drives.map f) (each : ∀ d : Drive, d.Waits → (f d).Waits) :
    WaitsOn s t := by
  unfold WaitsOn
  rw [h]
  exact List.forall₂_map_right_iff.2 (List.forall₂_same.2 fun d _ => each d)

theorem pick?_forall₂ {α : Type} {R : α → α → Prop} {xs ys : List α} (h : List.Forall₂ R xs ys) {n : Nat} {y : α}
    (held : pick? ys n = some y) : ∃ x, pick? xs n = some x ∧ R x y := by
  obtain ⟨positive, inside⟩ := pick?_eq_some_iff.1 held
  obtain ⟨within, rfl⟩ := List.getElem?_eq_some_iff.1 inside
  have long : n - 1 < xs.length := h.length_eq ▸ within
  exact ⟨xs[n - 1], pick?_eq_some_iff.2 ⟨positive, List.getElem?_eq_getElem long⟩, h.get long within⟩

theorem WaitsOn.allOf (h : WaitsOn s t) (waits : s.blind.AllOf numbers Drive.Waits) : t.blind.AllOf numbers Drive.Waits :=
  fun n mem _ picked =>
    have ⟨d, fitted, kept⟩ := pick?_forall₂ h picked
    kept (waits n mem d fitted)

theorem moved_waits {group : Nat} {before after : DriveState} (last : after ≠ .stopped ∧ after ≠ .running)
    (h : t.blind.drives = moved group before after s.blind.drives) : WaitsOn s t :=
  .map h fun d waits => by
    split
    · exact last
    · exact waits

theorem planGroup_waits (group : Nat) (s : State) : WaitsOn s (planGroup group s) := by
  rw [planGroup_eq]
  refine .map rfl fun d waits => ?_
  split <;> exact waits

theorem askFeeder_waits (group : Nat) (numbers : List Nat) (s : State) : WaitsOn s (askFeeder group numbers s).1 := by
  have sent : WaitsOn s (offer (s.feederStart numbers) s) := .of_same (congrArg Blind.drives (offer_frame _ s).blind)
  have asked : WaitsOn s (awaitReport group numbers.length (offer (s.feederStart numbers) s)) := by
    rw [awaitReport_eq]
    exact sent.trans (moved_waits (after := .settling) (by decide) rfl)
  rw [askFeeder_eq]
  refine ite_keeps (P := WaitsOn s) asked ?_
  rw [backOff_eq]
  exact asked.trans (moved_waits (after := .waitFeeder) (by decide) rfl)

/-- A feeder check is a plan, and then a START where no start is in hand (R156). -/
theorem feederCheck_elim {P : State → Prop} {group : Nat} (plan : P (planGroup group s))
    (ask : (planGroup group s).blind.hand = .nothing → ∀ numbers, P (askFeeder group numbers (planGroup group s)).1) :
    P (feederCheck group s).1 := by
  unfold feederCheck
  dsimp only
  split
  next => exact plan
  next free =>
    split
    next => exact plan
    next => exact ask (not_not.1 (not_or.1 free).2) _

theorem feederCheck_waits (group : Nat) (s : State) : WaitsOn s (feederCheck group s).1 :=
  feederCheck_elim (planGroup_waits group s) fun _ numbers => (planGroup_waits group s).trans (askFeeder_waits group numbers _)

theorem formGroup_waits (numbers : List Nat) (s : State) {others : List Nat} (waits : s.blind.AllOf others Drive.Waits) :
    (formGroup numbers s).blind.AllOf others Drive.Waits := by
  unfold formGroup withBlind
  exact Blind.foldl_mapDrive_keeps (fun _ _ => ⟨nofun, nofun⟩) waits

/-- The runs of a group that forms are planned, and it waits for the feeder. -/
def Blind.Ready (b : Blind) (numbers : List Nat) : Prop := b.AllOf numbers fun d => d.state = .waitFeeder ∧ d.run = d.plan b.applied

theorem formGroup_ready (numbers : List Nat) (s : State) : (formGroup numbers s).blind.Ready numbers := by
  have applied : (formGroup numbers s).blind.applied = s.blind.applied := (congrArg Blind.applied (formGroup_policy numbers s) :)
  unfold Blind.Ready
  rw [applied]
  exact Blind.foldl_mapDrive_brings (fun _ => ⟨rfl, rfl⟩) numbers s.blind

section Rel

variable {R : State → State → Prop} (refl : ∀ s, R s s) (trans : ∀ {s t u}, R s t → R t u → R s u)
  (form : ∀ numbers s, s.blind.AllOf numbers Drive.Waits → R s (formGroup numbers s))
  (run : ∀ numbers s, s.loader.settings.facade = 0 → s.blind.Ready numbers → R s (enterRunning numbers s))
  (check : ∀ group s, R s (feederCheck group s).1)

include trans form run check in
theorem launchGroup_rel (waits : s.blind.AllOf numbers Drive.Waits) : R s (launchGroup numbers s).1 := by
  have formed := form numbers s waits
  unfold launchGroup
  dsimp only
  by_cases indoor : s.loader.settings.facade = 0
  · rw [if_pos (by exact indoor)]
    exact trans formed (run numbers _ indoor (formGroup_ready numbers s))
  · rw [if_neg (by exact indoor)]
    exact trans formed (check _ _)

include refl trans form check in
/-- On a façade several groups may form at one event; none of them runs. -/
theorem launchGroups_rel : ∀ (groups : List (List Nat)) (s : State), s.loader.settings.facade ≠ 0 →
    s.blind.AllOf groups.flatten Drive.Waits → R s (eachAnswered launchGroup groups s).1
  | [], s, _, _ => refl s
  | numbers :: rest, s, outdoor, waits => by
    have own : s.blind.AllOf numbers Drive.Waits := fun n mem => waits n (List.mem_append_left _ mem)
    have others : s.blind.AllOf rest.flatten Drive.Waits := fun n mem => waits n (List.mem_append_right _ mem)
    have launched : (launchGroup numbers s).1 = (feederCheck s.blind.nextGroup (formGroup numbers s)).1 := by
      unfold launchGroup
      dsimp only
      rw [if_neg (by exact outdoor)]
    refine trans ?_ (launchGroups_rel rest (launchGroup numbers s).1 ?_ ?_) <;> rw [launched]
    · exact trans (form numbers s own) (check _ _)
    · rw [show (feederCheck _ (formGroup numbers s)).1.loader = (formGroup numbers s).loader from (feederCheck_frame _ _).loader]
      exact outdoor
    · exact (feederCheck_waits _ _).allOf (formGroup_waits numbers s others)

include refl trans form run check in
theorem grantSlots_rel (s : State) : R s (grantSlots s).1 := by
  have waits : s.blind.AllOf (formations s.loader.settings ((s.blind.inState .waitStage).take s.blind.freeSlots)).flatten Drive.Waits := by
    intro n mem d picked
    obtain ⟨e, fitted, waits⟩ := mem_numbersOf.1 (List.mem_of_mem_take (mem_formations mem))
    obtain rfl := Option.some_inj.1 (fitted.symm.trans picked)
    rw [beq_iff_eq] at waits
    exact ⟨fun stopped => (nomatch waits.symm.trans stopped), fun runs => nomatch waits.symm.trans runs⟩
  unfold grantSlots
  by_cases indoor : s.loader.settings.facade = 0
  · unfold formations at waits ⊢
    rw [if_neg (fun both => both.2 indoor)] at waits ⊢
    split
    · exact refl s
    next some_drive =>
      rw [if_neg some_drive, List.flatten_singleton] at waits
      exact launchGroup_rel trans form run check waits
  · exact launchGroups_rel refl trans form check _ s indoor waits

include refl trans form run check in
/-- What the grants and the feeder checks of an event bring, act by act, the end of the event brings. -/
theorem settleStage_rel : ∀ (rounds : Nat) (recheck : Bool) (s : State), R s (settleStage rounds recheck s)
  | 0, _, s => refl s
  | n + 1, recheck, s => by
    have granted := grantSlots_rel refl trans form run check s
    have checked : R s (if recheck then recheckGroups (grantSlots s).1 else ((grantSlots s).1, false)).1 := by
      split
      · exact trans granted (eachAnswered_rel R refl trans feederCheck check _ _)
      · exact granted
    unfold settleStage
    dsimp only
    split
    next => exact refl s
    next => exact ite_keeps (P := R s) (trans checked (settleStage_rel n true _)) checked

end Rel

end Walk

end Sys2Proof.Machine
end

section
/-!
PROOFS. Each drive's steps while the stage is settled and a target is taken (R151 to R157), and what they leave of it: whether it is in
service, where it stands, and that it waits or runs exactly where it needs a run.
-/

namespace Sys2Proof.Machine

/-- One step of a drive toward a target, at one moment; indoors, without a façade, the stage starts motors itself. -/
inductive Drive.Step (target now : Nat) (indoor : Prop) : Drive → Drive → Prop where
  | plan {d : Drive} : d.state = .waitFeeder → Step target now indoor d { d with run := d.plan target }
  | form {d : Drive} (group : Nat) : d.Waits →
      Step target now indoor d { d with state := .waitFeeder, group := some group, run := d.plan target }
  | start {d : Drive} : indoor → d.state = .waitFeeder ∨ d.state = .running ∧ d.since = now → d.run = d.plan target →
      Step target now indoor d (d.startMotor now)
  | settle {d : Drive} : d.state = .waitFeeder → d.group ≠ none → Step target now indoor d { d with state := .settling }
  | back {d : Drive} : d.state = .settling → Step target now indoor d { d with state := .waitFeeder }
  | limit {d : Drive} (r : Run) : indoor → d.state = .running → d.atLimit = true →
      Step target now indoor d { d.halt (some r.limitPosition) with
        streak := 0, state := { d.halt (some r.limitPosition) with streak := 0 }.idleState target }
  | idle {d : Drive} : d.inService = true → d.state = .stopped ∨ d.state = .waitStage →
      Step target now indoor d { d with state := d.idleState target }
  | withdraw {d : Drive} : d.state = .settling → Step target now indoor d (d.release (d.idleState target))
  | rest {d : Drive} : d.state = .waitFeeder → d.needsRun target = false → Step target now indoor d (d.release .stopped)
  | cut {d : Drive} : d.state = .running → d.inService = true →
      Step target now indoor d { d.halt (d.estimate now) with state := (d.halt (d.estimate now)).idleState target }

/-- The course of a drive: its steps, one after another. -/
abbrev Drive.Course (target now : Nat) (indoor : Prop) : Drive → Drive → Prop := Relation.ReflTransGen (Drive.Step target now indoor)

/-- Every drive has followed a course toward the applied target, each in its place. -/
structure Courses (s t : State) : Prop where
  now : t.now = s.now
  loader : t.loader = s.loader
  applied : t.blind.applied = s.blind.applied
  drives : List.Forall₂ (Drive.Course s.blind.applied s.now (s.loader.settings.facade = 0)) s.blind.drives t.blind.drives

section Walk

variable {s t u : State} {numbers : List Nat}

theorem Courses.of_same (now : t.now = s.now) (loader : t.loader = s.loader) (applied : t.blind.applied = s.blind.applied)
    (drives : t.blind.drives = s.blind.drives) : Courses s t :=
  ⟨now, loader, applied, by rw [drives]; exact List.forall₂_same.2 fun _ _ => .refl⟩

theorem Courses.refl (s : State) : Courses s s := .of_same rfl rfl rfl rfl

theorem Courses.trans (h : Courses s t) (k : Courses t u) : Courses s u := by
  refine ⟨k.now.trans h.now, k.loader.trans h.loader, k.applied.trans h.applied, forall₂_trans Relation.ReflTransGen.trans h.drives ?_⟩
  have later := k.drives
  rwa [h.now, h.loader, h.applied] at later

theorem QuietFrame.courses (h : QuietFrame s t) : Courses s t :=
  .of_same h.now h.loader (congrArg Blind.applied h.blind) (congrArg Blind.drives h.blind)

theorem Courses.setDrives {b : Blind} (applied : b.applied = s.blind.applied)
    (drives : List.Forall₂ (Drive.Course s.blind.applied s.now (s.loader.settings.facade = 0)) s.blind.drives b.drives) :
    Courses s (s.setBlind b) := ⟨rfl, rfl, applied, drives⟩

theorem Courses.map {f : Drive → Drive} {b : Blind} (applied : b.applied = s.blind.applied) (h : b.drives = s.blind.drives.map f)
    (each : ∀ d : Drive, d.Course s.blind.applied s.now (s.loader.settings.facade = 0) (f d)) : Courses s (s.setBlind b) :=
  .setDrives applied (by rw [h]; exact List.forall₂_map_right_iff.2 (List.forall₂_same.2 fun d _ => each d))

theorem Courses.put {n : Nat} {d e : Drive} (now : t.now = s.now) (loader : t.loader = s.loader)
    (blind : t.blind = { s.blind with drives := Machine.put s.blind.drives n e }) (fitted : pick? s.blind.drives n = some d)
    (step : d.Step s.blind.applied s.now (s.loader.settings.facade = 0) e) : Courses s t := by
  refine ⟨now, loader, by rw [blind], ?_⟩
  rw [blind]
  refine forall₂_put (fun _ => .refl) fun a picked => ?_
  rw [Option.some.inj (picked.symm.trans fitted)]
  exact .single step

/-- A change made to each drive of some numbers. -/
theorem Courses.foldl {f : Drive → Drive} {p : Drive → Prop} (keep : ∀ d, p d → p (f d)) {numbers : List Nat} {s : State}
    (each : ∀ d, p d → d.Step s.blind.applied s.now (s.loader.settings.facade = 0) (f d)) (h : s.blind.AllOf numbers p) :
    Courses s (withBlind (fun b => numbers.foldl (fun b n => b.mapDrive n f) b) s) := by
  induction numbers generalizing s with
  | nil => exact .refl s
  | cons n rest ih =>
    have applied : (s.blind.mapDrive n f).applied = s.blind.applied := (congrArg Blind.applied (mapDrive_policy s.blind n f) :)
    have first : Courses s (withBlind (·.mapDrive n f) s) := by
      refine ⟨rfl, rfl, applied, ?_⟩
      cases fitted : pick? s.blind.drives n with
      | none =>
        rw [withBlind, Blind.mapDrive_of_absent fitted]
        exact List.forall₂_same.2 fun _ _ => .refl
      | some d =>
        rw [withBlind, Blind.mapDrive_of_fitted fitted]
        refine forall₂_put (fun _ => .refl) fun a picked => ?_
        rw [Option.some.inj (picked.symm.trans fitted)]
        exact .single (each d (h n List.mem_cons_self d fitted))
    refine first.trans (ih (s := withBlind (·.mapDrive n f) s) (fun d holds => ?_) ?_)
    · show d.Step (s.blind.mapDrive n f).applied s.now (s.loader.settings.facade = 0) (f d)
      rw [applied]
      exact each d holds
    · exact Blind.AllOf.mapDrive (fun m mem => h m (List.mem_cons_of_mem _ mem)) keep n

/-! ### The stage and the feeder -/

theorem planGroup_courses (group : Nat) (s : State) : Courses s (planGroup group s) := by
  rw [planGroup_eq]
  refine .map rfl rfl fun d => ?_
  split
  next own => exact .single (.plan own.2)
  next => exact .refl

theorem awaitReport_courses (group drives : Nat) (s : State) : Courses s (awaitReport group drives s) := by
  rw [awaitReport_eq]
  refine .map rfl rfl fun d => ?_
  split
  next own => exact .single (.settle own.2 (by rw [own.1]; exact nofun))
  next => exact .refl

theorem backOff_courses (group : Nat) (s : State) : Courses s (backOff group s) := by
  rw [backOff_eq]
  refine .map rfl rfl fun d => ?_
  split
  next own => exact .single (.back own.2)
  next => exact .refl

theorem askFeeder_courses (group : Nat) (numbers : List Nat) (s : State) : Courses s (askFeeder group numbers s).1 := by
  have asked := (offer_frame (s.feederStart numbers) s).courses.trans (awaitReport_courses group numbers.length _)
  rw [askFeeder_eq]
  exact ite_keeps (P := Courses s) asked (asked.trans (backOff_courses group _))

theorem feederCheck_courses (group : Nat) (s : State) : Courses s (feederCheck group s).1 :=
  feederCheck_elim (planGroup_courses group s) fun _ numbers => (planGroup_courses group s).trans (askFeeder_courses group numbers _)

theorem formGroup_courses (numbers : List Nat) (s : State) (waits : s.blind.AllOf numbers Drive.Waits) :
    Courses s (formGroup numbers s) :=
  Courses.trans (t := withBlind (fun b => numbers.foldl (fun b' n => b'.mapDrive n fun d =>
      { d with state := .waitFeeder, group := some s.blind.nextGroup, run := d.plan s.blind.applied }) b) s)
    (.foldl (fun _ _ => ⟨nofun, nofun⟩) (fun _ waits => .form s.blind.nextGroup waits) waits) (.of_same rfl rfl rfl rfl)

theorem checkLimit_courses (number : Nat) {s : State} (indoor : s.loader.settings.facade = 0) : Courses s (checkLimit number s) := by
  cases fitted : pick? s.blind.drives number with
  | none =>
    rw [checkLimit, fitted]
    exact .refl s
  | some d =>
    by_cases stops : d.state = .running ∧ d.atLimit = true
    · have eq : checkLimit number s = haltAtLimit number s := by
        rw [checkLimit, fitted]
        exact if_pos (by simpa using stops)
      rw [eq]
      cases run : d.run with
      | none =>
        rw [haltAtLimit, fitted]
        dsimp only
        rw [run]
        exact .refl s
      | some r =>
        have halts := haltAtLimit_halts fitted stops.1 run
        exact .put halts.now halts.loader halts.blind fitted (.limit r indoor stops.1 stops.2)
    · rw [checkLimit_of_clear fitted stops]
      exact .refl s

theorem checkLimits_courses : ∀ (numbers : List Nat) {s : State}, s.loader.settings.facade = 0 → Courses s (forEach numbers checkLimit s)
  | [], s, _ => .refl s
  | n :: rest, s, indoor =>
    have first : Courses s (checkLimit n s) := checkLimit_courses n indoor
    first.trans (checkLimits_courses rest (by rw [first.loader]; exact indoor))

theorem plan_startMotor (d : Drive) (now target : Nat) : (d.startMotor now).plan target = d.plan target := by
  unfold Drive.startMotor
  split <;> rfl

theorem startMotor_run (d : Drive) (now : Nat) : (d.startMotor now).run = d.run := by
  unfold Drive.startMotor
  split <;> rfl

theorem startMotors_courses (indoor : s.loader.settings.facade = 0) (ready : s.blind.Ready numbers) :
    Courses s (startMotors numbers s) := by
  have started : Courses s (withBlind (fun b => numbers.foldl (fun b n => b.mapDrive n (·.startMotor s.now)) b) s) := by
    refine .foldl (p := fun d => (d.state = .waitFeeder ∨ d.state = .running ∧ d.since = s.now) ∧ d.run = d.plan s.blind.applied)
      (fun d holds => ⟨?_, ?_⟩) (fun d holds => .start indoor holds.1 holds.2) fun n mem d fitted =>
        ⟨.inl (ready n mem d fitted).1, (ready n mem d fitted).2⟩
    · unfold Drive.startMotor
      split
      · exact holds.1
      · exact .inr ⟨rfl, rfl⟩
    · rw [startMotor_run, plan_startMotor]
      exact holds.2
  unfold startMotors
  dsimp only
  split
  · exact started.trans (.of_same rfl rfl rfl rfl)
  · exact started

theorem enterRunning_courses (numbers : List Nat) (s : State) (indoor : s.loader.settings.facade = 0) (ready : s.blind.Ready numbers) :
    Courses s (enterRunning numbers s) :=
  have started := startMotors_courses indoor ready
  started.trans (checkLimits_courses numbers (by rw [started.loader]; exact indoor))

theorem settleStage_courses (rounds : Nat) (recheck : Bool) (s : State) : Courses s (settleStage rounds recheck s) :=
  settleStage_rel .refl .trans formGroup_courses enterRunning_courses feederCheck_courses rounds recheck s

/-! ### The taking of a target -/

theorem dropHand_courses (s : State) : Courses s (dropHand s) := by
  unfold dropHand
  split
  · exact .refl s
  · exact .of_same rfl rfl rfl rfl
  · exact (Courses.of_same rfl rfl rfl rfl : Courses s (withBlind (fun b => { b with hand := .nothing }) s)).trans
      (offerFeederEnd_frame _ _).courses

theorem withdrawGroup_courses (group : Nat) (s : State) : Courses s (withdrawGroup group s) := by
  refine (dropHand_courses s).trans (.map (f := fun d => if d.group == some group && d.state == .settling then
    d.release (d.idleState (dropHand s).blind.applied) else d) rfl rfl fun d => ?_)
  split
  next own =>
    rw [Bool.and_eq_true, beq_iff_eq, beq_iff_eq] at own
    exact .single (.withdraw own.2)
  next => exact .refl

theorem takeTarget_courses (number : Nat) (s : State) : Courses s (takeTarget number s) := by
  cases fitted : pick? s.blind.drives number with
  | none =>
    rw [takeTarget, fitted]
    exact .refl s
  | some d =>
    have idles (service : d.inService = true) (state : d.state = .stopped ∨ d.state = .waitStage) : Courses s (retake number s) :=
      .put rfl rfl (congrArg State.blind (retake_eq fitted)) fitted (.idle service state)
    cases service : d.inService with
    | false =>
      rw [takeTarget_of_out fitted service]
      exact .refl s
    | true =>
      cases state : d.state with
      | stopped =>
        rw [takeTarget_of_idle fitted service (.inl state)]
        exact idles service (.inl state)
      | waitStage =>
        rw [takeTarget_of_idle fitted service (.inr state)]
        exact idles service (.inr state)
      | waitFeeder =>
        rw [takeTarget_of_waiting fitted service state]
        split
        · exact .refl s
        next rests => exact .put rfl rfl rfl fitted (.rest state (Bool.eq_false_iff.2 rests))
      | settling =>
        cases grouped : d.group with
        | none =>
          rw [takeTarget, fitted]
          dsimp only
          rw [if_neg (by simp [service]), state, grouped]
          exact .refl s
        | some group =>
          rw [takeTarget_of_settling fitted service state grouped]
          exact ite_keeps (P := Courses s) (.refl s) (withdrawGroup_courses group s)
      | running =>
        cases run : d.run with
        | none =>
          rw [takeTarget, fitted]
          dsimp only
          rw [if_neg (by simp [service]), state, run]
          exact .refl s
        | some r =>
          rw [takeTarget_of_running fitted service state run]
          have halted := (haltDrive_halts fitted state (d.estimate s.now)).retake fitted
          exact ite_keeps (P := Courses s) (.refl s) (.put halted.now halted.loader halted.blind fitted (.cut state service))

theorem takeEach_courses (numbers : List Nat) (s : State) : Courses s (forEach numbers takeTarget s) :=
  forEach_rel Courses .refl .trans takeTarget takeTarget_courses numbers s

theorem takeTargets_courses (s : State) : Courses s (takeTargets s) :=
  (takeEach_courses _ s).trans (Courses.trans (t := withBlind Blind.pruneBackoffs _) (.of_same rfl rfl rfl rfl) (settleStage_courses _ _ _))

end Walk

end Sys2Proof.Machine
end

section
/-!
PROOFS. What a course leaves of a drive (R151 to R155): its service, its place, its plan, and that it is STOPPED exactly where it needs no run.
-/

namespace Sys2Proof.Machine

namespace Drive

variable {d e : Drive} {target now : Nat} {indoor : Prop}

/-! ### STOPPED exactly where no run is needed (R154) -/

/-- A drive is STOPPED exactly where it is out of service or needs no run. -/
def Settled (target : Nat) (d : Drive) : Prop := d.state = .stopped ↔ d.inService = false ∨ d.needsRun target = false

theorem Settled.of_idle (idle : d.state = d.idleState target) : d.Settled target := by
  unfold Settled
  rw [idle, idleState]
  cases d.inService <;> cases d.needsRun target <;> decide

theorem Settled.of_moves (moves : d.state ≠ .stopped) (service : d.inService = true) (needs : d.needsRun target = true) :
    d.Settled target := by
  unfold Settled
  rw [service, needs]
  simp [moves]

/-- A drive that is not STOPPED and keeps moving, its service and its place as they were. -/
theorem Settled.of_same (h : d.Settled target) (stands : d.state ≠ .stopped) (moves : e.state ≠ .stopped)
    (service : e.inService = d.inService) (position : e.position = d.position) : e.Settled target := by
  have both : ¬(d.inService = false ∨ d.needsRun target = false) := fun none => stands (h.2 none)
  rw [not_or, Bool.not_eq_false, Bool.not_eq_false] at both
  refine .of_moves moves (service.trans both.1) ?_
  unfold needsRun
  rw [position]
  exact both.2

theorem startMotor_moves (stands : d.state ≠ .stopped) (now : Nat) : (d.startMotor now).state ≠ .stopped := by
  unfold startMotor
  split
  · exact stands
  · exact nofun

theorem startMotor_lasts (d : Drive) (now : Nat) : (d.startMotor now).inService = d.inService ∧
    (d.startMotor now).position = d.position ∧ (d.startMotor now).travel = d.travel ∧ (d.startMotor now).limits = d.limits ∧
    (d.startMotor now).streak = d.streak := by
  unfold startMotor
  split <;> exact ⟨rfl, rfl, rfl, rfl, rfl⟩

theorem Step.settled (step : d.Step target now indoor e) (h : d.Settled target) : e.Settled target := by
  cases step with
  | plan waits => exact h.of_same (by rw [waits]; exact nofun) (show d.state ≠ .stopped by rw [waits]; exact nofun) rfl rfl
  | form _ waits => exact h.of_same waits.1 (e := { d with state := .waitFeeder, group := _, run := _ }) nofun rfl rfl
  | start _ waits _ =>
    have stands : d.state ≠ .stopped := by rcases waits with state | ⟨state, -⟩ <;> rw [state] <;> exact nofun
    obtain ⟨service, position, -⟩ := d.startMotor_lasts now
    exact h.of_same stands (startMotor_moves stands now) service position
  | settle waits _ => exact h.of_same (by rw [waits]; exact nofun) (e := { d with state := .settling }) nofun rfl rfl
  | back waits => exact h.of_same (by rw [waits]; exact nofun) (e := { d with state := .waitFeeder }) nofun rfl rfl
  | rest _ needs => exact ⟨fun _ => .inr needs, fun _ => rfl⟩
  | limit | idle | withdraw | cut => exact .of_idle rfl

/-! ### A sound drive -/

/-- A drive as the stage moves it: a drive out of service is STOPPED, a SETTLING drive has its group, and a RUNNING one a run planned from
where it stands, which begins at this moment. -/
structure Sound (now : Nat) (d : Drive) : Prop where
  out : d.inService = false → d.state = .stopped
  grouped : d.state = .settling → d.group ≠ none
  planned : d.state = .running → d.since = now ∧ ∃ r w, d.run = some r ∧ d.plan w = some r

theorem Sound.of_stopped (stopped : d.state = .stopped) : d.Sound now :=
  ⟨fun _ => stopped, fun settles => (nomatch stopped.symm.trans settles), fun runs => nomatch stopped.symm.trans runs⟩

theorem Sound.service (h : d.Sound now) (stands : d.state ≠ .stopped) : d.inService = true :=
  (Bool.not_eq_false _).mp fun out => stands (h.out out)

theorem idleState_cases (d : Drive) (target : Nat) : d.idleState target = .stopped ∨ d.idleState target = .waitStage ∧ d.inService = true := by
  unfold idleState
  cases service : d.inService <;> cases d.needsRun target <;> simp

theorem Sound.of_idle (idle : d.state = d.idleState target) : d.Sound now := by
  rcases idleState_cases d target with stopped | ⟨waits, service⟩
  · exact .of_stopped (idle.trans stopped)
  · refine ⟨fun out => (nomatch service.symm.trans out), fun settles => ?_, fun runs => ?_⟩
    · exact nomatch (idle.trans waits).symm.trans settles
    · exact nomatch (idle.trans waits).symm.trans runs

theorem Sound.of_waitFeeder (waits : d.state = .waitFeeder) (service : d.inService = true) : d.Sound now := by
  refine ⟨fun out => (nomatch service.symm.trans out), fun settles => ?_, fun runs => ?_⟩
  · exact nomatch waits.symm.trans settles
  · exact nomatch waits.symm.trans runs

theorem Step.sound (step : d.Step target now indoor e) (h : d.Sound now) : e.Sound now := by
  cases step with
  | plan waits => exact .of_waitFeeder waits (h.service (by rw [waits]; exact nofun))
  | form _ waits => exact .of_waitFeeder rfl (h.service waits.1)
  | start _ waits planned =>
    have stands : d.state ≠ .stopped := by rcases waits with state | ⟨state, -⟩ <;> rw [state] <;> exact nofun
    have service := h.service stands
    cases run : d.run with
    | none =>
      have still : d.startMotor now = d := by rw [startMotor, run]
      rw [still]
      exact h
    | some r =>
      have started : d.startMotor now = { d with state := .running, since := now, due := some (now + r.length * 100) } := by
        rw [startMotor, run]
      rw [started]
      exact ⟨fun out => (nomatch service.symm.trans out), (nomatch ·), fun _ => ⟨rfl, r, target, run, planned ▸ run⟩⟩
  | settle waits grouped =>
    have service := h.service (by rw [waits]; exact nofun)
    exact ⟨fun out => (nomatch service.symm.trans out), fun _ => grouped, (nomatch ·)⟩
  | back waits => exact .of_waitFeeder rfl (h.service (by rw [waits]; exact nofun))
  | rest => exact .of_stopped rfl
  | limit | idle | withdraw | cut => exact .of_idle (target := target) rfl

/-! ### Where a drive stands (R151) -/

/-- A run that is planned begins where the drive stands. -/
theorem plan_shape {r : Run} (planned : d.plan target = some r) :
    d.position = none ∧ r.kind = .reference ∨
      ∃ p, d.position = some p ∧ r.kind ≠ .reference ∧ r.goal = target ∧ r.origin = some p ∧ d.needsRun target = true := by
  cases known : d.position with
  | none =>
    rw [plan_of_unknown known, Option.some_inj] at planned
    exact .inl ⟨rfl, by rw [← planned]⟩
  | some p =>
    have needs : d.needsRun target = true := by rw [needsRun_eq_plan, planned]; rfl
    have far := (needsRun_iff known).1 needs
    refine .inr ⟨p, rfl, ?_⟩
    by_cases atEnd : target = 0 ∨ target = 100
    · rw [plan_of_end known far atEnd, Option.some_inj] at planned
      subst planned
      exact ⟨nofun, rfl, rfl, needs⟩
    · obtain ⟨top, bottom⟩ := not_or.1 atEnd
      rw [plan_of_middle known far top bottom, Option.some_inj] at planned
      subst planned
      exact ⟨nofun, rfl, rfl, needs⟩

/-- A drive whose planned run begins at this moment stands where it stood. -/
theorem estimate_of_begun {r : Run} {w : Nat} (run : d.run = some r) (planned : d.plan w = some r) (since : d.since = now)
    (within : ∀ p, d.position = some p → p ≤ 100) : d.estimate now = d.position := by
  rcases plan_shape planned with ⟨unknown, reference⟩ | ⟨p, known, other, -, origin, -⟩
  · rw [estimate_of_reference run reference, unknown]
  · have none : travelled d.travel ((now - d.since) / 100) = 0 := by
      rw [since, Nat.sub_self, Nat.zero_div, travelled]
      rcases Nat.eq_zero_or_pos (d.travel * 10) with zero | positive
      · rw [zero]
      · exact Nat.div_eq_of_lt (by omega)
    have bound := within p known
    rw [estimate_of_run run other origin, none, known, Nat.sub_zero, Nat.add_zero, Nat.min_eq_right bound, ite_self]

theorem Sound.estimate (h : d.Sound now) (runs : d.state = .running) (within : ∀ p, d.position = some p → p ≤ 100) :
    d.estimate now = d.position := by
  obtain ⟨since, r, w, run, planned⟩ := h.planned runs
  exact estimate_of_begun run planned since within

theorem leftAt_of_standing (stands : d.state ≠ .running) (now : Nat) : d.leftAt now = d.position := if_neg stands

theorem leftAt_of_running (runs : d.state = .running) (now : Nat) : d.leftAt now = d.estimate now := if_pos runs

theorem Sound.leftAt (h : d.Sound now) (within : ∀ p, d.position = some p → p ≤ 100) : d.leftAt now = d.position := by
  by_cases runs : d.state = .running
  · rw [leftAt_of_running runs, h.estimate runs within]
  · exact leftAt_of_standing runs now

/-- A drive as it would be left now, and the rest of its record that a restart leaves (R163). -/
structure Kin (now : Nat) (d e : Drive) : Prop where
  place : e.leftAt now = d.leftAt now
  travel : e.travel = d.travel
  service : e.inService = d.inService
  streak : e.streak = d.streak
  limits : e.limits = d.limits
  within : (∀ p, d.position = some p → p ≤ 100) → ∀ p, e.position = some p → p ≤ 100

theorem Kin.refl (now : Nat) (d : Drive) : Kin now d d := ⟨rfl, rfl, rfl, rfl, rfl, id⟩

theorem Kin.trans {f : Drive} (h : Kin now d e) (k : Kin now e f) : Kin now d f :=
  ⟨k.place.trans h.place, k.travel.trans h.travel, k.service.trans h.service, k.streak.trans h.streak, k.limits.trans h.limits,
    k.within ∘ h.within⟩

/-- Neither drive runs. -/
theorem Kin.of_standing (stands : d.state ≠ .running) (still : e.state ≠ .running) (position : e.position = d.position)
    (travel : e.travel = d.travel) (service : e.inService = d.inService) (streak : e.streak = d.streak) (limits : e.limits = d.limits) :
    Kin now d e :=
  ⟨by rw [leftAt_of_standing still, leftAt_of_standing stands, position], travel, service, streak, limits, by rw [position]; exact id⟩

theorem idleState_stands (d : Drive) (target : Nat) : d.idleState target ≠ .running := by
  rcases idleState_cases d target with idle | ⟨idle, -⟩ <;> rw [idle] <;> exact nofun

/-- Where no limit can stop it, a drive's course leaves its place. -/
theorem Step.kin (step : d.Step target now indoor e) (clear : indoor → d.limits = { openEnd := false, closedEnd := false })
    (within : ∀ p, d.leftAt now = some p → p ≤ 100) : Kin now d e := by
  have standing (stands : d.state ≠ .running) {s : DriveState} (last : s ≠ .running) (run : Option Run) (due : Timer) (group : Option Nat) :
      Kin now d { d with state := s, run := run, due := due, group := group } := .of_standing stands last rfl rfl rfl rfl rfl
  cases step with
  | plan waits =>
    have stands : d.state ≠ .running := by rw [waits]; exact nofun
    exact standing stands stands _ _ _
  | form _ waits => exact standing waits.2 (s := .waitFeeder) nofun _ _ _
  | start inside waits planned =>
    obtain ⟨service, position, travel, limits, streak⟩ := d.startMotor_lasts now
    refine ⟨?_, travel, service, streak, limits, by rw [position]; exact id⟩
    cases run : d.run with
    | none => rw [startMotor, run]
    | some r =>
      have started : d.startMotor now = { d with state := .running, since := now, due := some (now + r.length * 100) } := by
        rw [startMotor, run]
      rw [started, leftAt_of_running rfl]
      rcases waits with state | ⟨state, since⟩
      · rw [leftAt_of_standing (by rw [state]; exact nofun)] at within ⊢
        exact estimate_of_begun (d := { d with state := .running, since := now, due := some (now + r.length * 100) }) run
          (planned ▸ run :) rfl within
      · rw [leftAt_of_running state, ← since]
        rfl
  | settle waits _ => exact standing (by rw [waits]; exact nofun) (s := .settling) nofun _ _ _
  | back waits => exact standing (by rw [waits]; exact nofun) (s := .waitFeeder) nofun _ _ _
  | limit r inside _ met =>
    refine absurd met ?_
    unfold atLimit
    rw [clear inside]
    split <;> simp
  | idle _ waits =>
    have stands : d.state ≠ .running := by rcases waits with state | state <;> rw [state] <;> exact nofun
    exact standing stands (idleState_stands d target) _ _ _
  | withdraw waits => exact standing (by rw [waits]; exact nofun) (idleState_stands d target) _ _ _
  | rest waits _ => exact standing (by rw [waits]; exact nofun) (s := .stopped) nofun _ _ _
  | cut runs _ =>
    rw [leftAt_of_running runs] at within
    exact ⟨by rw [leftAt_of_running runs, leftAt_of_standing (idleState_stands _ target)]; rfl, rfl, rfl, rfl, rfl, fun _ => within⟩

end Drive

end Sys2Proof.Machine
end

section
/-!
PROOFS. The drives together: what a target taken and the end of an event leave of them, and that each is STOPPED exactly where it needs no
run (R151 to R155).
-/

namespace Sys2Proof.Machine

namespace Drive

variable {d e : Drive} {target now : Nat} {indoor : Prop}

theorem Course.settled (course : d.Course target now indoor e) (h : d.Settled target) : e.Settled target := by
  induction course with
  | refl => exact h
  | tail _ step ih => exact step.settled ih

theorem Course.sound (course : d.Course target now indoor e) (h : d.Sound now) : e.Sound now := by
  induction course with
  | refl => exact h
  | tail _ step ih => exact step.sound ih

theorem Course.kin (course : d.Course target now indoor e) (clear : indoor → d.limits = { openEnd := false, closedEnd := false })
    (within : ∀ p, d.leftAt now = some p → p ≤ 100) : Kin now d e := by
  induction course with
  | refl => exact .refl now d
  | tail _ step ih => exact ih.trans (step.kin (fun inside => ih.limits.trans (clear inside)) (by rw [ih.place]; exact within))

/-- On a façade the stage starts no motor. -/
theorem Course.stands (course : d.Course target now indoor e) (outdoor : ¬indoor) (stands : d.state ≠ .running) : e.state ≠ .running := by
  induction course with
  | refl => exact stands
  | tail _ step ih =>
    cases step with
    | plan => exact ih
    | form | settle | back | rest => exact nofun
    | start inside => exact absurd inside outdoor
    | limit | idle | withdraw | cut => exact idleState_stands _ target

end Drive

section Together

variable {s t u : State}

theorem forall₂_mem {α : Type} {R : α → α → Prop} {xs ys : List α} (h : List.Forall₂ R xs ys) {y : α} (mem : y ∈ ys) :
    ∃ x ∈ xs, R x y := by
  induction h with
  | nil => exact nomatch mem
  | cons first _ ih =>
    rcases List.mem_cons.1 mem with rfl | later
    · exact ⟨_, List.mem_cons_self, first⟩
    · obtain ⟨x, inside, related⟩ := ih later
      exact ⟨x, List.mem_cons_of_mem _ inside, related⟩

/-- Every drive is STOPPED exactly where it needs no run toward the applied target (R154). -/
def Blind.Settled (b : Blind) : Prop := ∀ d ∈ b.drives, d.Settled b.applied

/-- Every drive is as the stage moves it at this moment. -/
def State.Sound (s : State) : Prop := ∀ d ∈ s.blind.drives, d.Sound s.now

/-- No motor runs on a façade. -/
def State.Quiet (s : State) : Prop := s.loader.settings.facade ≠ 0 → ∀ d ∈ s.blind.drives, d.state ≠ .running

theorem Courses.settled (h : Courses s t) (settled : s.blind.Settled) : t.blind.Settled := fun e mem => by
  obtain ⟨d, inside, course⟩ := forall₂_mem h.drives mem
  rw [h.applied]
  exact Drive.Course.settled course (settled d inside)

theorem Courses.sound (h : Courses s t) (sound : s.Sound) : t.Sound := fun e mem => by
  obtain ⟨d, inside, course⟩ := forall₂_mem h.drives mem
  rw [h.now]
  exact Drive.Course.sound course (sound d inside)

theorem Courses.quiet (h : Courses s t) (quiet : s.Quiet) : t.Quiet := fun facade e mem => by
  obtain ⟨d, inside, course⟩ := forall₂_mem h.drives mem
  rw [h.loader] at facade
  exact Drive.Course.stands course facade (quiet facade d inside)

/-- Where no limit can stop a drive and it is left within its travel, it is left as it was. -/
structure Kindred (s t : State) : Prop where
  now : t.now = s.now
  loader : t.loader = s.loader
  drives : ∀ number d e, pick? s.blind.drives number = some d → pick? t.blind.drives number = some e →
    s.loader.settings.facade ≠ 0 ∨ d.limits = { openEnd := false, closedEnd := false } →
    (∀ p, d.leftAt s.now = some p → p ≤ 100) → Drive.Kin s.now d e
  fitted : t.blind.drives.length = s.blind.drives.length

theorem Kindred.of_same (now : t.now = s.now) (loader : t.loader = s.loader) (drives : t.blind.drives = s.blind.drives) : Kindred s t := by
  refine ⟨now, loader, fun number d e before after _ _ => ?_, by rw [drives]⟩
  rw [drives, before, Option.some_inj] at after
  exact after ▸ .refl s.now d

theorem Kindred.trans (h : Kindred s t) (k : Kindred t u) : Kindred s u := by
  refine ⟨k.now.trans h.now, k.loader.trans h.loader, fun number d f before after clear within => ?_, k.fitted.trans h.fitted⟩
  obtain ⟨positive, inside⟩ := pick?_eq_some_iff.1 after
  obtain ⟨long, -⟩ := List.getElem?_eq_some_iff.1 inside
  rw [k.fitted] at long
  have between : pick? t.blind.drives number = some t.blind.drives[number - 1] :=
    pick?_eq_some_iff.2 ⟨positive, List.getElem?_eq_getElem long⟩
  have first := h.drives number d _ before between clear within
  have later := k.drives number _ f between after
  rw [h.now, h.loader, first.limits, first.place] at later
  exact first.trans (later clear within)

theorem Courses.kindred (h : Courses s t) : Kindred s t := by
  refine ⟨h.now, h.loader, fun number d e before after clear within => ?_, h.drives.length_eq.symm⟩
  obtain ⟨d', before', course⟩ := pick?_forall₂ h.drives after
  obtain rfl := Option.some_inj.1 (before.symm.trans before')
  exact Drive.Course.kin course (fun indoor => clear.resolve_left fun outdoor => outdoor indoor) within

/-! ### The taking of a target -/

/-- A drive that has taken the target is STOPPED exactly where it needs no run (R154). -/
theorem takeTarget_settles {number : Nat} (sound : s.Sound) {e : Drive} (held : pick? (takeTarget number s).blind.drives number = some e) :
    e.Settled s.blind.applied := by
  obtain ⟨d, fitted, -⟩ := pick?_forall₂ (takeTarget_courses number s).drives held
  have own := sound d (mem_of_pick? fitted)
  have stays (same : pick? s.blind.drives number = some e) : e = d := Option.some_inj.1 (same.symm.trans fitted)
  have takes {f : Drive} (same : pick? (put s.blind.drives number f) number = some e) : e = f :=
    Option.some_inj.1 (same.symm.trans (pick?_put_same fitted))
  cases service : d.inService with
  | false =>
    rw [takeTarget_of_out fitted service] at held
    rw [stays held]
    exact ⟨fun _ => .inl service, fun _ => own.out service⟩
  | true =>
    cases state : d.state with
    | stopped =>
      rw [takeTarget_of_idle fitted service (.inl state), retake_eq fitted] at held
      rw [takes held]
      exact .of_idle rfl
    | waitStage =>
      rw [takeTarget_of_idle fitted service (.inr state), retake_eq fitted] at held
      rw [takes held]
      exact .of_idle rfl
    | waitFeeder =>
      rw [takeTarget_of_waiting fitted service state] at held
      split at held
      next needs =>
        rw [stays held]
        exact .of_moves (by rw [state]; exact nofun) service needs
      next rests =>
        rw [takes held]
        exact ⟨fun _ => .inr (Bool.eq_false_iff.2 rests), fun _ => rfl⟩
    | settling =>
      obtain ⟨group, grouped⟩ := Option.ne_none_iff_exists'.1 (own.grouped state)
      rw [takeTarget_of_settling fitted service state grouped] at held
      split at held
      next keeps =>
        rw [stays held]
        have member : d ∈ s.blind.drives.filter (fun d => d.group == some group && d.state == .settling) :=
          List.mem_filter.2 ⟨mem_of_pick? fitted, by simp [grouped, state]⟩
        obtain ⟨_, r, _, planned, -⟩ := (keepsPlan_iff d s.blind.applied).1 (List.all_eq_true.1 keeps d member)
        exact .of_moves (by rw [state]; exact nofun) service (by rw [needsRun_eq_plan, planned]; rfl)
      next =>
        have applied : (dropHand s).blind.applied = s.blind.applied := (dropHand_courses s).applied
        rw [withdrawGroup_eq, State.setBlind_blind, (dropHand_blind s).2, applied, withdrawn, pick?_map, fitted, Option.map_some,
          if_pos ⟨grouped, state⟩, Option.some_inj] at held
        rw [← held]
        exact .of_idle rfl
    | running =>
      obtain ⟨-, r, w, run, planned⟩ := own.planned state
      rw [takeTarget_of_running fitted service state run] at held
      split at held
      next goes =>
        rw [stays held]
        refine .of_moves (by rw [state]; exact nofun) service ?_
        rcases Drive.plan_shape planned with ⟨unknown, -⟩ | ⟨p, -, other, goal, -, needs⟩
        · rw [Drive.needsRun, unknown]
        · rw [← goes.resolve_left other, goal]
          exact needs
      next =>
        rw [((haltDrive_halts fitted state (d.estimate s.now)).retake fitted).blind] at held
        rw [takes held]
        exact .of_idle rfl

theorem takeEach_settles (numbers : List Nat) (sound : s.Sound) {number : Nat} (mem : number ∈ numbers) {e : Drive} :
    pick? (forEach numbers takeTarget s).blind.drives number = some e → e.Settled s.blind.applied := by
  have taken := forEach_brings_under (act := takeTarget) (Q := fun t => t.Sound ∧ t.blind.applied = s.blind.applied)
    (P := fun t => ∀ e, pick? t.blind.drives number = some e → e.Settled s.blind.applied) number
    (fun n t held => ⟨(takeTarget_courses n t).sound held.1, (takeTarget_courses n t).applied.trans held.2⟩)
    (fun t held e picked => held.2 ▸ takeTarget_settles held.1 picked)
    (fun n t _ held settled e picked => by
      obtain ⟨d, fitted, course⟩ := pick?_forall₂ (takeTarget_courses n t).drives picked
      rw [held.2] at course
      exact Drive.Course.settled course (settled d fitted))
    numbers s mem ⟨sound, rfl⟩
  exact taken e

/-- Once every drive has taken the applied target and the stage is settled, each is STOPPED exactly where it needs no run. -/
theorem takeTargets_settles (sound : s.Sound) : (takeTargets s).blind.Settled := by
  have taken := takeEach_courses (numbersOf s.blind.drives fun _ => true) s
  have settled : (withBlind Blind.pruneBackoffs (forEach (numbersOf s.blind.drives fun _ => true) takeTarget s)).blind.Settled := by
    intro e mem
    obtain ⟨i, inside, rfl⟩ := List.mem_iff_getElem.1 mem
    have long : i < s.blind.drives.length := taken.drives.length_eq ▸ inside
    show Drive.Settled (forEach (numbersOf s.blind.drives fun _ => true) takeTarget s).blind.applied _
    rw [taken.applied]
    refine takeEach_settles (numbersOf s.blind.drives fun _ => true) sound (number := i + 1) ?_ ?_
    · exact mem_numbersOf.2 ⟨s.blind.drives[i], pick?_eq_some_iff.2 ⟨by omega, List.getElem?_eq_getElem long⟩, rfl⟩
    · exact pick?_eq_some_iff.2 ⟨by omega, List.getElem?_eq_getElem inside⟩
  exact (settleStage_courses _ _ _).settled settled

end Together

end Sys2Proof.Machine
end

section
/-!
PROOFS. The start in hand, the orphaned starts and the backoffs, while a target is taken and the stage is settled (R154, R156, R157).
-/

namespace Sys2Proof.Machine

section Walk

variable {s t u : State}

/-! ### What the drives' own changes leave -/

/-- The Blind Controller but for its drives and the number of its next group. -/
def Blind.bare (b : Blind) : Blind := { b with drives := [], nextGroup := 0 }

/-- The drives alone have changed, and the number of the next group. -/
def BareKept (s t : State) : Prop := t.blind.bare = s.blind.bare

theorem BareKept.refl (s : State) : BareKept s s := rfl

theorem BareKept.trans (h : BareKept s t) (k : BareKept t u) : BareKept s u := Eq.trans k h

theorem BareKept.of_blind (h : t.blind = s.blind) : BareKept s t := congrArg Blind.bare h

theorem BareKept.hand (h : BareKept s t) : t.blind.hand = s.blind.hand := (congrArg Blind.hand (show t.blind.bare = s.blind.bare from h) :)

theorem BareKept.orphans (h : BareKept s t) : t.blind.orphans = s.blind.orphans :=
  (congrArg Blind.orphans (show t.blind.bare = s.blind.bare from h) :)

theorem BareKept.backoffs (h : BareKept s t) : t.blind.backoffs = s.blind.backoffs :=
  (congrArg Blind.backoffs (show t.blind.bare = s.blind.bare from h) :)

theorem BareKept.nextTag (h : BareKept s t) : t.blind.nextTag = s.blind.nextTag :=
  (congrArg Blind.nextTag (show t.blind.bare = s.blind.bare from h) :)

theorem mapDrive_bare (b : Blind) (n : Nat) (f : Drive → Drive) : (b.mapDrive n f).bare = b.bare := by
  unfold Blind.mapDrive
  split <;> rfl

theorem foldl_mapDrive_bare (numbers : List Nat) (f : Drive → Drive) (b : Blind) :
    (numbers.foldl (fun b n => b.mapDrive n f) b).bare = b.bare :=
  foldl_keeps Blind.bare _ (fun b n => mapDrive_bare b n f) numbers b

theorem planGroup_bare (group : Nat) (s : State) : BareKept s (planGroup group s) := foldl_mapDrive_bare _ _ _

theorem formGroup_bare (numbers : List Nat) (s : State) : BareKept s (formGroup numbers s) := foldl_mapDrive_bare numbers _ s.blind

theorem withMapDrive_bare (number : Nat) (f : Drive → Drive) (s : State) : BareKept s (withBlind (·.mapDrive number f) s) :=
  mapDrive_bare _ _ _

theorem retake_bare (number : Nat) (s : State) : BareKept s (retake number s) := mapDrive_bare _ _ _

theorem haltDrive_bare (number : Nat) (position : Option Nat) (s : State) : BareKept s (haltDrive number position s) := by
  unfold BareKept
  rw [haltDrive_blind, mapDrive_bare]

theorem haltAtLimit_bare (number : Nat) (s : State) : BareKept s (haltAtLimit number s) := by
  unfold haltAtLimit
  split
  · exact .refl s
  · split
    · exact .refl s
    · exact ((haltDrive_bare _ _ s).trans (withMapDrive_bare number _ _)).trans (retake_bare _ _)

theorem enterRunning_bare (numbers : List Nat) (s : State) : BareKept s (enterRunning numbers s) := by
  have started : BareKept s (startMotors numbers s) := by
    unfold BareKept
    rw [startMotors_blind, foldl_mapDrive_bare]
  exact started.trans (forEach_rel BareKept .refl .trans _ (fun n t => ite_keeps (P := BareKept t) (haltAtLimit_bare n t) (.refl t)) numbers _)

/-! ### Tags -/

/-- The start in hand has been given up or follows a START of its own, and the starts orphaned on the way are that in hand or of a START made
on the way (R154, R157). -/
structure Tagged (s t : State) : Prop where
  next : s.blind.nextTag ≤ t.blind.nextTag
  hand : t.blind.hand = s.blind.hand ∨ t.blind.hand = .nothing ∨
    ∃ group drives tag, t.blind.hand = .awaiting group drives tag ∧ s.blind.nextTag ≤ tag
  orphans : ∀ o ∈ t.blind.orphans, o ∈ s.blind.orphans ∨ s.blind.nextTag ≤ o.tag ∨ ∃ group, s.blind.hand = .awaiting group o.drives o.tag

theorem Tagged.of_same (next : t.blind.nextTag = s.blind.nextTag) (hand : t.blind.hand = s.blind.hand)
    (orphans : t.blind.orphans = s.blind.orphans) : Tagged s t :=
  ⟨Nat.le_of_eq next.symm, .inl hand, fun _ mem => .inl (orphans ▸ mem)⟩

theorem BareKept.tagged (h : BareKept s t) : Tagged s t := .of_same h.nextTag h.hand h.orphans

theorem Tagged.refl (s : State) : Tagged s s := .of_same rfl rfl rfl

theorem Tagged.trans (h : Tagged s t) (k : Tagged t u) : Tagged s u where
  next := h.next.trans k.next
  hand := by
    rcases k.hand with same | given | ⟨group, drives, tag, awaits, own⟩
    · rw [same]
      exact h.hand
    · exact .inr (.inl given)
    · exact .inr (.inr ⟨group, drives, tag, awaits, h.next.trans own⟩)
  orphans o mem := by
    rcases k.orphans o mem with held | own | ⟨group, awaits⟩
    · exact h.orphans o held
    · exact .inr (.inl (h.next.trans own))
    · rcases h.hand with same | given | ⟨group', drives, tag, awaits', own⟩
      · exact .inr (.inr ⟨group, same ▸ awaits⟩)
      · exact nomatch given.symm.trans awaits
      · cases awaits'.symm.trans awaits
        exact .inr (.inl own)

theorem askFeeder_tagged (group : Nat) (numbers : List Nat) (s : State) : Tagged s (askFeeder group numbers s).1 := by
  have blind : (offer (s.feederStart numbers) s).blind = s.blind := (offer_frame _ s).blind
  have orphans : ∀ o ∈ (offer (s.feederStart numbers) s).blind.orphans, o ∈ s.blind.orphans ∨ s.blind.nextTag ≤ o.tag ∨
      ∃ group, s.blind.hand = .awaiting group o.drives o.tag := fun o mem => .inl (blind ▸ mem)
  have next : s.blind.nextTag ≤ (offer (s.feederStart numbers) s).blind.nextTag + 1 := by rw [blind]; exact Nat.le_succ _
  have own : s.blind.nextTag ≤ (offer (s.feederStart numbers) s).blind.nextTag := by rw [blind]
  rw [askFeeder_eq]
  refine ite_keeps (P := Tagged s) ?_ ?_
  · rw [awaitReport_eq]
    exact ⟨next, .inr (.inr ⟨_, _, _, rfl, own⟩), orphans⟩
  · rw [backOff_eq, awaitReport_eq]
    exact ⟨next, .inr (.inl rfl), orphans⟩

theorem feederCheck_tagged (group : Nat) (s : State) : Tagged s (feederCheck group s).1 :=
  feederCheck_elim (planGroup_bare group s).tagged fun _ numbers => (planGroup_bare group s).tagged.trans (askFeeder_tagged group numbers _)

theorem settleStage_tagged (rounds : Nat) (recheck : Bool) (s : State) : Tagged s (settleStage rounds recheck s) :=
  settleStage_rel .refl .trans (fun numbers s _ => (formGroup_bare numbers s).tagged) (fun numbers s _ _ => (enterRunning_bare numbers s).tagged)
    feederCheck_tagged rounds recheck s

theorem dropHand_tagged (s : State) : Tagged s (dropHand s) := by
  cases hand : s.blind.hand with
  | nothing =>
    rw [dropHand, hand]
    exact .refl s
  | awaiting group drives tag =>
    rw [dropHand_of_awaiting hand]
    refine ⟨Nat.le_refl _, .inr (.inl rfl), fun o mem => ?_⟩
    rcases List.mem_append.1 mem with held | last
    · exact .inl held
    · rw [List.mem_singleton.1 last]
      exact .inr (.inr ⟨group, hand⟩)
  | window =>
    rw [dropHand_of_window hand]
    exact ⟨Nat.le_refl _, .inr (.inl rfl), fun _ mem => .inl mem⟩

theorem takeTarget_tagged (number : Nat) (s : State) : Tagged s (takeTarget number s) :=
  takeTarget_elim (.refl s) (retake_bare number s).tagged (withMapDrive_bare number _ s).tagged
    (fun _ => (dropHand_tagged s).trans (.of_same rfl rfl rfl))
    fun _ => ((haltDrive_bare _ _ s).trans (retake_bare _ _)).tagged

theorem takeTargets_tagged (s : State) : Tagged s (takeTargets s) :=
  (forEach_rel Tagged .refl .trans _ takeTarget_tagged _ s).trans
    (Tagged.trans (t := withBlind Blind.pruneBackoffs _) (.of_same rfl rfl rfl) (settleStage_tagged _ _ _))

/-! ### Backoffs -/

/-- A FEEDER START is taken into the queue. -/
def State.Admits (s : State) : Prop := s.bus.queue.length < 10 ∧ s.takesOffer .feederStart = true

/-- While the stage is settled and a START is admitted no group backs off; a start in hand stays, and no start is orphaned (R156, R157). -/
structure Admitting (s t : State) : Prop where
  loader : t.loader = s.loader
  orphans : t.blind.orphans = s.blind.orphans
  held : s.blind.hand ≠ .nothing → t.blind.hand = s.blind.hand ∧ (s.blind.backoffs = [] → t.blind.backoffs = [])
  admitting : s.Admits → s.blind.backoffs = [] → t.blind.backoffs = [] ∧ (t.blind.hand = .nothing → t.bus = s.bus)

theorem BareKept.admitting (h : BareKept s t) (loader : t.loader = s.loader) (bus : t.bus = s.bus) : Admitting s t :=
  ⟨loader, h.orphans, fun _ => ⟨h.hand, fun none => h.backoffs.trans none⟩, fun _ none => ⟨h.backoffs.trans none, fun _ => bus⟩⟩

theorem Admitting.refl (s : State) : Admitting s s := (BareKept.refl s).admitting rfl rfl

theorem Admitting.trans (h : Admitting s t) (k : Admitting t u) : Admitting s u := by
  refine ⟨k.loader.trans h.loader, k.orphans.trans h.orphans, fun held => ?_, fun admits none => ?_⟩
  · obtain ⟨still, quiet⟩ := h.held held
    obtain ⟨last, later⟩ := k.held (still ▸ held)
    exact ⟨last.trans still, later ∘ quiet⟩
  · obtain ⟨quiet, free⟩ := h.admitting admits none
    by_cases between : t.blind.hand = .nothing
    · have bus := free between
      have again : t.Admits := by
        refine ⟨bus ▸ admits.1, ?_⟩
        rw [takesOffer_of_loader h.loader]
        exact admits.2
      obtain ⟨last, kept⟩ := k.admitting again quiet
      exact ⟨last, fun given => (kept given).trans bus⟩
    · obtain ⟨still, later⟩ := k.held between
      exact ⟨later quiet, fun given => absurd (still.symm.trans given) between⟩

theorem askFeeder_admitting (free : s.blind.hand = .nothing) (group : Nat) (numbers : List Nat) : Admitting s (askFeeder group numbers s).1 := by
  have frame := offer_frame (s.feederStart numbers) s
  have blind : (offer (s.feederStart numbers) s).blind = s.blind := frame.blind
  have loader : (offer (s.feederStart numbers) s).loader = s.loader := frame.loader
  have orphans : (offer (s.feederStart numbers) s).blind.orphans = s.blind.orphans := congrArg Blind.orphans blind
  have backoffs : (offer (s.feederStart numbers) s).blind.backoffs = s.blind.backoffs := congrArg Blind.backoffs blind
  refine ⟨?_, ?_, fun held => absurd free held, fun admits none => ?_⟩
  · rw [askFeeder_eq]
    exact ite_keeps (P := fun u => u.loader = s.loader) loader loader
  · rw [askFeeder_eq]
    exact ite_keeps (P := fun u => u.blind.orphans = s.blind.orphans) orphans orphans
  · have taken : (offerAnswered (s.feederStart numbers) s).2 = true := by
      rw [offerAnswered_of_taken admits.2]
      exact feederStart_joins admits.1 numbers
    rw [askFeeder_eq, if_pos taken, awaitReport_eq]
    exact ⟨backoffs.trans none, (nomatch ·)⟩

theorem feederCheck_admitting (group : Nat) (s : State) : Admitting s (feederCheck group s).1 :=
  have planned : Admitting s (planGroup group s) := (planGroup_bare group s).admitting rfl rfl
  feederCheck_elim planned fun free numbers => planned.trans (askFeeder_admitting free group numbers)

theorem enterRunning_admitting (numbers : List Nat) (s : State) (indoor : s.loader.settings.facade = 0) : Admitting s (enterRunning numbers s) := by
  obtain ⟨loader, bus, -⟩ := enterRunning_hushed numbers s indoor
  exact (enterRunning_bare numbers s).admitting loader bus

theorem settleStage_admitting (rounds : Nat) (recheck : Bool) (s : State) : Admitting s (settleStage rounds recheck s) :=
  settleStage_rel .refl .trans (fun numbers s _ => (formGroup_bare numbers s).admitting rfl rfl)
    (fun numbers s indoor _ => enterRunning_admitting numbers s indoor) feederCheck_admitting rounds recheck s

/-- Under a room of one frame beside what is owed, no group backs off. -/
def AdmittingOnce (s t : State) : Prop := Spare 1 s → s.takesOffer .feederStart = true → s.blind.backoffs = [] → t.blind.backoffs = []

theorem Spare.admits (h : Spare 1 s) (taken : s.takesOffer .feederStart = true) : s.Admits :=
  ⟨by have := h.room; omega, taken⟩

theorem settleStage_admittingOnce (rounds : Nat) (recheck : Bool) (s : State) : AdmittingOnce s (settleStage rounds recheck s) :=
  fun spare taken none => ((settleStage_admitting rounds recheck s).admitting (spare.admits taken) none).1

theorem AdmittingOnce.of_same (h : t.blind.backoffs = s.blind.backoffs) : AdmittingOnce s t := fun _ _ none => h.trans none

theorem AdmittingOnce.after (quiet : Feeds 0 s t) (backoffs : s.blind.backoffs = [] → t.blind.backoffs = []) (calm : AdmittingOnce t u) :
    AdmittingOnce s u :=
  fun spare taken none => calm (quiet.books.spare (by rw [Nat.zero_add]; exact spare))
    (by rw [takesOffer_of_loader quiet.loader]; exact taken) (backoffs none)

/-- The stage settled again after an event that asked once. -/
theorem AdmittingOnce.settle (h : AdmittingOnce s t) (once : Once s t) (rounds : Nat) (recheck : Bool) :
    AdmittingOnce s (settleStage rounds recheck t) := fun spare taken none => by
  have calm := settleStage_admitting rounds recheck t
  by_cases free : t.blind.hand = .nothing
  · exact AdmittingOnce.after (once.turned free) (fun _ => h spare taken none) (settleStage_admittingOnce rounds recheck t) spare taken none
  · exact (calm.held free).2 (h spare taken none)

theorem dropHand_backoffs (s : State) : (dropHand s).blind.backoffs = s.blind.backoffs := by
  cases hand : s.blind.hand with
  | nothing => rw [dropHand, hand]
  | awaiting => rw [dropHand_of_awaiting hand]; rfl
  | window => rw [dropHand_of_window hand]; rfl

theorem takeTarget_backoffs (number : Nat) (s : State) : (takeTarget number s).blind.backoffs = s.blind.backoffs :=
  takeTarget_elim (P := fun u => u.blind.backoffs = s.blind.backoffs) rfl (retake_bare number s).backoffs
    (withMapDrive_bare number _ s).backoffs (fun _ => dropHand_backoffs s)
    fun _ => ((haltDrive_bare _ _ s).trans (retake_bare _ _)).backoffs

theorem takeTargets_admittingOnce (s : State) : AdmittingOnce s (takeTargets s) := by
  have taken : (forEach (numbersOf s.blind.drives fun _ => true) takeTarget s).blind.backoffs = s.blind.backoffs :=
    forEach_keeps (fun u => u.blind.backoffs = s.blind.backoffs) takeTarget (fun n t same => (takeTarget_backoffs n t).trans same) _ s rfl
  refine .after ((forEach_feeds takeTarget_feeds (numbersOf s.blind.drives fun _ => true) s).trans
    (withBlind_feeds Blind.pruneBackoffs _ rfl rfl)) (fun none => ?_) (settleStage_admittingOnce stageRounds true _)
  show List.filter _ (forEach (numbersOf s.blind.drives fun _ => true) takeTarget s).blind.backoffs = []
  rw [taken, none]
  rfl

end Walk

end Sys2Proof.Machine
end

section
/-!
PROOFS. What a policy event, a glare event and the end of an event leave of the Blind Controller (R145 to R149, R154).
-/

namespace Sys2Proof.Machine

section Beside

variable {s t u : State}

/-! ### The harvest hold (R133) -/

/-- On a façade a harvest hold that has ended does not begin again, for no motor starts. -/
structure HoldEnded (s t : State) : Prop where
  loader : t.loader = s.loader
  ended : s.loader.settings.facade ≠ 0 → s.light.hold = .off → t.light.hold = .off

theorem HoldEnded.of_same (loader : t.loader = s.loader) (hold : t.light.hold = s.light.hold) : HoldEnded s t := ⟨loader, fun _ => hold.trans⟩

theorem HoldEnded.refl (s : State) : HoldEnded s s := .of_same rfl rfl

theorem HoldEnded.trans (h : HoldEnded s t) (k : HoldEnded t u) : HoldEnded s u :=
  ⟨k.loader.trans h.loader, fun facade off => k.ended (by rw [h.loader]; exact facade) (h.ended facade off)⟩

theorem askFeeder_holdEnded (group : Nat) (numbers : List Nat) (s : State) : HoldEnded s (askFeeder group numbers s).1 := by
  have frame := offer_frame (s.feederStart numbers) s
  have sent : HoldEnded s (offer (s.feederStart numbers) s) := .of_same frame.loader (congrArg Light.hold frame.light)
  rw [askFeeder_eq]
  exact ite_keeps (P := HoldEnded s) (sent.trans (.of_same rfl rfl)) (sent.trans (.of_same rfl rfl))

theorem feederCheck_holdEnded (group : Nat) (s : State) : HoldEnded s (feederCheck group s).1 :=
  have planned : HoldEnded s (planGroup group s) := .of_same rfl rfl
  feederCheck_elim planned fun _ numbers => planned.trans (askFeeder_holdEnded group numbers _)

theorem settleStage_holdEnded (rounds : Nat) (recheck : Bool) (s : State) : HoldEnded s (settleStage rounds recheck s) :=
  settleStage_rel .refl .trans (fun _ _ _ => .of_same rfl rfl)
    (fun numbers s indoor _ => ⟨(enterRunning_hushed numbers s indoor).1, fun facade => absurd indoor facade⟩)
    feederCheck_holdEnded rounds recheck s

theorem motionStopped_ended (off : s.light.hold = .off) : (motionStopped s).light.hold = .off := by
  rw [motionStopped_hold, off]
  rfl

theorem haltDrive_hold (number : Nat) (position : Option Nat) (off : s.light.hold = .off) :
    (haltDrive number position s).light.hold = .off := by
  have silent : (announceHalt (withBlind (·.mapDrive number (·.halt position)) s)).light = s.light := (announceHalt_frame _).light
  exact ite_keeps (P := fun t => t.light.hold = .off) (motionStopped_ended (by rw [silent]; exact off)) (by rw [silent]; exact off)

theorem haltDrive_holdEnded (number : Nat) (position : Option Nat) (s : State) : HoldEnded s (haltDrive number position s) :=
  ⟨(haltDrive_frame number position s).loader, fun _ => haltDrive_hold number position⟩

theorem dropHand_light (s : State) : (dropHand s).light = s.light := by
  unfold dropHand
  split
  · rfl
  · rfl
  · exact (offerFeederEnd_frame _ _).light

theorem takeTarget_holdEnded (number : Nat) (s : State) : HoldEnded s (takeTarget number s) :=
  takeTarget_elim (.refl s) (.of_same rfl rfl) (.of_same rfl rfl)
    (fun _ => .of_same (dropHand_frame s).loader (congrArg Light.hold (dropHand_light s)))
    fun position => (haltDrive_holdEnded number position s).trans (.of_same rfl rfl)

theorem takeTargets_holdEnded (s : State) : HoldEnded s (takeTargets s) :=
  (forEach_rel HoldEnded .refl .trans _ takeTarget_holdEnded _ s).trans
    (HoldEnded.trans (t := withBlind Blind.pruneBackoffs _) (.of_same rfl rfl) (settleStage_holdEnded _ _ _))

/-! ### An event of the Blind Controller -/

/-- The Blind Controller's own readings, with the copies it keeps of other blocks but for the override. -/
def Blind.steady (b : Blind) : Blind := { b with
  glare := 0, holdTimer := none, glaring := false, override := none, wanted := 0, applied := 0, dwellTimer := none, latched := false
  hand := .nothing, orphans := [], drives := [], backoffs := [], nextGroup := 0, nextTag := 0 }

/-- What an event of the Blind Controller leaves, whatever target it applies. -/
structure Beside (s t : State) : Prop where
  tagged : Tagged s t
  kindred : Kindred s t
  sound : s.Sound → t.Sound
  quiet : s.Quiet → t.Quiet
  settled : s.Sound → s.blind.Settled → t.blind.Settled
  steady : t.blind.steady = s.blind.steady
  dwell : s.blind.dwellTimer = some (s.now + 600000) → t.blind.dwellTimer = some (s.now + 600000)
  hold : HoldEnded s t

theorem Beside.trans (h : Beside s t) (k : Beside t u) : Beside s u where
  tagged := h.tagged.trans k.tagged
  kindred := h.kindred.trans k.kindred
  sound := k.sound ∘ h.sound
  quiet := k.quiet ∘ h.quiet
  settled sound settled := k.settled (h.sound sound) (h.settled sound settled)
  steady := k.steady.trans h.steady
  dwell held := by
    have later := k.dwell
    rw [h.kindred.now] at later
    exact later (h.dwell held)
  hold := h.hold.trans k.hold

theorem sound_of_same (now : t.now = s.now) (drives : t.blind.drives = s.blind.drives) (sound : s.Sound) : t.Sound := by
  unfold State.Sound
  rw [now, drives]
  exact sound

theorem quiet_of_same (loader : t.loader = s.loader) (drives : t.blind.drives = s.blind.drives) (quiet : s.Quiet) : t.Quiet := by
  unfold State.Quiet
  rw [loader, drives]
  exact quiet

/-- The drives, the start in hand and the applied target stand. -/
theorem Beside.of_same (now : t.now = s.now) (loader : t.loader = s.loader) (tagged : Tagged s t)
    (drives : t.blind.drives = s.blind.drives) (applied : t.blind.applied = s.blind.applied)
    (steady : t.blind.steady = s.blind.steady) (dwell : t.blind.dwellTimer = s.blind.dwellTimer)
    (hold : HoldEnded s t) : Beside s t where
  tagged := tagged
  kindred := .of_same now loader drives
  sound := sound_of_same now drives
  quiet := quiet_of_same loader drives
  settled _ settled := by
    unfold Blind.Settled
    rw [drives, applied]
    exact settled
  steady := steady
  dwell := dwell.trans
  hold := hold

theorem Beside.of_blind (now : t.now = s.now) (loader : t.loader = s.loader) (blind : t.blind = s.blind)
    (hold : HoldEnded s t) : Beside s t :=
  .of_same now loader (BareKept.of_blind blind).tagged (congrArg Blind.drives blind) (congrArg Blind.applied blind)
    (congrArg Blind.steady blind) (congrArg Blind.dwellTimer blind) hold

theorem Beside.refl (s : State) : Beside s s := .of_blind rfl rfl rfl (.refl s)

theorem PolicyKept.steady (h : PolicyKept s t) : t.blind.steady = s.blind.steady :=
  (congrArg Blind.steady (show t.blind.policy = s.blind.policy from h) :)

theorem settleStage_beside (rounds : Nat) (recheck : Bool) (s : State) : Beside s (settleStage rounds recheck s) :=
  have courses := settleStage_courses rounds recheck s
  have policy := settleStage_policy rounds recheck s
  ⟨settleStage_tagged rounds recheck s, courses.kindred, courses.sound, courses.quiet, fun _ => courses.settled, policy.steady,
    (congrArg Blind.dwellTimer (show (settleStage rounds recheck s).blind.policy = s.blind.policy from policy) :).trans,
    settleStage_holdEnded rounds recheck s⟩

/-- The wanted target is applied (R149). -/
theorem applied_beside (s : State) : Beside s (takeTargets (s.applying s.wanted)) := by
  have courses := takeTargets_courses (s.applying s.wanted)
  have tagged : Tagged s (s.applying s.wanted) := .of_same rfl rfl rfl
  have sound (held : s.Sound) : (s.applying s.wanted).Sound := sound_of_same rfl rfl held
  have kindred : Kindred s (s.applying s.wanted) := .of_same rfl rfl rfl
  have hold : HoldEnded s (s.applying s.wanted) := .of_same rfl rfl
  obtain ⟨-, -, -, -, -, dwell⟩ := takeTargets_applying s s.wanted
  exact ⟨tagged.trans (takeTargets_tagged _), kindred.trans courses.kindred, fun held => courses.sound (sound held),
    fun quiet => courses.quiet (quiet_of_same rfl rfl quiet), fun held _ => takeTargets_settles (sound held),
    (takeTargets_policy _).steady, fun _ => dwell, hold.trans (takeTargets_holdEnded _)⟩

theorem policyEvent_beside (glare : Bool) (s : State) : Beside s (policyEvent glare s) := by
  have judged {b : Blind} (tagged : Tagged s (s.setBlind b)) (drives : b.drives = s.blind.drives) (applied : b.applied = s.blind.applied)
      (steady : b.steady = s.blind.steady) (dwell : b.dwellTimer = s.blind.dwellTimer) : Beside s (s.setBlind b) :=
    .of_same rfl rfl tagged drives applied steady dwell (.of_same rfl rfl)
  rw [policyEvent_eq]
  refine ite_keeps (P := Beside s) (judged (.of_same rfl rfl rfl) rfl rfl rfl rfl)
    (ite_keeps (P := Beside s) (judged (.of_same rfl rfl rfl) rfl rfl rfl rfl)
      (ite_keeps (P := Beside s) (judged (.of_same rfl rfl rfl) rfl rfl rfl rfl) ?_))
  rw [applyWanted_rework]
  exact applied_beside s

/-- The wanted target is the one the inputs give (R148). -/
def State.WantsNow (s : State) : Prop := s.blind.wanted = s.wanted

theorem wanted_of_policy (loader : t.loader = s.loader) (policy : t.blind.policy = s.blind.policy) : t.wanted = s.wanted := by
  unfold State.wanted
  rw [loader]
  exact (congrArg (fun b : Blind => b.wantedNow s.loader.settings.park) policy :)

theorem WantsNow.of_policy (loader : t.loader = s.loader) (policy : t.blind.policy = s.blind.policy) (wants : s.WantsNow) : t.WantsNow := by
  unfold State.WantsNow
  rw [wanted_of_policy loader policy]
  exact (congrArg Blind.wanted policy :).trans wants

theorem applied_wants (s : State) : (takeTargets (s.applying s.wanted)).WantsNow :=
  WantsNow.of_policy (s := s.applying s.wanted) (takeTargets_courses _).loader (takeTargets_policy _) rfl

theorem policyEvent_wants (glare : Bool) (s : State) : (policyEvent glare s).WantsNow := by
  rw [policyEvent_eq]
  refine ite_keeps (P := State.WantsNow) rfl (ite_keeps (P := State.WantsNow) rfl (ite_keeps (P := State.WantsNow) rfl ?_))
  rw [applyWanted_rework]
  exact applied_wants s

/-- The applied target is the wanted one, and nothing is latched (R149). -/
def Blind.Follows (b : Blind) : Prop := b.applied = b.wanted ∧ b.latched = false

theorem applied_follows (s : State) : (takeTargets (s.applying s.wanted)).blind.Follows :=
  have ⟨_, _, applied, wanted, latched, _⟩ := takeTargets_applying s s.wanted
  ⟨applied.trans wanted.symm, latched⟩

/-- While the line is released, a policy event that is no glare event in a session leaves the wanted target applied (R149). -/
theorem policyEvent_follows {glare : Bool} (released : s.blind.emergency = false) (free : glare = false ∨ s.blind.regime ≠ .inSession) :
    (policyEvent glare s).blind.Follows := by
  by_cases equal : s.wanted = s.blind.applied
  · rw [policyEvent_of_equal released equal]
    exact ⟨equal.symm, rfl⟩
  · rw [policyEvent_of_applied released equal (free.imp_right .inl), applyWanted_rework]
    exact applied_follows s

/-! ### Glare -/

theorem glaringAt_again (glare : Nat) (held : Bool) : glaringAt glare (glaringAt glare held) = glaringAt glare held := by
  unfold glaringAt
  split
  · rfl
  · split <;> rfl

/-- The glare judged, before the policy event it may call for (R147). -/
theorem judging_beside (glare : Nat) (s : State) : Beside s (s.judging glare) :=
  .of_same rfl rfl (.of_same rfl rfl rfl) rfl rfl rfl rfl (.of_same rfl rfl)

theorem setGlare_beside (glare : Nat) (s : State) : Beside s (setGlare glare s) := by
  rw [setGlare_eq]
  exact ite_keeps (P := Beside s) (judging_beside glare s) ((judging_beside glare s).trans (policyEvent_beside true _))

/-- The hold timer stopped and SUN_LOST cleared (R146). -/
def sunHeard (s : State) : State := clearAlert .sunLost (withBlind ({ · with holdTimer := none }) s)

theorem sunHeard_beside (s : State) : Beside s (sunHeard s) := .of_same rfl rfl (.of_same rfl rfl rfl) rfl rfl rfl rfl (.of_same rfl rfl)

theorem recomputeGlare_beside (s : State) : Beside s (recomputeGlare s) := by
  by_cases fresh : s.freshSet = []
  · rw [recomputeGlare_of_empty fresh]
    exact .of_same rfl rfl (.of_same rfl rfl rfl) rfl rfl rfl rfl (.of_same rfl rfl)
  · rw [recomputeGlare_of_fresh fresh]
    exact (sunHeard_beside s).trans (setGlare_beside _ (sunHeard s))

/-- The glare state that a fresh set gives (R145 to R147). -/
def glaringOf (suns : List Nat) (held : Bool) : Bool := if suns = [] then held else glaringAt (median suns) held

theorem glaringOf_again (suns : List Nat) (held : Bool) : glaringOf suns (glaringOf suns held) = glaringOf suns held := by
  unfold glaringOf
  split
  · rfl
  · exact glaringAt_again _ _

theorem policyEvent_glaring (glare : Bool) (s : State) : (policyEvent glare s).blind.glaring = s.blind.glaring := by
  rw [policyEvent_eq]
  refine ite_keeps (P := fun t => t.blind.glaring = s.blind.glaring) rfl (ite_keeps (P := fun t => t.blind.glaring = s.blind.glaring) rfl
    (ite_keeps (P := fun t => t.blind.glaring = s.blind.glaring) rfl ?_))
  rw [applyWanted_rework]
  have policy : (takeTargets (s.applying s.wanted)).blind.policy = (s.applying s.wanted).blind.policy := takeTargets_policy _
  exact (congrArg Blind.glaring policy :)

theorem recomputeGlare_glaring (s : State) : (recomputeGlare s).blind.glaring = glaringOf s.freshSet s.blind.glaring := by
  by_cases fresh : s.freshSet = []
  · rw [recomputeGlare_of_empty fresh, glaringOf, if_pos fresh]
    rfl
  · rw [recomputeGlare_of_fresh fresh, setGlare_eq, glaringOf, if_neg fresh]
    refine ite_keeps (P := fun t => t.blind.glaring = glaringAt (median s.freshSet) s.blind.glaring) rfl ?_
    rw [policyEvent_glaring]
    rfl

/-- A recomputation that leaves the glare state leaves the policy but for the glare value and its hold timer, and all the rest. -/
theorem recomputeGlare_idle (same : glaringOf s.freshSet s.blind.glaring = s.blind.glaring) :
    ∃ glare hold, (recomputeGlare s).blind = { s.blind with glare := glare, holdTimer := hold } ∧ (recomputeGlare s).bus = s.bus := by
  by_cases fresh : s.freshSet = []
  · rw [recomputeGlare_of_empty fresh]
    exact ⟨_, _, rfl, rfl⟩
  · rw [glaringOf, if_neg fresh] at same
    rw [recomputeGlare_of_fresh fresh, setGlare_eq, if_pos (by exact same)]
    refine ⟨median s.freshSet, none, ?_, rfl⟩
    show ({ s.blind with holdTimer := none, glare := _, glaring := glaringAt (median s.freshSet) s.blind.glaring } : Blind) = _
    rw [same]

theorem recomputeGlare_wants (wants : s.WantsNow) : (recomputeGlare s).WantsNow := by
  by_cases same : glaringOf s.freshSet s.blind.glaring = s.blind.glaring
  · obtain ⟨glare, hold, blind, -⟩ := recomputeGlare_idle same
    have loader := (recomputeGlare_beside s).kindred.loader
    unfold State.WantsNow State.wanted
    rw [loader, blind]
    exact wants
  · by_cases fresh : s.freshSet = []
    · exact absurd (if_pos fresh) same
    · rw [glaringOf, if_neg fresh] at same
      rw [recomputeGlare_of_fresh fresh, setGlare_eq, if_neg (by exact same)]
      exact policyEvent_wants true _

theorem recomputeGlare_follows (released : s.blind.emergency = false)
    (free : glaringOf s.freshSet s.blind.glaring = s.blind.glaring ∨ s.blind.regime ≠ .inSession) (follows : s.blind.Follows) :
    (recomputeGlare s).blind.Follows := by
  by_cases same : glaringOf s.freshSet s.blind.glaring = s.blind.glaring
  · obtain ⟨glare, hold, blind, -⟩ := recomputeGlare_idle same
    rw [blind]
    exact follows
  · by_cases fresh : s.freshSet = []
    · exact absurd (if_pos fresh) same
    · have other := free.resolve_left same
      rw [glaringOf, if_neg fresh] at same
      rw [recomputeGlare_of_fresh fresh, setGlare_eq, if_neg (by exact same)]
      exact policyEvent_follows (s := (sunHeard s).judging (median s.freshSet)) released (.inr other)

end Beside

end Sys2Proof.Machine
end

section
/-!
PROOFS. A SERVICE RESTART in the Blind Controller, and the table emptied notice (R90, R163).
-/

namespace Sys2Proof.Machine

/-- A drive that a restart has stopped where it is (R151, R163). -/
def Drive.parked (now : Nat) (d : Drive) : Drive := { d.release .stopped with position := d.leftAt now }

/-- The start that a restart orphans: a START that awaits its report (R157, R163). -/
def StartInHand.orphan : StartInHand → List Orphan
  | .awaiting _ drives tag => [{ tag := tag, drives := drives }]
  | .nothing | .window .. => []

section Restart

variable {s t u : State}

/-! ### Every drive stopped -/

theorem cutShort_blind_eq (number : Nat) (s : State) :
    (cutShort number s).blind = s.blind.mapDrive number fun d => d.halt (d.estimate s.now) := by
  unfold cutShort
  split
  next absent => exact (Blind.mapDrive_of_absent absent _).symm
  next d fitted => rw [haltDrive_blind, Blind.mapDrive_of_fitted fitted, Blind.mapDrive_of_fitted fitted]

theorem cutShorts_blind : ∀ (numbers : List Nat) (s : State),
    (forEach numbers cutShort s).blind = numbers.foldl (fun b n => b.mapDrive n fun d => d.halt (d.estimate s.now)) s.blind
  | [], _ => rfl
  | n :: rest, s => by
    refine (cutShorts_blind rest (cutShort n s)).trans ?_
    rw [show (cutShort n s).now = s.now from (cutShort_frame n s).now, cutShort_blind_eq]
    rfl

/-- The drives cut short, the starts orphaned or given up, and every drive stood down (R163). -/
def stoodDown (s : State) : State :=
  withBlind Blind.standDown (dropHand (withBlind ({ · with orphans := [] }) (forEach (s.blind.inState .running) cutShort s)))

theorem parked_eq (now : Nat) (d : Drive) :
    (if (if (d.state == .running) = true then d.halt (d.estimate now) else d).state == .running then
        (if (d.state == .running) = true then d.halt (d.estimate now) else d)
      else (if (d.state == .running) = true then d.halt (d.estimate now) else d).release .stopped) = d.parked now := by
  unfold Drive.parked Drive.leftAt
  by_cases runs : d.state = .running
  · rw [if_pos runs, if_pos (beq_iff_eq.2 runs)]
    rfl
  · have stands : ¬(d.state == .running) = true := fun same => runs (beq_iff_eq.1 same)
    rw [if_neg runs, if_neg stands, if_neg stands]
    rfl

theorem dropHand_blind_eq (s : State) :
    (dropHand s).blind = { s.blind with hand := .nothing, orphans := s.blind.orphans ++ s.blind.hand.orphan } := by
  cases hand : s.blind.hand with
  | nothing =>
    have idle : dropHand s = s := by rw [dropHand, hand]
    rw [idle, StartInHand.orphan, List.append_nil, ← hand]
  | awaiting group drives tag => rw [dropHand_of_awaiting hand]; rfl
  | window => rw [dropHand_of_window hand, StartInHand.orphan, List.append_nil]; rfl

theorem stoodDown_blind (s : State) : (stoodDown s).blind = { s.blind with
    drives := s.blind.drives.map (·.parked s.now), hand := .nothing, orphans := s.blind.hand.orphan, backoffs := [] } := by
  have cut : (forEach (s.blind.inState .running) cutShort s).blind =
      { s.blind with drives := s.blind.drives.map fun d => if (d.state == .running) = true then d.halt (d.estimate s.now) else d } := by
    rw [cutShorts_blind]
    exact Blind.foldl_numbersOf _ _ _
  unfold stoodDown
  rw [withBlind, State.setBlind_blind, dropHand_blind_eq, withBlind, State.setBlind_blind, cut]
  unfold Blind.standDown
  rw [List.map_map, List.nil_append]
  exact congrArg (fun drives => ({ s.blind with
    drives := drives, hand := .nothing, orphans := s.blind.hand.orphan, backoffs := [] } : Blind))
    (List.map_congr_left fun d _ => parked_eq s.now d)

theorem stoodDown_frame (s : State) : BlindFrame s (stoodDown s) :=
  (cutShorts_frame _ s).trans ((withBlind_frame _ _ rfl).trans ((dropHand_frame _).trans (standDown_frame _)))

theorem cutShort_holdEnded (number : Nat) (off : s.light.hold = .off) : (cutShort number s).light.hold = .off := by
  unfold cutShort
  split
  · exact off
  · exact haltDrive_hold _ _ off

/-- A harvest hold that has ended stays so while the drives stop (R133). -/
theorem stoodDown_hold (off : s.light.hold = .off) : (stoodDown s).light.hold = .off := by
  have cut : (forEach (s.blind.inState .running) cutShort s).light.hold = .off :=
    forEach_keeps (fun t => t.light.hold = .off) cutShort (fun n _ => cutShort_holdEnded n) _ s off
  exact (congrArg Light.hold (dropHand_light (withBlind ({ · with orphans := [] }) (forEach (s.blind.inState .running) cutShort s)))).trans cut

theorem parked_stopped (s : State) : ∀ d ∈ (stoodDown s).blind.drives, d.state = .stopped := by
  rw [stoodDown_blind]
  intro d mem
  obtain ⟨d', -, rfl⟩ := List.mem_map.1 mem
  rfl

theorem stoodDown_sound (s : State) : (stoodDown s).Sound := fun d mem => .of_stopped (parked_stopped s d mem)

theorem stoodDown_quiet (s : State) : (stoodDown s).Quiet := fun _ d mem runs => nomatch (parked_stopped s d mem).symm.trans runs

theorem stoodDown_kindred (s : State) : Kindred s (stoodDown s) := by
  have frame := stoodDown_frame s
  refine ⟨frame.now, frame.loader, fun number d e before after _ within => ?_, by rw [stoodDown_blind]; exact List.length_map _⟩
  rw [stoodDown_blind, pick?_map, before, Option.map_some, Option.some_inj] at after
  subst after
  exact ⟨rfl, rfl, rfl, rfl, rfl, fun _ => within⟩

theorem stoodDown_tagged (s : State) : Tagged s (stoodDown s) := by
  have blind := stoodDown_blind s
  refine ⟨by rw [blind], .inr (.inl (by rw [blind])), fun o mem => ?_⟩
  rw [blind] at mem
  cases hand : s.blind.hand with
  | awaiting group drives tag =>
    rw [hand] at mem
    rw [List.mem_singleton.1 mem]
    exact .inr (.inr ⟨group, rfl⟩)
  | nothing | window => rw [hand] at mem; exact nomatch mem

/-! ### The restart -/

theorem blindRestart_of_asserted (asserted : s.blind.emergency = true) : blindRestart s = stoodDown s :=
  if_pos (by show (stoodDown s).blind.emergency = true; rw [stoodDown_blind]; exact asserted)

theorem blindRestart_of_released (released : s.blind.emergency = false) :
    blindRestart s = takeTargets ((stoodDown s).applying (stoodDown s).wanted) := by
  rw [← applyWanted_rework]
  exact if_neg (by show ¬(stoodDown s).blind.emergency = true; rw [stoodDown_blind]; simp [released])

/-- What a restart brings to the Blind Controller while the line is released (R163). -/
structure Restarted (s : State) : Prop where
  sound : s.Sound
  quiet : s.Quiet
  settled : s.blind.Settled
  dwell : s.blind.dwellTimer = some (s.now + 600000)
  hand : s.blind.hand.timer = none

theorem Beside.restarted (h : Beside s t) (r : Restarted s) : Restarted t where
  sound := h.sound r.sound
  quiet := h.quiet r.quiet
  settled := h.settled r.sound r.settled
  dwell := by rw [h.kindred.now]; exact h.dwell r.dwell
  hand := by
    rcases h.tagged.hand with same | given | ⟨group, drives, tag, awaits, -⟩
    · rw [same]; exact r.hand
    · rw [given]; rfl
    · rw [awaits]; rfl

theorem blindRestart_restarted (released : s.blind.emergency = false) : Restarted (blindRestart s) := by
  rw [blindRestart_of_released released]
  have sound : ((stoodDown s).applying (stoodDown s).wanted).Sound := sound_of_same rfl rfl (stoodDown_sound s)
  have courses := takeTargets_courses ((stoodDown s).applying (stoodDown s).wanted)
  obtain ⟨-, -, -, -, -, dwell⟩ := takeTargets_applying (stoodDown s) (stoodDown s).wanted
  have tagged := takeTargets_tagged ((stoodDown s).applying (stoodDown s).wanted)
  refine ⟨courses.sound sound, courses.quiet (quiet_of_same rfl rfl (stoodDown_quiet s)), takeTargets_settles sound,
    dwell.trans (by rw [courses.now]; rfl), ?_⟩
  have free : ((stoodDown s).applying (stoodDown s).wanted).blind.hand = .nothing := (congrArg Blind.hand (stoodDown_blind s) :).trans rfl
  rcases tagged.hand with same | given | ⟨group, drives, tag, awaits, -⟩
  · rw [same, free]; rfl
  · rw [given]; rfl
  · rw [awaits]; rfl

theorem blindRestart_wants (released : s.blind.emergency = false) : (blindRestart s).WantsNow := by
  rw [blindRestart_of_released released]
  exact applied_wants _

theorem blindRestart_follows (released : s.blind.emergency = false) : (blindRestart s).blind.Follows := by
  rw [blindRestart_of_released released]
  exact applied_follows _

/-- A restart leaves the Blind Controller's own readings, and orphans no start but one in hand or of its own. -/
theorem blindRestart_beside (released : s.blind.emergency = false) : Beside s (blindRestart s) := by
  have down := stoodDown_frame s
  have applied := applied_beside (stoodDown s)
  have restarted := blindRestart_restarted released
  have steady : (stoodDown s).blind.steady = s.blind.steady := by rw [stoodDown_blind]; rfl
  have now : (blindRestart s).now = s.now := (blindRestart_frame s).now
  have hold : HoldEnded s (stoodDown s) := ⟨down.loader, fun _ => stoodDown_hold⟩
  rw [← blindRestart_of_released released] at applied
  refine ⟨(stoodDown_tagged s).trans applied.tagged, (stoodDown_kindred s).trans applied.kindred, fun _ => restarted.sound,
    fun _ => restarted.quiet, fun _ _ => restarted.settled, applied.steady.trans steady, fun _ => ?_, hold.trans applied.hold⟩
  rw [← now]
  exact restarted.dwell

/-! ### The table emptied (R90, R159) -/

/-- The table emptied, before its notice (R90). -/
def State.emptied (s : State) : State :=
  clearAlert .peerTableFull (s.setPeers { slots := List.replicate 32 none, pointer := 0, sweepTimer := some (s.now + 2000) })

theorem peersRestart_eq (s : State) : peersRestart s = fanOut [.air, .blind] (takeNotice .emptied) s.emptied := rfl

/-- The Air Controller and the Blind Controller take the notice, in either order. -/
theorem peersRestart_elim {P : State → Prop} (airFirst : P (blindNotice .emptied (airClaimNotice s.emptied)))
    (blindFirst : P (airClaimNotice (blindNotice .emptied s.emptied))) : P (peersRestart s) := by
  rw [peersRestart_eq]
  rcases fanOut_pair .air .blind (takeNotice .emptied) s.emptied with order | order <;> rw [order]
  · exact airFirst
  · exact blindFirst

theorem blindNotice_emptied (s : State) : blindNotice .emptied s = settleStage stageRounds true (recomputeGlare s) := rfl

theorem emptied_freshSet (s : State) : s.emptied.freshSet = (s.blind.ownFresh.map (·.glare)).toList := by
  have none : s.emptied.peers.freshSuns = [] := rfl
  unfold State.freshSet
  rw [none, List.append_nil]
  rfl

theorem blindNotice_emptied_beside (s : State) : Beside s (blindNotice .emptied s) :=
  (recomputeGlare_beside s).trans (settleStage_beside _ _ _)

theorem AirFrame.beside (h : AirFrame s t) : Beside s t := .of_blind h.now h.loader h.blind (.of_same h.loader (congrArg Light.hold h.light))

theorem emptied_beside (s : State) : Beside s s.emptied := .of_blind rfl rfl rfl (.of_same rfl rfl)

theorem peersRestart_beside (s : State) : Beside s (peersRestart s) :=
  (emptied_beside s).trans (peersRestart_elim (P := Beside s.emptied)
    ((airClaimNotice_frame _).beside.trans (blindNotice_emptied_beside _))
    ((blindNotice_emptied_beside _).trans (airClaimNotice_frame _).beside))

end Restart

end Sys2Proof.Machine
end

section
/-!
PROOFS. The Blind Controller through a SERVICE RESTART, in every order of the blocks (R90, R133, R145 to R149, R157, R163, R173).
-/

namespace Sys2Proof.Machine

section Restart

variable {s t u : State}

/-! ### Beside the Blind Controller's own restart -/

theorem blindTarget_beside (target : Option Nat) (s : State) : Beside s (blindTarget target s) := by
  have noted : Beside s (withBlind (fun b => { b with override := target }) s) :=
    .of_same rfl rfl (.of_same rfl rfl rfl) rfl rfl rfl rfl (.of_same rfl rfl)
  exact noted.trans (policyEvent_beside false _)

theorem writeRecord_beside (cause : OverrideCause) (value : Int) (s : State) : Beside s (writeRecord cause value s) :=
  .of_blind rfl rfl rfl (.of_same rfl rfl)

theorem resetOverride_beside (cause : OverrideCause) (value : Int) (s : State) : Beside s (resetOverride cause value s) :=
  .of_blind rfl rfl rfl (.of_same rfl rfl)

theorem returnOffset_beside (held : Panel) (s : State) : Beside s (returnOffset held s) :=
  ite_keeps (P := Beside s) (.refl s) (.of_blind rfl rfl rfl (.of_same rfl rfl))

theorem endIfOn_beside (cause : OverrideCause) (s : State) : Beside s (endIfOn cause s) := by
  have offset := (resetOverride_beside cause 0 s).trans (returnOffset_beside s.panel _)
  have boost := offset.trans (returnBoost_air_frame s.panel _).beside
  exact ite_keeps (P := Beside s) (boost.trans (ite_keeps (P := Beside _) (blindTarget_beside none _) (.refl _)))
    (ite_keeps (P := Beside s) (writeRecord_beside cause 0 s) (.refl s))

/-- No clock event is held, and no occupancy catch-up is due (R40, R59). -/
def State.Caught (s : State) : Prop := s.session.catchUp = false ∧ s.intake.heldEvents = []

theorem intakeRestart_of_caught (caught : s.Caught) : intakeRestart s = s.setIntake Intake.empty := by
  have released : releaseHeld (s.setIntake { s.intake with merge := none }) = s.setIntake { s.intake with merge := none, heldEvents := [] } := by
    unfold releaseHeld
    rw [State.setIntake_intake, caught.2]
    exact catchUp_of_clear (by exact caught.1)
  unfold intakeRestart
  rw [released]
  rfl

theorem takeRestart_beside (k : Block) (caught : s.Caught) (released : s.blind.emergency = false) : Beside s (takeRestart k s) := by
  cases k with
  | intake =>
    rw [takeRestart, intakeRestart_of_caught caught]
    exact .of_blind rfl rfl rfl (.of_same rfl rfl)
  | peers => exact peersRestart_beside s
  | air => exact (airRestart_frame s).beside
  | light =>
    refine .of_blind rfl rfl rfl ⟨rfl, fun _ _ => ?_⟩
    show (if s.light.warning.isSome then ({ s.light with hold := .off } : Light).goDark else { s.light with hold := .off }).hold = .off
    split <;> rfl
  | blind => exact blindRestart_beside released
  | panel => exact (endIfOn_beside .restart s).trans (.of_blind rfl rfl rfl (.of_same rfl rfl))
  | clock | session | counter | alert => exact .refl s

/-! ### The glare state, the policy and the start in hand -/

/-- The suns that a table emptied leaves fresh: the station's own reading (R145). -/
def Blind.ownSuns (b : Blind) : List Nat := (b.ownFresh.map (·.glare)).toList

theorem ownSuns_of_steady {b c : Blind} (h : c.steady = b.steady) : c.ownSuns = b.ownSuns := (congrArg Blind.ownSuns h :)

/-- What the Blind Controller's events bring beside its own restart. -/
structure Alongside (suns : List Nat) (s t : State) : Prop where
  glaring : t.blind.glaring = s.blind.glaring ∨ t.blind.glaring = glaringOf suns s.blind.glaring
  panel : s.panel.target = none → t.panel.target = none
  wants : s.WantsNow → t.WantsNow
  follows : s.blind.emergency = false → glaringOf suns s.blind.glaring = s.blind.glaring ∨ s.blind.regime ≠ .inSession →
    s.blind.Follows → t.blind.Follows
  still : s.panel.target = none → glaringOf suns s.blind.glaring = s.blind.glaring →
    HandKept s t ∧ t.blind.orphans = s.blind.orphans

theorem WantsNow.of_same (loader : t.loader = s.loader) (blind : t.blind = s.blind) (wants : s.WantsNow) : t.WantsNow := by
  unfold State.WantsNow State.wanted
  rw [loader, blind]
  exact wants

theorem Alongside.of_blind {suns : List Nat} (loader : t.loader = s.loader) (blind : t.blind = s.blind)
    (panel : s.panel.target = none → t.panel.target = none) : Alongside suns s t where
  glaring := .inl (by rw [blind])
  panel := panel
  wants := WantsNow.of_same loader blind
  follows _ _ follows := by rw [blind]; exact follows
  still _ _ := ⟨.of_same (by rw [blind]), by rw [blind]⟩

/-- The table emptied notice in the Blind Controller (R145, R159). -/
theorem blindNotice_emptied_alongside {suns : List Nat} (fresh : s.freshSet = suns) :
    Alongside suns s (blindNotice .emptied s) ∧ (blindNotice .emptied s).blind.glaring = glaringOf suns s.blind.glaring := by
  subst fresh
  have policy : (blindNotice .emptied s).blind.policy = (recomputeGlare s).blind.policy := settleStage_policy _ _ _
  have calm := settleStage_admitting stageRounds true (recomputeGlare s)
  have glaring : (blindNotice .emptied s).blind.glaring = glaringOf s.freshSet s.blind.glaring :=
    (congrArg Blind.glaring policy :).trans (recomputeGlare_glaring s)
  have panel : (blindNotice .emptied s).panel = s.panel := (blindNotice_frame .emptied s).panel
  refine ⟨⟨.inr glaring, fun none => panel ▸ none, fun wants => ?_, fun released free follows => ?_, fun _ same => ?_⟩, glaring⟩
  · exact WantsNow.of_policy calm.loader policy (recomputeGlare_wants wants)
  · obtain ⟨applied, latched⟩ := recomputeGlare_follows released free follows
    exact ⟨(congrArg Blind.applied policy :).trans (applied.trans (congrArg Blind.wanted policy :).symm),
      (congrArg Blind.latched policy :).trans latched⟩
  · obtain ⟨glare, hold, blind, -⟩ := recomputeGlare_idle same
    have hand : (recomputeGlare s).blind.hand = s.blind.hand := by rw [blind]
    refine ⟨fun held => ?_, calm.orphans.trans (by rw [blind])⟩
    exact (calm.held (hand ▸ held)).1.trans hand

/-- Blocks beside the Blind Controller act before its event and after it. -/
theorem Alongside.between {suns : List Nat} {r : State} (h : Alongside suns t u) (first : AirFrame s t) (last : AirFrame u r) :
    Alongside suns s r := by
  have blind : t.blind = s.blind := first.blind
  have end_blind : r.blind = u.blind := last.blind
  refine ⟨?_, fun none => ?_, fun wants => ?_, fun released free follows => ?_, fun none same => ?_⟩
  · rw [end_blind, ← blind]
    exact h.glaring
  · rw [last.panel]
    exact h.panel (first.panel ▸ none)
  · exact WantsNow.of_same last.loader end_blind (h.wants (WantsNow.of_same first.loader blind wants))
  · rw [← blind] at released free follows
    rw [end_blind]
    exact h.follows released free follows
  · rw [← blind] at same
    obtain ⟨hand, orphans⟩ := h.still (first.panel ▸ none) same
    refine ⟨fun held => ?_, by rw [end_blind, orphans, blind]⟩
    rw [end_blind, hand (by rw [blind]; exact held), blind]

/-- The whole of the table's restart (R90). -/
theorem peersRestart_alongside {suns : List Nat} (own : s.blind.ownSuns = suns) :
    Alongside suns s (peersRestart s) ∧ (peersRestart s).blind.glaring = glaringOf suns s.blind.glaring := by
  have fresh : s.emptied.freshSet = suns := (emptied_freshSet s).trans own
  have frame := airClaimNotice_frame s.emptied
  have freshThere : (airClaimNotice s.emptied).freshSet = suns := by
    unfold State.freshSet
    rw [frame.blind, frame.peers]
    exact fresh
  have table {t : State} (h : Alongside suns s.emptied t ∧ t.blind.glaring = glaringOf suns s.emptied.blind.glaring) :
      Alongside suns s t ∧ t.blind.glaring = glaringOf suns s.blind.glaring :=
    ⟨⟨h.1.glaring, h.1.panel, fun wants => h.1.wants (WantsNow.of_same rfl rfl wants), h.1.follows, h.1.still⟩, h.2⟩
  refine peersRestart_elim (P := fun t => Alongside suns s t ∧ t.blind.glaring = glaringOf suns s.blind.glaring) (table ?_) (table ?_)
  · obtain ⟨alongside, glaring⟩ := blindNotice_emptied_alongside freshThere
    rw [frame.blind] at glaring
    exact ⟨alongside.between frame (.refl _), glaring⟩
  · obtain ⟨alongside, glaring⟩ := blindNotice_emptied_alongside fresh
    have last := airClaimNotice_frame (blindNotice .emptied s.emptied)
    exact ⟨alongside.between (.refl _) last, by rw [last.blind]; exact glaring⟩

/-- An end of override (R172). -/
theorem endIfOn_alongside (suns : List Nat) (cause : OverrideCause) (s : State) : Alongside suns s (endIfOn cause s) := by
  have only := returnOffset_only s.panel (resetOverride cause 0 s)
  have boosted := returnBoost_air_frame s.panel (returnOffset s.panel (resetOverride cause 0 s))
  have loader : (returnBoost s.panel (returnOffset s.panel (resetOverride cause 0 s))).loader = s.loader :=
    boosted.loader.trans only.toRoom.loader
  have blind : (returnBoost s.panel (returnOffset s.panel (resetOverride cause 0 s))).blind = s.blind := boosted.blind.trans only.blind
  have panel : (endOverride cause 0 s).panel.target = none := congrArg Panel.target (endOverride_panel_eq cause 0 s)
  refine ite_keeps (P := Alongside suns s) ?_ (ite_keeps (P := Alongside suns s) (.of_blind rfl rfl id) (.of_blind rfl rfl id))
  cases target : s.panel.target with
  | none =>
    have still : endOverride cause 0 s = returnBoost s.panel (returnOffset s.panel (resetOverride cause 0 s)) :=
      if_neg (by simp [target])
    rw [still] at panel ⊢
    exact .of_blind loader blind fun _ => panel
  | some held =>
    have ends : endOverride cause 0 s = policyEvent false (withBlind (fun b => { b with override := none })
        (returnBoost s.panel (returnOffset s.panel (resetOverride cause 0 s)))) := if_pos (by simp [target])
    refine ⟨.inl ?_, fun _ => panel, fun _ => ?_, fun released _ _ => ?_, fun none => nomatch target.symm.trans none⟩
    · rw [ends, policyEvent_glaring]
      exact (congrArg Blind.glaring blind :)
    · rw [ends]
      exact policyEvent_wants _ _
    · rw [ends]
      exact policyEvent_follows (by exact (congrArg Blind.emergency blind).trans released) (.inl rfl)

theorem takeRestart_alongside {suns : List Nat} {k : Block} (other : k ≠ .blind) (caught : s.Caught) (own : s.blind.ownSuns = suns) :
    Alongside suns s (takeRestart k s) := by
  cases k with
  | blind => exact absurd rfl other
  | intake =>
    rw [takeRestart, intakeRestart_of_caught caught]
    exact .of_blind rfl rfl id
  | peers => exact (peersRestart_alongside own).1
  | air =>
    have frame := airRestart_frame s
    exact .of_blind frame.loader frame.blind fun none => frame.panel ▸ none
  | light => exact .of_blind rfl rfl id
  | panel =>
    have ends := endIfOn_alongside suns .restart s
    exact ⟨ends.glaring, ends.panel, fun wants => WantsNow.of_same rfl rfl (ends.wants wants), ends.follows, ends.still⟩
  | clock | session | counter | alert => exact .of_blind rfl rfl id

end Restart

end Sys2Proof.Machine
end

section
/-!
PROOFS. A SERVICE RESTART on the whole of the station, in every order of the blocks: what it leaves alone, what it empties, and the held
clock events (R27, R42, R71, R90, R167, R173).
-/

namespace Sys2Proof.Machine

section Restart

variable {s t u : State}

/-! ### What a block's restart leaves alone -/

/-- What the restart of a block leaves alone. -/
structure RestartFrame (s t : State) : Prop extends CoreFrame s t where
  clock : t.clock = s.clock
  counter : t.counter = s.counter
  airEmergency : t.air.emergency = s.air.emergency
  lightEmergency : t.light.emergency = s.light.emergency
  blindEmergency : t.blind.emergency = s.blind.emergency
  panelEmergency : t.panel.emergency = s.panel.emergency

theorem SessionFrame.toRestart (h : SessionFrame s t) : RestartFrame s t := { h with }

theorem RestartFrame.refl (s : State) : RestartFrame s s := (SessionFrame.refl s).toRestart

theorem RestartFrame.trans (h : RestartFrame s t) (k : RestartFrame t u) : RestartFrame s u where
  toCoreFrame := h.toCoreFrame.trans k.toCoreFrame
  clock := k.clock.trans h.clock
  counter := k.counter.trans h.counter
  airEmergency := k.airEmergency.trans h.airEmergency
  lightEmergency := k.lightEmergency.trans h.lightEmergency
  blindEmergency := k.blindEmergency.trans h.blindEmergency
  panelEmergency := k.panelEmergency.trans h.panelEmergency

theorem RestartFrame.setIntake (s : State) (i : Intake) : RestartFrame s (s.setIntake i) := { RestartFrame.refl s with }

theorem RestartFrame.setPeers (s : State) (p : PeerTable) : RestartFrame s (s.setPeers p) := { RestartFrame.refl s with }

/-- Only the Peer Table may change beside the room. -/
def TableFrame (s t : State) : Prop := RoomFrame (s.setPeers t.peers) t

theorem RoomFrame.table (h : RoomFrame s t) : TableFrame s t :=
  show RoomFrame (s.setPeers t.peers) t from { h with peers := rfl }

theorem TableFrame.refl (s : State) : TableFrame s s := (RoomFrame.refl s).table

theorem TableFrame.trans (h : TableFrame s t) (k : TableFrame t u) : TableFrame s u := by
  have first : RoomFrame (s.setPeers t.peers) t := h
  have moved : RoomFrame (s.setPeers u.peers) (t.setPeers u.peers) := { first with peers := rfl }
  exact moved.trans k

theorem TableFrame.toRestart (h : TableFrame s t) : RestartFrame s t :=
  (RestartFrame.setPeers s t.peers).trans (show RoomFrame (s.setPeers t.peers) t from h).toRestart

theorem TableFrame.intake (h : TableFrame s t) : t.intake = s.intake := (show RoomFrame (s.setPeers t.peers) t from h).intake

theorem TableFrame.session (h : TableFrame s t) : t.session = s.session := (show RoomFrame (s.setPeers t.peers) t from h).session

theorem peersRestart_table (s : State) : TableFrame s (peersRestart s) := by
  unfold TableFrame
  rw [show (peersRestart s).peers = _ from deliver_peers _ s]
  exact deliver_frame _ s

/-- Beside the Intake, and through it the Session Engine, no block's restart reaches them. -/
theorem takeRestart_table {k : Block} (other : k ≠ .intake) (s : State) : TableFrame s (takeRestart k s) := by
  cases k with
  | intake => exact absurd rfl other
  | peers => exact peersRestart_table s
  | air => exact (airRestart_frame s).table
  | light => exact (lightRestart_only s).toRoom.table
  | blind => exact (blindRestart_frame s).table
  | panel => exact (panelRestart_frame s).table
  | clock | session | counter | alert => exact .refl s

/-- The Intake when its merge is given up and the held clock events leave it (R42). -/
def State.released (s : State) : State := s.setIntake { s.intake with merge := none, heldEvents := [] }

theorem intakeRestart_eq (s : State) :
    intakeRestart s = (forEach s.intake.heldEvents takeClockEvent (catchUp s.released)).setIntake Intake.empty := rfl

theorem releases_frame (s : State) : SessionFrame s.released (forEach s.intake.heldEvents takeClockEvent (catchUp s.released)) :=
  (catchUp_frame _).trans (forEach_rel SessionFrame SessionFrame.refl SessionFrame.trans _ takeClockEvent_frame _ _)

theorem takeRestart_frame (k : Block) (s : State) : RestartFrame s (takeRestart k s) := by
  by_cases intake : k = .intake
  · subst intake
    exact (RestartFrame.setIntake s _).trans ((releases_frame s).toRestart.trans (.setIntake _ _))
  · exact (takeRestart_table intake s).toRestart

theorem takeRestart_peers {k : Block} (other : k ≠ .peers) (s : State) : (takeRestart k s).peers = s.peers := by
  cases k with
  | intake => exact (releases_frame s).peers
  | peers => exact absurd rfl other
  | air => exact (airRestart_frame s).peers
  | light => exact (lightRestart_only s).toRoom.peers
  | blind => exact (blindRestart_frame s).peers
  | panel => exact (panelRestart_frame s).peers
  | clock | session | counter | alert => rfl

/-! ### The event -/

/-- The Bus Port emptied, and the IDENTITY offered (R10, R27). -/
def State.cutOff (s : State) : State := offerIdentity (busRestart s)

theorem restart_eq (s : State) : restart s = fanOut otherBlocks takeRestart s.cutOff := rfl

/-- One block's restart stands between two runs of the others. -/
theorem restarts_split (k : Block) (s : State) : ∃ before after, k ∉ before ∧ k ∉ after ∧ (before ++ k :: after).Perm otherBlocks ∧
    fanOut otherBlocks takeRestart s = forEach after takeRestart (takeRestart k (forEach before takeRestart s)) := by
  obtain ⟨before, after, order, split⟩ := fanOut_around (mem_otherBlocks k) takeRestart s
  have distinct := order.nodup_iff.2 (by decide : otherBlocks.Nodup)
  rw [List.nodup_middle, List.nodup_cons, List.mem_append, not_or] at distinct
  obtain ⟨⟨notBefore, notAfter⟩, -⟩ := distinct
  exact ⟨before, after, notBefore, notAfter, order, split⟩

theorem restarts_frame (s : State) : RestartFrame s (fanOut otherBlocks takeRestart s) :=
  fanOut_rel RestartFrame .refl .trans _ takeRestart_frame _ s

theorem restarts_intake (s : State) : (fanOut otherBlocks takeRestart s).intake = Intake.empty :=
  fanOut_part (Q := fun _ => True) State.intake _ .intake (fun _ _ _ => trivial) (fun _ _ => rfl)
    (fun _ t other => (takeRestart_table other t).intake) (mem_otherBlocks _) trivial

theorem restarts_peers (s : State) : (fanOut otherBlocks takeRestart s).peers =
    { slots := List.replicate 32 none, pointer := 0, sweepTimer := some (s.now + 2000) } := by
  refine fanOut_part (Q := fun t => t.now = s.now) State.peers _ .peers (fun k t same => (takeRestart_frame k t).now.trans same)
    (fun t same => ?_) (fun _ t other => takeRestart_peers other t) (mem_otherBlocks _) rfl
  exact (deliver_peers _ t).trans (congrArg (fun n => ({ PeerTable.empty with sweepTimer := some (n + 2000) } : PeerTable)) same)

/-- The alerts a restart may move. -/
theorem takeRestart_alerts (k : Block) (h : AlertsKept [.peerTableFull, .damperFault, .shortfall, .sunLost] u s) :
    AlertsKept [.peerTableFull, .damperFault, .shortfall, .sunLost] u (takeRestart k s) := by
  have closed := alertsKept_closed [.peerTableFull, .damperFault, .shortfall, .sunLost] u
  cases k with
  | intake => exact closed.intakeRestart (by decide) (by decide) h
  | peers => exact closed.deliver (by decide) (by decide) (by decide) (by decide) _ h
  | air => exact closed.airRestart (by decide) (by decide) h
  | light => exact closed.light _ h
  | blind => exact closed.blindRestart h
  | panel => exact closed.panel _ (closed.endIfOn (by decide) (by decide) _ h)
  | clock | session | counter | alert => exact h

theorem restarts_alerts (s : State) :
    AlertsKept [.peerTableFull, .damperFault, .shortfall, .sunLost] s (fanOut otherBlocks takeRestart s) :=
  fanOut_keeps _ _ (fun k _ => takeRestart_alerts k) _ _ (AlertsKept.refl _ s)

/-- The table emptied is not full. -/
theorem emptied_notFull (s : State) : s.emptied.isRaised .peerTableFull = false := by
  unfold State.emptied
  rw [isRaised_clear]
  exact Bool.and_false _

theorem emptied_alerts (k : Block) (h : AlertsKept [.damperFault, .shortfall, .sunLost] u s) :
    AlertsKept [.damperFault, .shortfall, .sunLost] u (takeNotice .emptied k s) :=
  (alertsKept_closed _ u).takeNotice (by decide) (by decide) (by decide) .emptied k h

theorem peersRestart_notFull (s : State) : (peersRestart s).isRaised .peerTableFull = false := by
  have noticed : AlertsKept [.damperFault, .shortfall, .sunLost] s.emptied (peersRestart s) := by
    rw [peersRestart_eq]
    exact fanOut_keeps (AlertsKept [.damperFault, .shortfall, .sunLost] s.emptied) (takeNotice .emptied)
      (fun k _ => emptied_alerts k) [.air, .blind] s.emptied (AlertsKept.refl _ _)
  exact (noticed .peerTableFull (by decide)).trans (emptied_notFull s)

theorem takeRestart_notFull {k : Block} (other : k ≠ .peers) (s : State) :
    (takeRestart k s).isRaised .peerTableFull = s.isRaised .peerTableFull := by
  have closed := alertsKept_closed [.damperFault, .shortfall, .sunLost] s
  have kept : AlertsKept [.damperFault, .shortfall, .sunLost] s s := .refl _ s
  have moved : AlertsKept [.damperFault, .shortfall, .sunLost] s (takeRestart k s) := by
    cases k with
    | intake => exact closed.intakeRestart (by decide) (by decide) kept
    | peers => exact absurd rfl other
    | air => exact closed.airRestart (by decide) (by decide) kept
    | light => exact closed.light _ kept
    | blind => exact closed.blindRestart kept
    | panel => exact closed.panel _ (closed.endIfOn (by decide) (by decide) _ kept)
    | clock | session | counter | alert => exact kept
  exact moved .peerTableFull (by decide)

theorem restarts_notFull (s : State) : (fanOut otherBlocks takeRestart s).isRaised .peerTableFull = false := by
  refine fanOut_brings_under (act := takeRestart) (Q := fun _ => True) (P := fun t => t.isRaised .peerTableFull = false) .peers
    (fun _ _ _ => trivial) (fun t _ => peersRestart_notFull t) (fun k t other _ clear => ?_) (mem_otherBlocks _) trivial
  exact (takeRestart_notFull other t).trans clear

/-! ### Override (R167, R173) -/

/-- Override is OFF and no key blinks. -/
def State.Unpressed (s : State) : Prop := s.panel.on = false ∧ s.panel.blinkTimer = none

theorem endIfOn_unpressed (cause : OverrideCause) (h : s.Unpressed) : (endIfOn cause s).Unpressed := by
  refine ite_keeps (P := State.Unpressed) ?_ (ite_keeps (P := State.Unpressed) h h)
  unfold State.Unpressed
  rw [endOverride_panel_eq]
  exact ⟨rfl, h.2⟩

theorem publishRegime_unpressed (minute : Nat) (h : s.Unpressed) : (publishRegime minute s).Unpressed := by
  have kept {r v : State} (same : v.panel = r.panel) (h : r.Unpressed) : v.Unpressed := by
    unfold State.Unpressed
    rw [same]
    exact h
  unfold publishRegime
  dsimp only
  refine ite_keeps (P := State.Unpressed) (fanOut_keeps State.Unpressed _ (fun b t h => ?_) _ _ h) h
  cases b with
  | air => exact kept (airRegime_frame _ t).panel h
  | light => exact kept (lightRegime_only _ t).panel h
  | blind => exact kept (blindRegime_frame _ t).panel h
  | panel =>
    show (panelRegime _ t).Unpressed
    rw [panelRegime_eq]
    exact ite_keeps (P := State.Unpressed) (endIfOn_unpressed _ h) h
  | clock | intake | session | counter | peers | alert => exact h

theorem unpressed_engineKeeps : EngineKeeps State.Unpressed where
  aside h p := by
    unfold State.Unpressed
    rw [h.panel]
    exact p
  regime minute p := publishRegime_unpressed minute p
  ends cause p := endIfOn_unpressed cause p
  record p := p

theorem peersRestart_panel (s : State) : (peersRestart s).panel = s.panel :=
  peersRestart_elim (P := fun t => t.panel = s.panel) ((blindNotice_frame _ _).panel.trans (airClaimNotice_frame _).panel)
    ((airClaimNotice_frame _).panel.trans (blindNotice_frame _ _).panel)

/-- Beside the Intake and the Override Panel, no block's restart reaches override. -/
theorem takeRestart_panel {k : Block} (intake : k ≠ .intake) (panel : k ≠ .panel) (s : State) : (takeRestart k s).panel = s.panel := by
  cases k with
  | intake => exact absurd rfl intake
  | panel => exact absurd rfl panel
  | peers => exact peersRestart_panel s
  | air => exact (airRestart_frame s).panel
  | light => rfl
  | blind => exact (blindRestart_frame s).panel
  | clock | session | counter | alert => rfl

theorem restarts_unpressed (s : State) : (fanOut otherBlocks takeRestart s).Unpressed := by
  refine fanOut_brings_under (Q := fun _ => True) (P := State.Unpressed) (act := takeRestart) .panel (fun _ _ _ => trivial)
    (fun t _ => ⟨endIfOn_off .restart t, rfl⟩) (fun k t other _ h => ?_) (mem_otherBlocks _) trivial
  by_cases intake : k = .intake
  · subst intake
    exact unpressed_engineKeeps.intakeRestart h
  · unfold State.Unpressed
    rw [takeRestart_panel intake other]
    exact h

/-! ### The held clock events (R42, R59, R71) -/

/-- The Intake's restart stands between blocks that leave the session and the Intake alone. -/
theorem restarts_release (s : State) : ∃ r, TableFrame s.released r ∧
    (fanOut otherBlocks takeRestart s).session = (forEach s.intake.heldEvents takeClockEvent (catchUp r)).session := by
  obtain ⟨before, after, notBefore, notAfter, -, split⟩ := restarts_split .intake s
  have run (blocks : List Block) (free : .intake ∉ blocks) (t : State) : TableFrame t (forEach blocks takeRestart t) :=
    forEach_induct (P := TableFrame t) (fun k mem v held => held.trans (takeRestart_table (fun same => free (same ▸ mem)) v)) (.refl t)
  have first := run before notBefore s
  have last := run after notAfter (intakeRestart (forEach before takeRestart s))
  refine ⟨(forEach before takeRestart s).released, ?_, ?_⟩
  · have moved : RoomFrame (s.setPeers (forEach before takeRestart s).peers) (forEach before takeRestart s) := first
    have same := moved.intake
    exact { moved with intake := by rw [State.released, State.setIntake_intake, same]; rfl }
  · rw [split]
    refine last.session.trans ?_
    rw [intakeRestart_eq, State.setIntake_session, first.intake]

theorem takeClockEvent_catchUp (e : ClockEvent) (s : State) : (takeClockEvent e s).session.catchUp = s.session.catchUp := by
  cases e with
  | minute m =>
    show (takeMinute m s).session.catchUp = s.session.catchUp
    unfold takeMinute
    dsimp only
    rw [finishWork_derived]
    exact ite_keeps (P := fun t : State => t.session.catchUp = s.session.catchUp) rfl rfl
  | jump old _ new _ isForward =>
    show (takeJump old new isForward s).session.catchUp = s.session.catchUp
    unfold takeJump
    rw [finishWork_derived]
    rfl

theorem catchUp_clears (s : State) : (catchUp s).session.catchUp = false := by
  cases due : s.session.catchUp with
  | false => rw [catchUp_of_clear due, due]
  | true => exact (catchUp_session_of_due due).1

/-- The catch-up has been made once the held events are released. -/
theorem releases_catchUp (events : List ClockEvent) (s : State) : (forEach events takeClockEvent (catchUp s)).session.catchUp = false :=
  forEach_keeps (fun t => t.session.catchUp = false) takeClockEvent (fun e t held => (takeClockEvent_catchUp e t).trans held) _ _
    (catchUp_clears s)

theorem releases_last (earlier : List ClockEvent) (e : ClockEvent) (s : State) :
    (forEach (earlier ++ [e]) takeClockEvent s).session.lastMinute = some e.newMinute := by
  rw [show forEach (earlier ++ [e]) takeClockEvent s = takeClockEvent e (forEach earlier takeClockEvent s) from List.foldl_append ..]
  exact takeClockEvent_lastMinute e _

end Restart

end Sys2Proof.Machine
end

section
/-!
PROOFS. What a SERVICE RESTART offers behind the IDENTITY, in every order of the blocks: at most a CLAIM, the FEEDER ENDs owed and three FEEDER
STARTs (R10, R27, R126, R157, R163).
-/

namespace Sys2Proof.Machine

section Restart

variable {s t u : State}

/-! ### The walk of the blocks -/

/-- The frames a block's restart may offer beside a CLAIM and the FEEDER ENDs owed. -/
def restartCost (k : Block) : Nat := if k ∈ [.peers, .blind, .panel] then 1 else 0

theorem takeRestart_caught (k : Block) (caught : s.Caught) : (takeRestart k s).Caught := by
  by_cases intake : k = .intake
  · subst intake
    rw [takeRestart, intakeRestart_of_caught caught]
    exact ⟨caught.1, rfl⟩
  · have table := takeRestart_table intake s
    unfold State.Caught
    rw [table.session, table.intake]
    exact caught

theorem recomputeGlare_settled_once (s : State) : Once s (blindNotice .emptied s) := (recomputeGlare_once s).settle _ _

theorem peersRestart_books (s : State) : Books 1 s (peersRestart s) := by
  have emptied : Books 0 s s.emptied := Feeds.books (.of_same rfl rfl rfl rfl)
  have noticed (r : State) : Books 1 r (blindNotice .emptied r) := (recomputeGlare_settled_once r).feeds.books.weaken (askable_le r)
  exact (emptied.trans (peersRestart_elim (P := Books 1 s.emptied) ((airClaimNotice_bids _).books.trans (noticed _))
    ((noticed _).trans (airClaimNotice_bids _).books))).weaken (Nat.le_refl 1)

theorem takeRestart_books (k : Block) (caught : s.Caught) : Books (restartCost k) s (takeRestart k s) := by
  cases k with
  | intake =>
    rw [takeRestart, intakeRestart_of_caught caught]
    exact Feeds.books (n := 0) (.of_same rfl rfl rfl rfl)
  | peers => exact peersRestart_books s
  | air => exact (airRestart_bids s).books
  | light => exact Feeds.books (n := 0) (.of_same rfl rfl rfl rfl)
  | blind => exact (blindRestart_once s).feeds.books.weaken (askable_le s)
  | panel =>
    have blink : Feeds 0 (endIfOn .restart s) (panelRestart s) := .of_same rfl rfl rfl rfl
    exact ((endIfOn_books .restart s).trans blink.books).weaken (askable_le s)
  | clock | session | counter | alert => exact .refl s

theorem forEach_restart_books : ∀ (blocks : List Block) (s : State), s.Caught →
    Books (blocks.map restartCost).sum s (forEach blocks takeRestart s) ∧ (forEach blocks takeRestart s).Caught
  | [], s, caught => ⟨.refl s, caught⟩
  | k :: rest, s, caught => by
    rw [List.map_cons, List.sum_cons]
    obtain ⟨later, last⟩ := forEach_restart_books rest (takeRestart k s) (takeRestart_caught k caught)
    exact ⟨(takeRestart_books k caught).trans later, last⟩

theorem restartCost_sum {blocks : List Block} (order : blocks.Perm otherBlocks) : (blocks.map restartCost).sum = 3 :=
  (order.map restartCost).sum_eq

theorem restarts_books (caught : s.Caught) : Books 3 s (fanOut otherBlocks takeRestart s) := by
  have order := permute_perm s.order otherBlocks
  rw [← restartCost_sum order]
  exact (forEach_restart_books _ s caught).1

/-! ### The kinds that wait -/

/-- Every frame of the queue is of a kind that a restart offers. -/
def RestartKinds (q : List Frame) : Prop := ∀ f ∈ q, f.kind ∈ [Kind.identity, .claim, .feederStart, .feederEnd]

theorem restartKinds_durable : Durable RestartKinds where
  join kind holds f mem := by
    rcases List.mem_append.1 mem with before | last
    · exact holds f before
    · rw [List.mem_singleton.1 last]
      exact List.mem_cons_of_mem _ kind
  recast {before after w body} claim holds f mem := by
    rcases List.mem_append.1 mem with left | right
    · exact holds f (List.mem_append_left _ left)
    rcases List.mem_cons.1 right with rfl | right
    · rw [show ({ w with body := body } : Frame).kind = w.kind from rfl, claim]
      decide
    · exact holds f (List.mem_append_right _ (List.mem_cons_of_mem _ right))

/-! ### The queue of a restart -/

/-- The Bus Port of a restart: on a BUSY line with the IDENTITY alone, under its hold (R10, R27). -/
theorem cutOff_eq {address : Byte} (addressed : s.loader.address = some address) (up : s.started = true) (busy : s.bus.line = .busy) :
    s.cutOff = s.setBus { s.bus with
      queue := [s.identity address], transmitter := .idle, attempts := 0, hold := true
      quietTimer := if s.bus.transmitter.isSending then some (s.now + 2) else s.bus.quietTimer } :=
  offerIdentity_waits (s := busRestart s) addressed up busy rfl

theorem claimRoom_le (b : BusPort) : b.claimRoom ≤ 1 := by
  unfold BusPort.claimRoom
  split <;> decide

theorem spare_of_identity {id : Frame} (busy : s.bus.line = .busy) (queue : s.bus.queue = [id])
    (few : s.blind.drives.length ≤ 4) : Spare 3 s := by
  refine ⟨busy, ?_⟩
  have owed := length_owed_le s
  have claim := claimRoom_le s.bus
  rw [queue, List.length_singleton]
  omega

/-- The IDENTITY waits first, and behind it nothing but what a restart offers. -/
theorem restarts_queue {address : Byte} (addressed : s.loader.address = some address) (busy : s.bus.line = .busy)
    (queue : s.bus.queue = [s.identity address]) (hold : s.bus.hold = true) (few : s.blind.drives.length ≤ 4) (caught : s.Caught) :
    IdentityWaits (fanOut otherBlocks takeRestart s) ∧ RestartKinds (fanOut otherBlocks takeRestart s).bus.queue := by
  have books := restarts_books caught
  have spare := spare_of_identity busy queue few
  have loader := (restarts_frame s).loader
  have same : (fanOut otherBlocks takeRestart s).identity address = s.identity address := by
    unfold State.identity
    rw [loader]
  constructor
  · refine identityWaits_of_waits (address := address) (by rw [loader]; exact addressed) ?_
    rw [same]
    exact books.waits rfl spare ⟨hold, by rw [queue]; rfl⟩
  · obtain ⟨q, bus, kept, -⟩ := books.bus spare
    rw [bus]
    refine kept restartKinds_durable ?_
    rw [queue]
    intro f mem
    rw [List.mem_singleton.1 mem]
    exact List.mem_cons_self

/-- On a BUSY line no block's restart sends. -/
theorem restarts_silent (silent : s.bus.Silent) : (fanOut otherBlocks takeRestart s).bus.Silent :=
  fanOut_keeps (fun t => t.bus.Silent) takeRestart (fun k _ => silent_offersOnly.takeRestart k) otherBlocks s silent

/-! ### No group backs off (R156, R157) -/

theorem AdmittingOnce.after_books (quiet : Books 0 s t) (backoffs : s.blind.backoffs = [] → t.blind.backoffs = [])
    (calm : AdmittingOnce t u) : AdmittingOnce s u :=
  fun spare taken none => calm (quiet.spare (by rw [Nat.zero_add]; exact spare))
    (by rw [takesOffer_of_loader quiet.loader]; exact taken) (backoffs none)

theorem AdmittingOnce.then_same (calm : AdmittingOnce s t) (same : u.blind.backoffs = t.blind.backoffs) : AdmittingOnce s u :=
  fun spare taken none => same.trans (calm spare taken none)

theorem applied_admittingOnce (s : State) : AdmittingOnce s (takeTargets (s.applying s.wanted)) :=
  .after (t := s.applying s.wanted) (.of_same rfl rfl rfl rfl) id (takeTargets_admittingOnce _)

theorem policyEvent_admittingOnce (glare : Bool) (s : State) : AdmittingOnce s (policyEvent glare s) := by
  rw [policyEvent_eq]
  refine ite_keeps (P := AdmittingOnce s) (.of_same rfl) (ite_keeps (P := AdmittingOnce s) (.of_same rfl)
    (ite_keeps (P := AdmittingOnce s) (.of_same rfl) ?_))
  rw [applyWanted_rework]
  exact applied_admittingOnce s

theorem recomputeGlare_admittingOnce (s : State) : AdmittingOnce s (recomputeGlare s) := by
  by_cases fresh : s.freshSet = []
  · rw [recomputeGlare_of_empty fresh]
    exact .of_same rfl
  · rw [recomputeGlare_of_fresh fresh, setGlare_eq]
    refine ite_keeps (P := AdmittingOnce s) (.of_same rfl) ?_
    exact .after (t := (sunHeard s).judging (median s.freshSet)) (.of_same rfl rfl rfl rfl) id (policyEvent_admittingOnce true _)

theorem blindNotice_emptied_admittingOnce (s : State) : AdmittingOnce s (blindNotice .emptied s) :=
  (recomputeGlare_admittingOnce s).settle (recomputeGlare_once s) _ _

theorem peersRestart_admittingOnce (s : State) : AdmittingOnce s (peersRestart s) := by
  refine .after (t := s.emptied) (.of_same rfl rfl rfl rfl) id (peersRestart_elim (P := AdmittingOnce s.emptied) ?_ ?_)
  · exact .after_books (airClaimNotice_bids _).books (by rw [(airClaimNotice_bids s.emptied).blind]; exact id)
      (blindNotice_emptied_admittingOnce _)
  · exact (blindNotice_emptied_admittingOnce _).then_same (by rw [(airClaimNotice_bids _).blind])

theorem endIfOn_admittingOnce (cause : OverrideCause) (s : State) : AdmittingOnce s (endIfOn cause s) := by
  have only := returnOffset_only s.panel (resetOverride cause 0 s)
  have boosted := returnBoost_air_frame s.panel (returnOffset s.panel (resetOverride cause 0 s))
  have blind : (returnBoost s.panel (returnOffset s.panel (resetOverride cause 0 s))).blind = s.blind := boosted.blind.trans only.blind
  have books : Books 0 s (returnBoost s.panel (returnOffset s.panel (resetOverride cause 0 s))) :=
    ((resetOverride_feeds cause 0 s).trans (returnOffset_feeds s.panel _)).books.trans
      (ite_keeps (P := Books 0 (returnOffset s.panel (resetOverride cause 0 s))) (airBoost_bids false _).books (.refl _))
  refine ite_keeps (P := AdmittingOnce s) (.after_books books (by rw [blind]; exact id) ?_)
    (ite_keeps (P := AdmittingOnce s) (.of_same rfl) (.of_same rfl))
  refine ite_keeps (P := AdmittingOnce _) ?_ (.of_same rfl)
  exact .after (withBlind_feeds ({ · with override := none }) _ rfl rfl) id (policyEvent_admittingOnce false _)

/-- Once the Blind Controller has restarted, no group backs off in a queue with room. -/
theorem takeRestart_admitting {k : Block} {n : Nat} (other : k ≠ .blind) (caught : s.Caught) (spare : Spare (restartCost k + n) s)
    (taken : s.takesOffer .feederStart = true) (none : s.blind.backoffs = []) : (takeRestart k s).blind.backoffs = [] := by
  cases k with
  | blind => exact absurd rfl other
  | intake =>
    rw [takeRestart, intakeRestart_of_caught caught]
    exact none
  | peers => exact peersRestart_admittingOnce s (spare.less (Nat.le_add_right _ _)) taken none
  | panel => exact (endIfOn_admittingOnce .restart s).then_same (u := panelRestart s) rfl (spare.less (Nat.le_add_right _ _)) taken none
  | air => exact (congrArg Blind.backoffs (airRestart_frame s).blind).trans none
  | light | clock | session | counter | alert => exact none

theorem forEach_restart_admitting : ∀ (blocks : List Block) (s : State), .blind ∉ blocks → s.Caught → Spare (blocks.map restartCost).sum s →
    s.takesOffer .feederStart = true → s.blind.backoffs = [] → (forEach blocks takeRestart s).blind.backoffs = []
  | [], _, _, _, _, _, empty => empty
  | k :: rest, s, free, caught, spare, taken, empty => by
    rw [List.map_cons, List.sum_cons] at spare
    have books := takeRestart_books k caught
    refine forEach_restart_admitting rest (takeRestart k s) (fun mem => free (List.mem_cons_of_mem _ mem)) (takeRestart_caught k caught)
      (books.spare spare) (by rw [takesOffer_of_loader books.loader]; exact taken) ?_
    exact takeRestart_admitting (fun same => free (same ▸ List.mem_cons_self)) caught spare taken empty

theorem stoodDown_feeds (s : State) : Feeds 0 s (stoodDown s) :=
  ((cutRunning_feeds s).trans (withBlind_feeds ({ · with orphans := [] }) _ rfl rfl)).trans ((dropHand_feeds _).trans (standDown_feeds _))

/-- The Blind Controller's own restart lets no group back off in a queue with room (R163). -/
theorem blindRestart_admitting (spare : Spare 1 s) (taken : s.takesOffer .feederStart = true) : (blindRestart s).blind.backoffs = [] := by
  have empty : (stoodDown s).blind.backoffs = [] := (congrArg Blind.backoffs (stoodDown_blind s) :).trans rfl
  have feeds := stoodDown_feeds s
  cases asserted : s.blind.emergency with
  | true =>
    rw [blindRestart_of_asserted asserted]
    exact empty
  | false =>
    rw [blindRestart_of_released asserted]
    exact applied_admittingOnce (stoodDown s) (feeds.books.spare (by rw [Nat.zero_add]; exact spare))
      (by rw [takesOffer_of_loader feeds.loader]; exact taken) empty

theorem restarts_backoffs (caught : s.Caught) (spare : Spare 3 s) (taken : s.takesOffer .feederStart = true) :
    (fanOut otherBlocks takeRestart s).blind.backoffs = [] := by
  obtain ⟨before, after, -, free, order, split⟩ := restarts_split .blind s
  have cost := restartCost_sum order
  rw [List.map_append, List.sum_append, List.map_cons, List.sum_cons] at cost
  obtain ⟨first, there⟩ := forEach_restart_books before s caught
  have room : Spare (1 + (after.map restartCost).sum) (forEach before takeRestart s) := first.spare (spare.less (by
    have : restartCost .blind = 1 := rfl
    omega))
  have admits : (forEach before takeRestart s).takesOffer .feederStart = true := by rw [takesOffer_of_loader first.loader]; exact taken
  have books := takeRestart_books .blind there
  rw [split]
  exact forEach_restart_admitting after _ free (takeRestart_caught .blind there) (books.spare room)
    (by rw [takesOffer_of_loader books.loader]; exact admits) (blindRestart_admitting (room.less (Nat.le_add_right _ _)) admits)

end Restart

end Sys2Proof.Machine
end

section
/-!
PROOFS. The Blind Controller after a SERVICE RESTART of the whole station, while the line is released and no clock event is held (R133, R140,
R149, R154, R157, R163).
-/

namespace Sys2Proof.Machine

section Restart

variable {s t u : State}

/-! ### A restart in progress -/

/-- The glare state is as it was, or as the emptied table leaves it. -/
def GlareAmid (suns : List Nat) (held now : Bool) : Prop := now = held ∨ now = glaringOf suns held

theorem GlareAmid.again {held now later : Bool} (h : GlareAmid suns held now) (k : GlareAmid suns now later) : GlareAmid suns held later := by
  unfold GlareAmid at *
  rcases h with rfl | rfl
  · exact k
  · rw [glaringOf_again, or_self] at k
    exact .inr k

/-- A restart in progress, while the line is released and no clock event is held. -/
structure Amid (s u : State) : Prop extends Beside s u where
  caught : u.Caught
  glaring : GlareAmid s.blind.ownSuns s.blind.glaring u.blind.glaring

theorem Amid.refl (caught : s.Caught) : Amid s s := ⟨.refl s, caught, .inl rfl⟩

theorem Amid.released (h : Amid s u) (released : s.blind.emergency = false) : u.blind.emergency = false :=
  (congrArg Blind.emergency h.steady :).trans released

theorem Amid.own (h : Amid s u) : u.blind.ownSuns = s.blind.ownSuns := ownSuns_of_steady h.steady

theorem blindRestart_glaring (released : s.blind.emergency = false) : (blindRestart s).blind.glaring = s.blind.glaring := by
  have policy : (blindRestart s).blind.policy = ((stoodDown s).applying (stoodDown s).wanted).blind.policy := by
    rw [blindRestart_of_released released]
    exact takeTargets_policy _
  have down : (stoodDown s).blind.glaring = s.blind.glaring := (congrArg Blind.glaring (stoodDown_blind s) :)
  exact (congrArg Blind.glaring policy :).trans down

theorem takeRestart_glareAmid (k : Block) (caught : s.Caught) (released : s.blind.emergency = false) :
    GlareAmid s.blind.ownSuns s.blind.glaring (takeRestart k s).blind.glaring := by
  by_cases blind : k = .blind
  · subst blind
    exact .inl (blindRestart_glaring released)
  · exact (takeRestart_alongside blind caught rfl).glaring

theorem Amid.step (k : Block) (released : s.blind.emergency = false) (h : Amid s u) : Amid s (takeRestart k u) where
  toBeside := h.toBeside.trans (takeRestart_beside k h.caught (h.released released))
  caught := takeRestart_caught k h.caught
  glaring := by
    have next := takeRestart_glareAmid k h.caught (h.released released)
    rw [h.own] at next
    exact h.glaring.again next

theorem restarts_amid (released : s.blind.emergency = false) (caught : s.Caught) : Amid s (fanOut otherBlocks takeRestart s) :=
  fanOut_keeps (Amid s) takeRestart (fun k _ => .step k released) otherBlocks s (.refl caught)

/-- What the Blind Controller's restart brings in a restart in progress, and the other blocks keep, holds after the restart. -/
theorem restarts_bring {P : State → Prop} (released : s.blind.emergency = false) (caught : s.Caught)
    (bring : ∀ u, Amid s u → P (blindRestart u))
    (keep : ∀ k u, k ≠ .blind → Amid s u → P u → P (takeRestart k u)) : P (fanOut otherBlocks takeRestart s) :=
  fanOut_brings_under (act := takeRestart) (Q := Amid s) (P := P) .blind (fun k _ => .step k released) bring keep
    (mem_otherBlocks _) (.refl caught)

theorem restarts_restarted (released : s.blind.emergency = false) (caught : s.Caught) : Restarted (fanOut otherBlocks takeRestart s) :=
  restarts_bring released caught (fun _ amid => blindRestart_restarted (amid.released released))
    fun k _ _ amid held => (takeRestart_beside k amid.caught (amid.released released)).restarted held

theorem restarts_wants (released : s.blind.emergency = false) (caught : s.Caught) : (fanOut otherBlocks takeRestart s).WantsNow :=
  restarts_bring released caught (fun _ amid => blindRestart_wants (amid.released released))
    fun _ _ other amid wants => (takeRestart_alongside other amid.caught rfl).wants wants

/-- The emptied table decides the glare state (R90, R145). -/
theorem restarts_glaring (released : s.blind.emergency = false) (caught : s.Caught) :
    (fanOut otherBlocks takeRestart s).blind.glaring = glaringOf s.blind.ownSuns s.blind.glaring := by
  refine fanOut_brings_under (act := takeRestart) (Q := Amid s)
    (P := fun t => t.blind.glaring = glaringOf s.blind.ownSuns s.blind.glaring) .peers (fun k _ => .step k released) (fun u amid => ?_)
    (fun k u _ amid held => ?_) (mem_otherBlocks _) (.refl caught)
  · have heard : (takeRestart .peers u).blind.glaring = glaringOf s.blind.ownSuns u.blind.glaring := (peersRestart_alongside amid.own).2
    rw [heard]
    rcases amid.glaring with same | moved
    · rw [same]
    · rw [moved, glaringOf_again]
  · have next := takeRestart_glareAmid k amid.caught (amid.released released)
    rw [amid.own, held, GlareAmid, glaringOf_again, or_self] at next
    exact next

/-- While the glare state stands, or no session is held, the wanted target is applied (R149). -/
theorem restarts_follow (released : s.blind.emergency = false) (caught : s.Caught)
    (free : glaringOf s.blind.ownSuns s.blind.glaring = s.blind.glaring ∨ s.blind.regime ≠ .inSession) :
    (fanOut otherBlocks takeRestart s).blind.Follows := by
  refine restarts_bring (P := fun t => t.blind.Follows) released caught (fun _ amid => blindRestart_follows (amid.released released))
    fun k u other amid follows => ?_
  have regime : u.blind.regime = s.blind.regime := (congrArg Blind.regime amid.steady :)
  refine (takeRestart_alongside other amid.caught amid.own).follows (amid.released released) ?_ follows
  rw [regime]
  refine free.imp_left fun same => ?_
  rcases amid.glaring with held | moved
  · rw [held, same]
  · rw [moved, glaringOf_again]

/-! ### The orphaned starts (R157, R163) -/

/-- Every orphaned start is the one in hand before, or of a START made since. -/
def OwnOrphans (s t : State) : Prop :=
  ∀ o ∈ t.blind.orphans, s.blind.nextTag ≤ o.tag ∨ ∃ group, s.blind.hand = .awaiting group o.drives o.tag

/-- A start in hand along the way is the one before, or follows a START made since. -/
theorem Tagged.awaits (h : Tagged s u) {group drives tag : Nat} (awaits : u.blind.hand = .awaiting group drives tag) :
    s.blind.nextTag ≤ tag ∨ ∃ group, s.blind.hand = .awaiting group drives tag := by
  rcases h.hand with same | given | ⟨group', drives', tag', awaits', own⟩
  · exact .inr ⟨group, same.symm.trans awaits⟩
  · exact nomatch given.symm.trans awaits
  · cases awaits'.symm.trans awaits
    exact .inl own

theorem OwnOrphans.trans (tagged : Tagged s u) (held : OwnOrphans s u) (next : Tagged u t) : OwnOrphans s t := fun o mem => by
  rcases next.orphans o mem with before | own | ⟨group, awaits⟩
  · exact held o before
  · exact .inl (tagged.next.trans own)
  · exact tagged.awaits awaits

theorem stoodDown_ownOrphans (tagged : Tagged s u) : OwnOrphans s (stoodDown u) := fun o mem => by
  rw [stoodDown_blind] at mem
  cases hand : u.blind.hand with
  | awaiting group drives tag =>
    rw [hand] at mem
    rw [List.mem_singleton.1 mem]
    exact tagged.awaits hand
  | nothing | window =>
    rw [hand] at mem
    exact nomatch mem

theorem restarts_orphans (released : s.blind.emergency = false) (caught : s.Caught) :
    OwnOrphans s (fanOut otherBlocks takeRestart s) := by
  refine restarts_bring released caught (fun u amid => ?_) fun k u _ amid held =>
    held.trans amid.tagged (takeRestart_beside k amid.caught (amid.released released)).tagged
  rw [blindRestart_of_released (amid.released released)]
  exact (stoodDown_ownOrphans amid.tagged).trans (amid.tagged.trans (stoodDown_tagged u)) (applied_beside (stoodDown u)).tagged

/-- No drive is RUNNING, SETTLING or waits for the feeder. -/
def Blind.Idle (b : Blind) : Prop := ∀ d ∈ b.drives, d.state = .stopped ∨ d.state = .waitStage

theorem takeTarget_of_idle_stage (idle : s.blind.Idle) (number : Nat) :
    (takeTarget number s).blind.Idle ∧ (takeTarget number s).blind.orphans = s.blind.orphans := by
  cases fitted : pick? s.blind.drives number with
  | none =>
    have absent : takeTarget number s = s := by rw [takeTarget, fitted]
    rw [absent]
    exact ⟨idle, rfl⟩
  | some d =>
    cases service : d.inService with
    | false =>
      rw [takeTarget_of_out fitted service]
      exact ⟨idle, rfl⟩
    | true =>
      rw [takeTarget_of_idle fitted service (idle d (mem_of_pick? fitted))]
      refine ⟨fun e mem => ?_, (retake_bare number s).orphans⟩
      rw [retake_eq fitted] at mem
      rcases mem_put mem with rfl | held
      · exact (d.idleState_cases s.blind.applied).imp_right And.left
      · exact idle e held

/-- From drives that all stand, a target orphans no start. -/
theorem takeTargets_of_idle_orphans (idle : s.blind.Idle) : (takeTargets s).blind.orphans = s.blind.orphans := by
  have taken := forEach_keeps (fun t => t.blind.Idle ∧ t.blind.orphans = s.blind.orphans) takeTarget
    (fun n t held => have ⟨still, same⟩ := takeTarget_of_idle_stage held.1 n; ⟨still, same.trans held.2⟩)
    (numbersOf s.blind.drives fun _ => true) s ⟨idle, rfl⟩
  exact (settleStage_admitting stageRounds true _).orphans.trans taken.2

/-- The start a restart finds in hand is all that it orphans. -/
theorem blindRestart_orphans (released : s.blind.emergency = false) : (blindRestart s).blind.orphans = s.blind.hand.orphan := by
  have down : (stoodDown s).blind.orphans = s.blind.hand.orphan := (congrArg Blind.orphans (stoodDown_blind s) :)
  rw [blindRestart_of_released released, takeTargets_of_idle_orphans (s := (stoodDown s).applying (stoodDown s).wanted)
    fun d mem => .inl (parked_stopped s d mem)]
  exact down

/-- Where no override target is held and the glare state stands, the blocks beside the Blind Controller leave the start in hand. -/
structure Undisturbed (s u : State) : Prop extends Amid s u where
  panel : u.panel.target = none
  stands : glaringOf s.blind.ownSuns s.blind.glaring = s.blind.glaring

theorem Undisturbed.step {k : Block} (other : k ≠ .blind) (released : s.blind.emergency = false) (h : Undisturbed s u) :
    Undisturbed s (takeRestart k u) ∧ HandKept u (takeRestart k u) ∧ (takeRestart k u).blind.orphans = u.blind.orphans := by
  have alongside := takeRestart_alongside other h.caught h.own
  have glaring : u.blind.glaring = s.blind.glaring := h.glaring.elim id fun moved => moved.trans h.stands
  exact ⟨⟨h.toAmid.step k released, alongside.panel h.panel, h.stands⟩, alongside.still h.panel (by rw [glaring]; exact h.stands)⟩

theorem Undisturbed.run {blocks : List Block} (free : .blind ∉ blocks) (released : s.blind.emergency = false) (h : Undisturbed s u) :
    Undisturbed s (forEach blocks takeRestart u) ∧ HandKept u (forEach blocks takeRestart u) ∧
      (forEach blocks takeRestart u).blind.orphans = u.blind.orphans := by
  refine forEach_induct (P := fun t => Undisturbed s t ∧ HandKept u t ∧ t.blind.orphans = u.blind.orphans) (fun k mem t held => ?_)
    ⟨h, fun _ => rfl, rfl⟩
  obtain ⟨calm, kept, orphans⟩ := held
  obtain ⟨next, stays, same⟩ := calm.step (fun blind => free (blind ▸ mem)) released
  exact ⟨next, fun held => (stays (kept held ▸ held)).trans (kept held), same.trans orphans⟩

theorem restarts_dropped (released : s.blind.emergency = false) (caught : s.Caught) (panel : s.panel.target = none)
    (stands : glaringOf s.blind.ownSuns s.blind.glaring = s.blind.glaring) (held : s.blind.hand ≠ .nothing) :
    (fanOut otherBlocks takeRestart s).blind.orphans = s.blind.hand.orphan := by
  obtain ⟨before, after, notBefore, notAfter, -, split⟩ := restarts_split .blind s
  obtain ⟨calm, kept, -⟩ := Undisturbed.run notBefore released (u := s) ⟨.refl caught, panel, stands⟩
  have amid := calm.toAmid.step .blind released
  have still : (blindRestart (forEach before takeRestart s)).panel = (forEach before takeRestart s).panel := (blindRestart_frame _).panel
  obtain ⟨-, -, orphans⟩ := Undisturbed.run notAfter released (u := takeRestart .blind (forEach before takeRestart s))
    ⟨amid, (congrArg Panel.target still :).trans calm.panel, stands⟩
  rw [split, orphans, ← kept held]
  exact blindRestart_orphans (calm.toAmid.released released)

/-! ### Where the drives stand (R151, R163) -/

/-- Where no limit can stop it and it is left within its travel, every drive has a position within its travel. -/
def PlacedWithin (s t : State) : Prop :=
  ∀ number d e, pick? s.blind.drives number = some d → pick? t.blind.drives number = some e →
    s.loader.settings.facade ≠ 0 ∨ d.limits = { openEnd := false, closedEnd := false } →
    (∀ p, d.leftAt s.now = some p → p ≤ 100) → ∀ p, e.position = some p → p ≤ 100

theorem Kindred.between (h : Kindred s t) {number : Nat} {d : Drive} (fitted : pick? s.blind.drives number = some d) :
    ∃ e, pick? t.blind.drives number = some e := by
  obtain ⟨positive, inside⟩ := pick?_eq_some_iff.1 fitted
  obtain ⟨long, -⟩ := List.getElem?_eq_some_iff.1 inside
  rw [← h.fitted] at long
  exact ⟨_, pick?_eq_some_iff.2 ⟨positive, List.getElem?_eq_getElem long⟩⟩

theorem PlacedWithin.step (h : Kindred s u) (placed : PlacedWithin s u) (k : Kindred u t) : PlacedWithin s t :=
  fun number d f before after clear within => by
    obtain ⟨e, between⟩ := h.between before
    have first := h.drives number d e before between clear within
    have bound := placed number d e before between clear within
    have later := k.drives number e f between after
    rw [h.now, h.loader, first.limits, first.place] at later
    exact (later clear within).within bound

theorem stoodDown_placed (h : Kindred s u) : PlacedWithin s (stoodDown u) := fun number d f before after clear within => by
  obtain ⟨e, between⟩ := h.between before
  have first := h.drives number d e before between clear within
  rw [stoodDown_blind, pick?_map, between, Option.map_some, Option.some_inj] at after
  subst after
  intro p place
  have left : e.leftAt u.now = some p := place
  rw [h.now, first.place] at left
  exact within p left

theorem restarts_placed (released : s.blind.emergency = false) (caught : s.Caught) :
    PlacedWithin s (fanOut otherBlocks takeRestart s) := by
  refine restarts_bring released caught (fun u amid => ?_) fun k u _ amid held =>
    held.step amid.kindred (takeRestart_beside k amid.caught (amid.released released)).kindred
  rw [blindRestart_of_released (amid.released released)]
  exact (stoodDown_placed amid.kindred).step (amid.kindred.trans (stoodDown_kindred u)) (applied_beside (stoodDown u)).kindred

/-- Every drive stands where it was left (R163). -/
theorem restarts_positions (released : s.blind.emergency = false) (caught : s.Caught) {number : Nat} {d e : Drive}
    (before : pick? s.blind.drives number = some d) (after : pick? (fanOut otherBlocks takeRestart s).blind.drives number = some e)
    (clear : s.loader.settings.facade ≠ 0 ∨ d.limits = { openEnd := false, closedEnd := false })
    (within : ∀ p, d.leftAt s.now = some p → p ≤ 100) :
    e.position = d.leftAt s.now ∧ e.travel = d.travel ∧ e.inService = d.inService ∧ e.streak = d.streak ∧ e.limits = d.limits := by
  have amid := restarts_amid released caught
  have kin := amid.kindred.drives number d e before after clear within
  have sound := (restarts_restarted released caught).sound e (mem_of_pick? after)
  rw [amid.kindred.now] at sound
  have place := sound.leftAt (restarts_placed released caught number d e before after clear within)
  exact ⟨place.symm.trans kin.place, kin.travel, kin.service, kin.streak, kin.limits⟩

/-! ### The harvest hold and the FEEDER ENDs (R133, R153, R160) -/

theorem lightRestart_hold (s : State) : (lightRestart s).light.hold = .off := by
  show (if s.light.warning.isSome then ({ s.light with hold := .off } : Light).goDark else { s.light with hold := .off }).hold = .off
  split <;> rfl

theorem restarts_hold (released : s.blind.emergency = false) (caught : s.Caught) (facade : s.loader.settings.facade ≠ 0) :
    (fanOut otherBlocks takeRestart s).light.hold = .off := by
  refine fanOut_brings_under (act := takeRestart) (Q := Amid s) (P := fun t => t.light.hold = .off) .light (fun k _ => .step k released)
    (fun u _ => lightRestart_hold u) (fun k u _ amid off => ?_) (mem_otherBlocks _) (.refl caught)
  exact (takeRestart_beside k amid.caught (amid.released released)).hold.ended (by rw [amid.kindred.loader]; exact facade) off

theorem owed_of_restarted (facade : s.loader.settings.facade ≠ 0) (restarted : Restarted s) : s.owed = [] := by
  have motors : s.blind.motors.count true = 0 := by
    rw [motors_count, List.countP_eq_zero]
    exact fun d mem runs => restarted.quiet facade d mem (beq_iff_eq.1 runs)
  have timer := restarted.hand
  unfold State.owed
  rw [motors, ite_self, List.replicate_zero, List.nil_append]
  cases hand : s.blind.hand with
  | nothing | awaiting => rfl
  | window =>
    rw [hand] at timer
    exact nomatch timer

/-- The FEEDER ENDs owed are all that are queued. -/
theorem restarts_ends (released : s.blind.emergency = false) (caught : s.Caught) (facade : s.loader.settings.facade ≠ 0)
    (spare : Spare 3 s) (taken : s.takesOffer .feederEnd = true) (empty : s.bus.ends = []) :
    ((fanOut otherBlocks takeRestart s).bus.ends).Perm s.restartEnds := by
  have books := restarts_books caught
  obtain ⟨q, -, -, paid⟩ := books.bus spare
  have perm := paid taken
  rw [empty, List.nil_append, owed_of_restarted (by rw [books.loader]; exact facade) (restarts_restarted released caught), List.append_nil,
    owed_eq_restartEnds facade] at perm
  exact perm

/-! ### The whole -/

/-- The Blind Controller restarted, from the state in which the blocks take the restart. -/
theorem restarts_blind {id : Frame} (released : s.blind.emergency = false) (caught : s.Caught) (busy : s.bus.line = .busy)
    (queue : s.bus.queue = [id]) (kind : id.kind = .identity) (addressed : s.loader.address ≠ none) :
    BlindRestarted s (fanOut otherBlocks takeRestart s) := by
  have amid := restarts_amid released caught
  have restarted := restarts_restarted released caught
  have glaring := restarts_glaring released caught
  have wants := restarts_wants released caught
  have follows := restarts_follow released caught
  have orphans := restarts_orphans released caught
  have dropped := restarts_dropped released caught
  have hold := restarts_hold released caught
  have positions := fun number d e => restarts_positions released caught (number := number) (d := d) (e := e)
  have taken (normal : s.isNormal = true) (kind : Kind) : s.takesOffer kind = true :=
    takesOffer_of_normal (Option.isSome_iff_ne_none.2 addressed) normal kind
  have backoffs (normal : s.isNormal = true) (few : s.blind.drives.length ≤ 4) :=
    restarts_backoffs caught (spare_of_identity busy queue few) (taken normal .feederStart)
  have empty : s.bus.ends = [] := by
    unfold BusPort.ends
    rw [queue, List.filter_cons_of_neg (by rw [kind]; decide)]
    rfl
  have ends (facade : s.loader.settings.facade ≠ 0) (normal : s.isNormal = true) (few : s.blind.drives.length ≤ 4) :=
    restarts_ends released caught facade (spare_of_identity busy queue few) (taken normal .feederEnd) empty
  have loader := amid.kindred.loader
  generalize fanOut otherBlocks takeRestart s = t at *
  have steady := amid.steady
  constructor
  case kept => exact ⟨(congrArg Blind.own steady :), (congrArg Blind.ageTimer steady :), (congrArg Blind.lastSent steady :),
    (congrArg Blind.sendTimer steady :), (congrArg Blind.regime steady :), (congrArg Blind.mode steady :),
    (congrArg Blind.vacant steady :), amid.released released⟩
  case wanted =>
    unfold State.WantsNow State.wanted at wants
    rw [loader] at wants
    exact wants
  case applied =>
    rw [glaring]
    exact follows
  case dwell =>
    rw [← amid.kindred.now]
    exact restarted.dwell
  case hand => exact restarted.hand
  case orphans => exact orphans
  case dropped =>
    intro panel stands
    rw [glaring] at stands
    refine ⟨fun group drives tag awaits => ?_, fun group drives held lower opened due window => ?_⟩
    · rw [dropped panel stands (by rw [awaits]; exact nofun), awaits]
      rfl
    · rw [dropped panel stands (by rw [window]; exact nofun), window]
      rfl
  case backoffs => exact backoffs
  case fitted => exact amid.kindred.fitted
  case needs => exact restarted.settled
  case drives => exact positions
  case motors => exact fun facade => ⟨restarted.quiet (by rw [loader]; exact facade), hold facade⟩
  case ends => exact ends

end Restart

end Sys2Proof.Machine
end

section
/-!
PROOFS. A SERVICE RESTART while the emergency line is asserted: the drives stop where they are, and keep still (R148, R149, R163).
-/

namespace Sys2Proof.Machine

section Restart

variable {s t u : State}

/-! ### What an asserted line keeps still -/

/-- The drives and the stage, with the target applied and its dwell. -/
def Blind.afoot (b : Blind) : Blind := { Blind.idle with
  emergency := b.emergency, drives := b.drives, hand := b.hand, backoffs := b.backoffs, applied := b.applied
  dwellTimer := b.dwellTimer, latched := b.latched }

/-- The drives, the stage, the target applied and the harvest hold stand. -/
structure Still (s t : State) : Prop where
  afoot : t.blind.afoot = s.blind.afoot
  hold : t.light.hold = s.light.hold

theorem Still.refl (s : State) : Still s s := ⟨rfl, rfl⟩

theorem Still.trans (h : Still s t) (k : Still t u) : Still s u := ⟨k.afoot.trans h.afoot, k.hold.trans h.hold⟩

theorem Still.of_same (blind : t.blind = s.blind) (hold : t.light.hold = s.light.hold) : Still s t := ⟨by rw [blind], hold⟩

theorem Still.asserted (h : Still s t) (asserted : s.blind.emergency = true) : t.blind.emergency = true :=
  (congrArg Blind.emergency h.afoot :).trans asserted

theorem AirFrame.still (h : AirFrame s t) : Still s t := .of_same h.blind (congrArg Light.hold h.light)

theorem policyEvent_still (asserted : s.blind.emergency = true) (glare : Bool) : Still s (policyEvent glare s) := by
  rw [policyEvent_of_asserted asserted]
  exact ⟨rfl, rfl⟩

theorem recomputeGlare_still (asserted : s.blind.emergency = true) : Still s (recomputeGlare s) := by
  by_cases fresh : s.freshSet = []
  · rw [recomputeGlare_of_empty fresh]
    exact ⟨rfl, rfl⟩
  · rw [recomputeGlare_of_fresh fresh, setGlare_eq]
    have judged : Still s ((sunHeard s).judging (median s.freshSet)) := ⟨rfl, rfl⟩
    exact ite_keeps (P := Still s) judged (judged.trans (policyEvent_still (by exact asserted) true))

theorem blindNotice_emptied_still (asserted : s.blind.emergency = true) : Still s (blindNotice .emptied s) := by
  have glare := recomputeGlare_still asserted
  rw [blindNotice_emptied, settleStage_of_asserted (glare.asserted asserted)]
  exact glare

theorem peersRestart_still (asserted : s.blind.emergency = true) : Still s (peersRestart s) := by
  have emptied : Still s s.emptied := ⟨rfl, rfl⟩
  have heard := (airClaimNotice_frame s.emptied).still
  exact emptied.trans (peersRestart_elim (P := Still s.emptied)
    (heard.trans (blindNotice_emptied_still (heard.asserted asserted)))
    ((blindNotice_emptied_still (by exact asserted)).trans (airClaimNotice_frame _).still))

theorem returnOffset_still (held : Panel) (s : State) : Still s (returnOffset held s) :=
  ite_keeps (P := Still s) (.refl s) ⟨rfl, rfl⟩

theorem endIfOn_still (asserted : s.blind.emergency = true) (cause : OverrideCause) : Still s (endIfOn cause s) := by
  have reset : Still s (resetOverride cause 0 s) := ⟨rfl, rfl⟩
  have boost := (reset.trans (returnOffset_still s.panel _)).trans (returnBoost_air_frame s.panel _).still
  refine ite_keeps (P := Still s) (ite_keeps (P := Still s) (boost.trans ?_) boost) (ite_keeps (P := Still s) ⟨rfl, rfl⟩ ⟨rfl, rfl⟩)
  exact Still.trans (t := withBlind ({ · with override := none }) _) ⟨rfl, rfl⟩
    (policyEvent_still (by exact boost.asserted asserted) false)

theorem rescene_hold (l : Light) (now : Nat) : (l.rescene now).hold = l.hold := by
  unfold Light.rescene
  dsimp only
  split
  · rfl
  · split
    · rfl
    · split <;> rfl

theorem takeRegime_still (asserted : s.blind.emergency = true) (n : RegimeNotice) (k : Block) : Still s (takeRegime n k s) := by
  cases k with
  | air => exact (airRegime_frame n s).still
  | light => exact .of_same rfl (rescene_hold _ _)
  | blind =>
    have noted : Still s (withBlind ({ · with regime := n.regime, mode := n.mode }) s) := ⟨rfl, rfl⟩
    exact noted.trans (policyEvent_still (by exact asserted) false)
  | panel =>
    have noted : Still s (s.setPanel { s.panel with regime := n.regime, mode := n.mode }) := ⟨rfl, rfl⟩
    show Still s (panelRegime n s)
    rw [panelRegime_eq]
    exact ite_keeps (P := Still s) (noted.trans (endIfOn_still (by exact asserted) _)) noted
  | clock | intake | session | counter | peers | alert => exact .refl s

/-- Under an asserted line, and as it stood. -/
def Grounded (s t : State) : Prop := t.blind.emergency = true ∧ Still s t

theorem Grounded.then (h : Grounded s t) (k : Still t u) : Grounded s u := ⟨k.asserted h.1, h.2.trans k⟩

/-- The Session Engine moves no drive under an asserted line (R148). -/
theorem grounded_engineKeeps (s : State) : EngineKeeps (Grounded s) where
  aside same h := h.then (.of_same same.blind (congrArg Light.hold same.light))
  regime {t} minute h := by
    unfold publishRegime
    dsimp only
    have derived {e : SessionEngine} : Grounded s (t.setSession e) := h.then ⟨rfl, rfl⟩
    exact ite_keeps (P := Grounded s) (fanOut_keeps (Grounded s) _ (fun k v held => held.then (takeRegime_still held.1 _ k)) _ _ derived)
      derived
  ends cause h := h.then (endIfOn_still h.1 cause)
  record h := h.then ⟨rfl, rfl⟩

/-- Beside the Light Controller and the Blind Controller, no block's restart moves a drive or the harvest hold. -/
theorem takeRestart_still {k : Block} (light : k ≠ .light) (blind : k ≠ .blind) (asserted : s.blind.emergency = true) :
    Still s (takeRestart k s) := by
  cases k with
  | light => exact absurd rfl light
  | blind => exact absurd rfl blind
  | intake => exact ((grounded_engineKeeps s).intakeRestart (s := s) ⟨asserted, .refl s⟩).2
  | peers => exact peersRestart_still asserted
  | air => exact (airRestart_frame s).still
  | panel => exact (endIfOn_still asserted .restart).trans ⟨rfl, rfl⟩
  | clock | session | counter | alert => exact .refl s

/-! ### The drives, wherever they are left -/

/-- The target applied with its dwell, and where the drives are left at a moment. -/
structure Blind.Remains (now : Nat) (b c : Blind) : Prop where
  emergency : c.emergency = true
  applied : c.applied = b.applied
  dwell : c.dwellTimer = b.dwellTimer
  latched : c.latched = b.latched
  places : c.drives.map (·.leftAt now) = b.drives.map (·.leftAt now)

theorem Blind.Remains.still {now : Nat} {b : Blind} (h : b.Remains now s.blind) (k : Still s t) : b.Remains now t.blind where
  emergency := k.asserted h.emergency
  applied := (congrArg Blind.applied k.afoot :).trans h.applied
  dwell := (congrArg Blind.dwellTimer k.afoot :).trans h.dwell
  latched := (congrArg Blind.latched k.afoot :).trans h.latched
  places := by
    have drives : t.blind.drives = s.blind.drives := (congrArg Blind.drives k.afoot :)
    rw [drives]
    exact h.places

theorem stoodDown_remains {b : Blind} (h : b.Remains s.now s.blind) : b.Remains s.now (stoodDown s).blind := by
  have blind := stoodDown_blind s
  refine ⟨(congrArg Blind.emergency blind :).trans h.emergency, (congrArg Blind.applied blind :).trans h.applied,
    (congrArg Blind.dwellTimer blind :).trans h.dwell, (congrArg Blind.latched blind :).trans h.latched, ?_⟩
  rw [blind, List.map_map]
  exact (List.map_congr_left fun d _ => rfl).trans h.places

theorem takeRestart_remains {b : Blind} (k : Block) (h : b.Remains s.now s.blind) : b.Remains s.now (takeRestart k s).blind := by
  by_cases light : k = .light
  · subst light
    exact h
  · by_cases blind : k = .blind
    · subst blind
      rw [takeRestart, blindRestart_of_asserted h.emergency]
      exact stoodDown_remains h
    · exact h.still (takeRestart_still light blind h.emergency)

/-- The drives rest, and no start is in hand. -/
theorem stoodDown_rests (asserted : s.blind.emergency = true) : (stoodDown s).blind.Rests := by
  have blind := stoodDown_blind s
  exact ⟨(congrArg Blind.emergency blind :).trans asserted, (congrArg Blind.hand blind :), (congrArg Blind.backoffs blind :),
    parked_stopped s⟩

theorem Still.rests (h : Still s t) (rests : s.blind.Rests) : t.blind.Rests :=
  rests.of_same (congrArg Blind.emergency h.afoot :) (congrArg Blind.hand h.afoot :) (congrArg Blind.backoffs h.afoot :)
    (congrArg Blind.drives h.afoot :)

/-- A restart under an asserted line, in progress. -/
def Parked (s u : State) : Prop := u.now = s.now ∧ s.blind.Remains s.now u.blind

theorem Parked.step (k : Block) (h : Parked s u) : Parked s (takeRestart k u) := by
  obtain ⟨now, remains⟩ := h
  refine ⟨(takeRestart_frame k u).now.trans now, ?_⟩
  rw [← now] at remains ⊢
  exact takeRestart_remains k remains

theorem restarts_rest (asserted : s.blind.emergency = true) : (fanOut otherBlocks takeRestart s).blind.Rests := by
  refine fanOut_brings_under (act := takeRestart) (Q := Parked s) (P := fun t => t.blind.Rests) .blind (fun k _ => .step k)
    (fun u parked => ?_) (fun k u other parked rests => ?_) (mem_otherBlocks _) ⟨rfl, asserted, rfl, rfl, rfl, rfl⟩
  · show (blindRestart u).blind.Rests
    rw [blindRestart_of_asserted parked.2.emergency]
    exact stoodDown_rests parked.2.emergency
  · by_cases light : k = .light
    · subst light
      exact rests
    · exact (takeRestart_still light other parked.2.emergency).rests rests

theorem restarts_hold_asserted (asserted : s.blind.emergency = true) : (fanOut otherBlocks takeRestart s).light.hold = .off := by
  refine fanOut_brings_under (act := takeRestart) (Q := Parked s) (P := fun t => t.light.hold = .off) .light (fun k _ => .step k)
    (fun u _ => lightRestart_hold u) (fun k u other parked off => ?_) (mem_otherBlocks _) ⟨rfl, asserted, rfl, rfl, rfl, rfl⟩
  by_cases blind : k = .blind
  · subst blind
    show (blindRestart u).light.hold = .off
    rw [blindRestart_of_asserted parked.2.emergency]
    exact stoodDown_hold off
  · exact (takeRestart_still other blind parked.2.emergency).hold.trans off

/-- While the line is asserted, the drives stop where they are left and keep still (R163). -/
theorem restarts_asserted (asserted : s.blind.emergency = true) :
    let t := fanOut otherBlocks takeRestart s
    (∀ d ∈ t.blind.drives, d.state = .stopped) ∧ t.light.hold = .off ∧ t.blind.hand = .nothing ∧ t.blind.backoffs = [] ∧
      t.blind.applied = s.blind.applied ∧ t.blind.dwellTimer = s.blind.dwellTimer ∧ t.blind.latched = s.blind.latched ∧
      t.blind.drives.map (·.position) = s.blind.drives.map (·.leftAt s.now) := by
  have hold := restarts_hold_asserted asserted
  have rests := restarts_rest asserted
  have parked : Parked s (fanOut otherBlocks takeRestart s) :=
    fanOut_keeps (Parked s) takeRestart (fun k _ => .step k) otherBlocks s ⟨rfl, asserted, rfl, rfl, rfl, rfl⟩
  dsimp only
  generalize fanOut otherBlocks takeRestart s = t at *
  obtain ⟨-, nothing, none, stopped⟩ := rests
  obtain ⟨-, remains⟩ := parked
  refine ⟨stopped, hold, nothing, none, remains.applied, remains.dwell, remains.latched, ?_⟩
  rw [← remains.places]
  exact List.map_congr_left fun d mem => (Drive.leftAt_of_standing (by rw [stopped d mem]; exact nofun) s.now).symm

end Restart

end Sys2Proof.Machine
end

section
/-!
PROOFS. A SERVICE RESTART while no clock event is held and no occupancy catch-up is due: the session, the lights and override (R42, R71, R140,
R172, R173).
-/

namespace Sys2Proof.Machine

section Restart

variable {s t u : State}

/-! ### The session stands -/

theorem takeRestart_caught_session (k : Block) (caught : s.Caught) : (takeRestart k s).session = s.session := by
  by_cases intake : k = .intake
  · subst intake
    rw [takeRestart, intakeRestart_of_caught caught]
    rfl
  · exact (takeRestart_table intake s).session

theorem restarts_caught_session (caught : s.Caught) : (fanOut otherBlocks takeRestart s).session = s.session := by
  have kept := fanOut_keeps (fun t => t.Caught ∧ t.session = s.session) takeRestart
    (fun k t held => ⟨takeRestart_caught k held.1, (takeRestart_caught_session k held.1).trans held.2⟩) otherBlocks s ⟨caught, rfl⟩
  exact kept.2

/-! ### The lights (R140) -/

/-- The Light Controller but for the harvest hold and the offset. -/
def Light.unadjusted (l : Light) : Light := { l with hold := .off, offset := 0 }

/-- The lights after a restart: a warning ends as at its expiry. -/
def Light.resumed (l : Light) : Light := if l.warning.isSome then l.goDark else l

theorem lightRestart_unadjusted (s : State) : (lightRestart s).light.unadjusted = s.light.unadjusted.resumed := by
  show (if s.light.warning.isSome then ({ s.light with hold := .off } : Light).goDark
    else { s.light with hold := .off }).unadjusted = s.light.unadjusted.resumed
  unfold Light.resumed
  rw [show s.light.unadjusted.warning = s.light.warning from rfl]
  split <;> rfl

theorem takeRestart_unadjusted {k : Block} (other : k ≠ .light) (caught : s.Caught) :
    (takeRestart k s).light.unadjusted = s.light.unadjusted := by
  have held {t : State} {l : Light} (light : t.light = { l with hold := t.light.hold }) : t.light.unadjusted = l.unadjusted :=
    (congrArg Light.unadjusted light :)
  cases k with
  | light => exact absurd rfl other
  | intake =>
    rw [takeRestart, intakeRestart_of_caught caught]
    rfl
  | peers =>
    show (peersRestart s).light.unadjusted = s.light.unadjusted
    refine peersRestart_elim (P := fun t => t.light.unadjusted = s.light.unadjusted) ?_ ?_
    · rw [held (blindNotice_frame .emptied _).light, (airClaimNotice_frame _).light]
      rfl
    · rw [(airClaimNotice_frame _).light, held (blindNotice_frame .emptied _).light]
      rfl
  | air => exact congrArg Light.unadjusted (airRestart_frame s).light
  | blind => exact held (blindRestart_frame s).light
  | panel =>
    obtain ⟨offset, hold, light⟩ := endIfOn_light .restart s
    exact (congrArg Light.unadjusted light :)
  | clock | session | counter | alert => rfl

theorem restarts_light (caught : s.Caught) : (fanOut otherBlocks takeRestart s).light.unadjusted = s.light.unadjusted.resumed :=
  fanOut_once (Q := State.Caught) (part := fun s => s.light.unadjusted) (change := Light.resumed) (act := takeRestart) .light
    (fun k _ => takeRestart_caught k) (fun t _ => lightRestart_unadjusted t) (fun _ _ other caught => takeRestart_unadjusted other caught)
    (by decide) (mem_otherBlocks _) caught

/-- Of the lights a restart moves the harvest hold, the offset, and what a warning holds. -/
theorem restarts_light_eq (caught : s.Caught) : (fanOut otherBlocks takeRestart s).light = { s.light with
      warning := none, hold := (fanOut otherBlocks takeRestart s).light.hold, offset := (fanOut otherBlocks takeRestart s).light.offset
      groups := if s.light.warning = none then s.light.groups else s.light.groups.map (fun g => if g.handSelect then g
        else { g with level := 0, target := 0, fade := none }) } := by
  have light := restarts_light caught
  generalize fanOut otherBlocks takeRestart s = t at *
  have whole : t.light = { t.light.unadjusted with hold := t.light.hold, offset := t.light.offset } := rfl
  refine whole.trans ?_
  rw [light, Light.resumed, show s.light.unadjusted.warning = s.light.warning from rfl]
  cases warning : s.light.warning with
  | none =>
    rw [if_neg nofun, if_pos rfl, ← warning]
    rfl
  | some due =>
    simp only [Option.isSome_some, if_true, reduceCtorEq, if_false]
    rfl

/-! ### Override (R172, R173) -/

/-- Override ends where the Override Panel takes the restart; no other block reaches it. -/
theorem restarts_override (caught : s.Caught) : ∃ u, RestartFrame s u ∧ u.panel = s.panel ∧
    (fanOut otherBlocks takeRestart s).panel = (panelRestart u).panel := by
  obtain ⟨before, after, notBefore, notAfter, -, split⟩ := restarts_split .panel s
  have run (blocks : List Block) (free : .panel ∉ blocks) {v : State} (held : v.Caught) :
      (forEach blocks takeRestart v).Caught ∧ RestartFrame v (forEach blocks takeRestart v) ∧
        (forEach blocks takeRestart v).panel = v.panel := by
    refine forEach_induct (P := fun w => w.Caught ∧ RestartFrame v w ∧ w.panel = v.panel) (fun k mem w held => ?_)
      ⟨held, .refl v, rfl⟩
    obtain ⟨caught, frame, panel⟩ := held
    refine ⟨takeRestart_caught k caught, frame.trans (takeRestart_frame k w), Eq.trans ?_ panel⟩
    by_cases intake : k = .intake
    · subst intake
      rw [takeRestart, intakeRestart_of_caught caught]
      rfl
    · exact takeRestart_panel intake (fun same => free (same ▸ mem)) w
  obtain ⟨there, frame, panel⟩ := run before notBefore caught
  obtain ⟨-, -, last⟩ := run after notAfter (takeRestart_caught .panel there)
  exact ⟨_, frame, panel, split ▸ last⟩

theorem restarts_record_of_on (caught : s.Caught) (on : s.panel.on = true) :
    (fanOut otherBlocks takeRestart s).panel.record = some { cause := .restart, value := 0, minute := s.clock.minute } := by
  obtain ⟨u, frame, panel, taken⟩ := restarts_override caught
  have ends : (endIfOn .restart u).panel.record = some { cause := .restart, value := 0, minute := u.clock.minute } := by
    rw [endIfOn_of_on (by rw [panel]; exact on), endOverride_panel_eq]
  rw [taken, ← frame.clock]
  exact ends

theorem restarts_record_of_off (caught : s.Caught) (off : s.panel.on = false) (apart : s.panel.trapAt ≠ some s.now) :
    (fanOut otherBlocks takeRestart s).panel.record = s.panel.record := by
  obtain ⟨u, frame, panel, taken⟩ := restarts_override caught
  have still : (endIfOn .restart u).panel.record = s.panel.record := by
    rw [endIfOn_of_off (by rw [panel]; exact off) (by rw [panel, frame.now]; exact apart), panel]
  rw [taken]
  exact still

/-- With override OFF no adjustment is held anywhere (R172). -/
theorem RoomLaw.unadjusted (law : RoomLaw s) (off : s.panel.on = false) :
    s.light.offset = 0 ∧ s.air.boost = false ∧ s.blind.override = none := by
  obtain ⟨offset, boost, target⟩ := law.off off
  obtain ⟨-, -, -, -, airBoost⟩ := law.air
  obtain ⟨-, -, -, lightOffset⟩ := law.light
  obtain ⟨-, -, -, override⟩ := law.blind
  exact ⟨lightOffset.trans offset, airBoost.trans boost, override.trans target⟩

end Restart

end Sys2Proof.Machine
end

section
/-!
PROOFS. The Air Controller through a SERVICE RESTART, in every order of the blocks: the figures, the grant and the rate window (R90, R108 to R110,
R114, R118, R121, R126).
-/

namespace Sys2Proof.Machine

section Restart

variable {s t u : State}

/-! ### The figures, the grant and the shortfall state (R108, R109, R118, R121) -/

/-- D and M are those the inputs give (R108, R109). -/
def State.Figured (s : State) : Prop :=
  s.air.demand = s.air.demandNow s.loader.settings ∧ s.air.minimum = s.air.minimumNow s.loader.settings

/-- What an event in a restart leaves of a station in NORMAL: an open window stays open, what is computed stays computed, and while the line is
asserted the grant stands. -/
structure AirOnward (s t : State) : Prop where
  loader : t.loader = s.loader
  emergency : t.air.emergency = s.air.emergency
  window : WindowKept s t
  figured : s.Figured → t.Figured
  viewed : s.air.emergency = false → ViewGranted s → ViewGranted t
  held : s.air.emergency = true → t.air.grant = s.air.grant ∧ t.air.command = s.air.command
  judged : ShortfallJudged s → ShortfallJudged t

theorem AirOnward.trans (h : AirOnward s t) (k : AirOnward t u) : AirOnward s u where
  loader := k.loader.trans h.loader
  emergency := k.emergency.trans h.emergency
  window := h.window.trans k.window
  figured := k.figured ∘ h.figured
  viewed released := k.viewed (h.emergency.trans released) ∘ h.viewed released
  held asserted :=
    have ⟨grant, command⟩ := h.held asserted
    have ⟨grant', command'⟩ := k.held (h.emergency.trans asserted)
    ⟨grant'.trans grant, command'.trans command⟩
  judged := k.judged ∘ h.judged

theorem State.Figured.of_computes (computes : s.air.Computes t.air) (figures : t.air.figures = s.air.figures) (loader : t.loader = s.loader)
    (figured : s.Figured) : t.Figured := by
  have demand : t.air.demand = s.air.demand := (congrArg ClaimFigures.demand figures :)
  have minimum : t.air.minimum = s.air.minimum := (congrArg ClaimFigures.minimum figures :)
  unfold State.Figured
  rw [demand, minimum, loader, computes.demandNow, computes.minimumNow]
  exact figured

theorem ViewGranted.of_same (loader : t.loader = s.loader) (claims : t.peers.claims = s.peers.claims)
    (figures : t.air.figures = s.air.figures) (grant : t.air.grant = s.air.grant) (command : t.air.command = s.air.command)
    (viewed : ViewGranted s) : ViewGranted t := by
  unfold ViewGranted
  rw [grantNow_of_same loader claims figures, grant, command, loader]
  exact viewed

theorem ShortfallJudged.of_same (shortfall : t.air.shortfall = s.air.shortfall) (now : t.air.shortNow = s.air.shortNow)
    (judged : ShortfallJudged s) : ShortfallJudged t := by
  unfold ShortfallJudged
  rw [shortfall, now]
  exact judged

/-- The Air Controller and the claims of the table stand. -/
theorem AirOnward.of_same (loader : t.loader = s.loader) (claims : t.peers.claims = s.peers.claims) (air : t.air = s.air) :
    AirOnward s t where
  loader := loader
  emergency := by rw [air]
  window := .of_same (by rw [air]) (by rw [air])
  figured := .of_computes (by rw [air]; exact .refl _) (by rw [air]) loader
  viewed _ := .of_same loader claims (by rw [air]) (by rw [air]) (by rw [air])
  held _ := by rw [air]; exact ⟨rfl, rfl⟩
  judged := .of_same (by rw [air]) (by rw [air])

/-- CLAIMs leave the figures and the grant. -/
theorem AirClaims.onward (h : AirClaims s t) (window : WindowKept s t) : AirOnward s t :=
  have ⟨grant, command, shortfall, now⟩ := h.grants
  ⟨h.loader, h.computes.inputs.emergency, window, .of_computes h.computes h.figures h.loader,
    fun _ => .of_same h.loader (by rw [h.peers]) h.figures grant command, fun _ => ⟨grant, command⟩, .of_same shortfall now⟩

theorem triggerClaim_onward (s : State) : AirOnward s (triggerClaim s) := (triggerClaim_claims s).onward (triggerClaim_windowKept s)

theorem testTrigger_onward (s : State) : AirOnward s (testTrigger s) :=
  (testTrigger_claims s).onward (ite_keeps (P := WindowKept s) (triggerClaim_windowKept s) (.refl s))

/-- The shortfall state judged, whatever was computed before. -/
theorem judged_shortfall (s : State) : ShortfallJudged (judgeShortfall s) := by
  obtain ⟨timer, record, air⟩ := judgeShortfall_air s
  unfold ShortfallJudged
  rw [air]
  rfl

theorem judgedRegrant_viewed (released : s.air.emergency = false) (normal : s.isNormal = true) : ViewGranted (judgeShortfall (regrant s)) := by
  have settles := judgedRegrant_settles s
  obtain ⟨grant, command, -⟩ := judgedRegrant_air released normal
  unfold ViewGranted
  rw [grantNow_of_same settles.loader (by rw [settles.peers]) settles.figures, settles.loader, grant, command]
  exact ⟨rfl, rfl⟩

theorem judgeShortfall_grant (s : State) : (judgeShortfall s).air.grant = s.air.grant ∧ (judgeShortfall s).air.command = s.air.command := by
  obtain ⟨timer, record, air⟩ := judgeShortfall_air s
  rw [air]
  exact ⟨rfl, rfl⟩

theorem judgedRegrant_held (asserted : s.air.emergency = true) :
    (judgeShortfall (regrant s)).air.grant = s.air.grant ∧ (judgeShortfall (regrant s)).air.command = s.air.command := by
  rw [regrant_of_held (.inl asserted)]
  exact judgeShortfall_grant s

theorem judgedRegrant_onward (normal : s.isNormal = true) : AirOnward s (judgeShortfall (regrant s)) :=
  have settles := judgedRegrant_settles s
  ⟨settles.loader, settles.airEmergency, settles.windowKept, .of_computes settles.computes settles.figures settles.loader,
    fun released _ => judgedRegrant_viewed released normal, judgedRegrant_held, fun _ => judged_shortfall _⟩

/-! ### A boost that ends (R110) -/

theorem figured_figures (s : State) : (figured s).Figured := ⟨rfl, rfl⟩

/-- The grant computed anew where the figures change, and left where they do not (R110). -/
theorem regranted_onward (normal : s.isNormal = true) : AirOnward s (regranted s) ∧ (regranted s).Figured := by
  have settles := regranted_settles s
  have figures : (regranted s).Figured := .of_computes settles.computes settles.figures settles.loader (figured_figures s)
  have noted : WindowKept s (figured s) := .of_same rfl rfl
  refine ⟨⟨settles.loader, settles.airEmergency, noted.trans settles.windowKept, fun _ => figures, fun released viewed => ?_,
    fun asserted => ?_, fun _ => judged_shortfall _⟩, figures⟩
  · by_cases same : (figured s).air.figures = s.air.figures
    · have still : regranted s = judgeShortfall (figured s) := congrArg judgeShortfall (if_pos same)
      obtain ⟨grant, command⟩ := judgeShortfall_grant (figured s)
      have settled := judgeShortfall_settles (figured s)
      rw [still]
      exact .of_same (s := s) settled.loader (by rw [settled.peers]; rfl) (settled.figures.trans same) grant command viewed
    · have moved : regranted s = judgeShortfall (regrant (figured s)) := congrArg judgeShortfall (if_neg same)
      rw [moved]
      exact judgedRegrant_viewed released normal
  · by_cases same : (figured s).air.figures = s.air.figures
    · have still : regranted s = judgeShortfall (figured s) := congrArg judgeShortfall (if_pos same)
      rw [still]
      exact judgeShortfall_grant (figured s)
    · have moved : regranted s = judgeShortfall (regrant (figured s)) := congrArg judgeShortfall (if_neg same)
      rw [moved]
      exact judgedRegrant_held (s := figured s) asserted

/-- The inputs change, and D and M with them. -/
theorem airBoost_onward (on : Bool) (normal : s.isNormal = true) : AirOnward s (airBoost on s) := by
  have moved : (s.setAir { s.air with boost := on }).isNormal = true := normal
  obtain ⟨onward, figures⟩ := regranted_onward moved
  have tested := testTrigger_onward (regranted (s.setAir { s.air with boost := on }))
  have whole := onward.trans tested
  unfold airBoost
  rw [recomputeDemand_of_normal moved]
  exact ⟨whole.loader, whole.emergency, .trans (t := s.setAir { s.air with boost := on }) (.of_same rfl rfl) whole.window,
    fun _ => tested.figured figures, fun released viewed => whole.viewed released viewed, whole.held, fun judged => whole.judged judged⟩

theorem isNormal_of_loader (loader : t.loader = s.loader) : t.isNormal = s.isNormal := by
  unfold State.isNormal
  rw [loader]

theorem endIfOn_onward (cause : OverrideCause) (normal : s.isNormal = true) : AirOnward s (endIfOn cause s) := by
  have reset : AirOnward s (resetOverride cause 0 s) := .of_same rfl rfl rfl
  have offset : AirOnward s (returnOffset s.panel (resetOverride cause 0 s)) :=
    reset.trans (ite_keeps (P := AirOnward _) (.of_same rfl rfl rfl) (.of_same rfl rfl rfl))
  have boost : AirOnward s (returnBoost s.panel (returnOffset s.panel (resetOverride cause 0 s))) :=
    offset.trans (ite_keeps (P := AirOnward _) (airBoost_onward false (by rw [isNormal_of_loader offset.loader]; exact normal))
      (.of_same rfl rfl rfl))
  have target := returnTarget_blind_frame s.panel (returnBoost s.panel (returnOffset s.panel (resetOverride cause 0 s)))
  exact ite_keeps (P := AirOnward s) (boost.trans (.of_same target.loader (congrArg PeerTable.claims target.peers) target.air))
    (ite_keeps (P := AirOnward s) (.of_same rfl rfl rfl) (.of_same rfl rfl rfl))

/-! ### The blocks -/

/-- The Air Controller's restart, before its CLAIM (R126). -/
def airRefigured (s : State) : State := judgeShortfall (regrant (computeDemand s))

theorem airRestart_of_normal (normal : s.isNormal = true) : airRestart s = triggerClaim (airRefigured s) := if_pos normal

theorem airRestart_of_fallback (other : s.isNormal = false) : airRestart s = s := if_neg (by simp [other])

theorem airRefigured_settles (s : State) : AirSettles (computeDemand s) (airRefigured s) := judgedRegrant_settles _

theorem computeDemand_figures (s : State) : (computeDemand s).Figured := ⟨rfl, rfl⟩

/-- What the Air Controller's restart brings. -/
structure Refigured (s : State) : Prop where
  figured : s.Figured
  viewed : s.air.emergency = false → ViewGranted s
  judged : ShortfallJudged s

theorem AirOnward.refigured (h : AirOnward s t) (r : Refigured s) : Refigured t :=
  ⟨h.figured r.figured, fun released => have before := h.emergency.symm.trans released; h.viewed before (r.viewed before),
    h.judged r.judged⟩

theorem airRestart_refigured (normal : s.isNormal = true) : Refigured (airRestart s) := by
  have computed : (computeDemand s).isNormal = true := normal
  have regranted := judgedRegrant_onward computed
  rw [airRestart_of_normal normal]
  exact (triggerClaim_onward _).refigured ⟨regranted.figured (computeDemand_figures s),
    fun released => judgedRegrant_viewed (regranted.emergency.symm.trans released) computed, judged_shortfall _⟩

/-- Of an open window and of the grant under an asserted line a block's restart leaves what an event leaves. -/
structure AirWalk (s t : State) : Prop where
  window : WindowKept s t
  held : s.air.emergency = true → t.air.grant = s.air.grant ∧ t.air.command = s.air.command

theorem AirOnward.walk (h : AirOnward s t) : AirWalk s t := ⟨h.window, h.held⟩

theorem airRestart_walk (normal : s.isNormal = true) : AirWalk s (airRestart s) := by
  have regranted := judgedRegrant_onward (s := computeDemand s) normal
  have tested := regranted.trans (triggerClaim_onward _)
  rw [airRestart_of_normal normal]
  exact ⟨.trans (t := computeDemand s) (.of_same rfl rfl) tested.window, tested.held⟩

/-- The table emptied moves the view: the grant is recomputed at its notice (R90, R118). -/
theorem peersRestart_air (s : State) : ∃ u, u.air = s.air ∧ u.loader = s.loader ∧ u.now = s.now ∧ u.peers = s.emptied.peers ∧
    (peersRestart s).air = (airClaimNotice u).air ∧ (peersRestart s).peers = u.peers := by
  refine peersRestart_elim (P := fun t => ∃ u, u.air = s.air ∧ u.loader = s.loader ∧ u.now = s.now ∧ u.peers = s.emptied.peers ∧
    t.air = (airClaimNotice u).air ∧ t.peers = u.peers) ?_ ?_
  · have notice := blindNotice_frame .emptied (airClaimNotice s.emptied)
    exact ⟨s.emptied, rfl, rfl, rfl, rfl, notice.air, notice.peers.trans (airClaimNotice_frame _).peers⟩
  · have notice := blindNotice_frame .emptied s.emptied
    exact ⟨_, notice.air, notice.loader, notice.now, notice.peers, rfl, (airClaimNotice_frame _).peers⟩

theorem airClaimNotice_of_normal (normal : s.isNormal = true) : airClaimNotice s = judgeShortfall (regrant s) := if_pos normal

theorem airClaimNotice_of_fallback (other : s.isNormal = false) : airClaimNotice s = s := if_neg (by simp [other])

theorem peersRestart_onward (normal : s.isNormal = true) : AirOnward s (peersRestart s) := by
  obtain ⟨u, air, loader, -, -, end_air, end_peers⟩ := peersRestart_air s
  have end_loader : (peersRestart s).loader = s.loader := (takeRestart_frame .peers s).loader
  have there : u.isNormal = true := (isNormal_of_loader loader).trans normal
  rw [airClaimNotice_of_normal there] at end_air
  have onward := judgedRegrant_onward there
  have frame := judgedRegrant_settles u
  have last : AirOnward (judgeShortfall (regrant u)) (peersRestart s) :=
    .of_same (end_loader.trans (loader.symm.trans onward.loader.symm)) (by rw [end_peers, frame.peers]) end_air
  have whole := onward.trans last
  have released (h : s.air.emergency = false) : u.air.emergency = false := by rw [air]; exact h
  exact ⟨end_loader, whole.emergency.trans (by rw [air]), .trans (t := u) (.of_same (by rw [air]) (by rw [air])) whole.window,
    fun figured => whole.figured (.of_computes (by rw [air]; exact .refl _) (by rw [air]) loader figured),
    fun free _ => last.viewed (onward.emergency.trans (released free)) (judgedRegrant_viewed (released free) there),
    fun asserted => by rw [← air]; exact whole.held (by rw [air]; exact asserted),
    fun _ => last.judged (judged_shortfall _)⟩

theorem takeRestart_onward {k : Block} (other : k ≠ .air) (caught : s.Caught) (normal : s.isNormal = true) :
    AirOnward s (takeRestart k s) := by
  cases k with
  | air => exact absurd rfl other
  | intake =>
    rw [takeRestart, intakeRestart_of_caught caught]
    exact .of_same rfl rfl rfl
  | peers => exact peersRestart_onward normal
  | light => exact .of_same rfl rfl rfl
  | blind =>
    have frame := blindRestart_frame s
    exact .of_same frame.loader (by rw [takeRestart, frame.peers]) frame.air
  | panel => exact (endIfOn_onward .restart normal).trans (.of_same rfl rfl rfl)
  | clock | session | counter | alert => exact .of_same rfl rfl rfl

theorem takeRestart_walk (k : Block) (caught : s.Caught) (normal : s.isNormal = true) : AirWalk s (takeRestart k s) := by
  by_cases air : k = .air
  · subst air
    exact airRestart_walk normal
  · exact (takeRestart_onward air caught normal).walk

/-! ### The event, in NORMAL -/

/-- A restart in progress, in NORMAL and with no clock event held. -/
structure Refiguring (s u : State) : Prop where
  caught : u.Caught
  loader : u.loader = s.loader
  emergency : u.air.emergency = s.air.emergency
  now : u.now = s.now
  walk : AirWalk s u

theorem Refiguring.step (k : Block) (normal : s.isNormal = true) (h : Refiguring s u) : Refiguring s (takeRestart k u) := by
  have frame := takeRestart_frame k u
  have next := takeRestart_walk k h.caught ((isNormal_of_loader h.loader).trans normal)
  refine ⟨takeRestart_caught k h.caught, frame.loader.trans h.loader, frame.airEmergency.trans h.emergency, frame.now.trans h.now,
    h.walk.window.trans next.window, fun asserted => ?_⟩
  obtain ⟨grant, command⟩ := h.walk.held asserted
  obtain ⟨grant', command'⟩ := next.held (h.emergency.trans asserted)
  exact ⟨grant'.trans grant, command'.trans command⟩

theorem Refiguring.refl (caught : s.Caught) : Refiguring s s := ⟨caught, rfl, rfl, rfl, .refl s, fun _ => ⟨rfl, rfl⟩⟩

theorem restarts_refigure (normal : s.isNormal = true) (caught : s.Caught) :
    Refiguring s (fanOut otherBlocks takeRestart s) ∧ Refigured (fanOut otherBlocks takeRestart s) := by
  constructor
  · exact fanOut_keeps (Refiguring s) takeRestart (fun k _ => .step k normal) otherBlocks s (.refl caught)
  · refine fanOut_brings_under (act := takeRestart) (Q := Refiguring s) (P := Refigured) .air (fun k _ => .step k normal)
      (fun u amid => airRestart_refigured ((isNormal_of_loader amid.loader).trans normal))
      (fun k u other amid held => ?_) (mem_otherBlocks _) (.refl caught)
    exact (takeRestart_onward other amid.caught ((isNormal_of_loader amid.loader).trans normal)).refigured held

/-- Under an open rate window the trigger is pending (R114, R126). -/
theorem airRestart_pending (claims : s.claims = true) (opened : s.air.rateWindow ≠ none) :
    (airRestart s).air.pendingTrigger = true := by
  have settles := airRefigured_settles s
  have claimsThere : (airRefigured s).claims = true := by
    unfold State.claims State.isNormal
    rw [settles.loader]
    exact claims
  rw [airRestart_of_normal ((claims_iff s).1 claims).2, triggerClaim_of_open claimsThere (by rw [settles.rateWindow]; exact opened)]
  rfl

theorem restarts_pending {window : Nat} (claims : s.claims = true) (caught : s.Caught) (opened : s.air.rateWindow = some window) :
    (fanOut otherBlocks takeRestart s).air.pendingTrigger = true ∧ (fanOut otherBlocks takeRestart s).air.rateWindow = some window := by
  have normal := ((claims_iff s).1 claims).2
  have amid := (restarts_refigure normal caught).1
  refine ⟨?_, (amid.walk.window window opened).1⟩
  refine fanOut_brings_under (act := takeRestart) (Q := Refiguring s) (P := fun t => t.air.pendingTrigger = true) .air
    (fun k _ => .step k normal) (fun u amid => ?_) (fun k u _ amid held => ?_) (mem_otherBlocks _) (.refl caught)
  · refine airRestart_pending ?_ (by rw [(amid.walk.window window opened).1]; exact nofun)
    unfold State.claims State.isNormal
    rw [amid.loader]
    exact claims
  · have next := (takeRestart_walk k amid.caught ((isNormal_of_loader amid.loader).trans normal)).window
    exact (next window (amid.walk.window window opened).1).2 held

/-! ### The event, in FALLBACK (R125) -/

/-- The Air Controller but for its boost. -/
def Air.unboosted (a : Air) : Air := { a with boost := false }

theorem endIfOn_unboosted (cause : OverrideCause) (other : s.isNormal = false) : (endIfOn cause s).air.unboosted = s.air.unboosted := by
  have offset := returnOffset_only s.panel (resetOverride cause 0 s)
  have air : (returnOffset s.panel (resetOverride cause 0 s)).air = s.air := offset.air
  have loader : (returnOffset s.panel (resetOverride cause 0 s)).loader = s.loader := offset.toRoom.loader
  have boost : (returnBoost s.panel (returnOffset s.panel (resetOverride cause 0 s))).air.unboosted = s.air.unboosted := by
    refine ite_keeps (P := fun t => t.air.unboosted = s.air.unboosted) ?_ (by rw [air])
    unfold airBoost
    rw [recomputeDemand_of_fallback (by exact (isNormal_of_loader loader).trans other), State.setAir_air, air]
    rfl
  have target := returnTarget_blind_frame s.panel (returnBoost s.panel (returnOffset s.panel (resetOverride cause 0 s)))
  exact ite_keeps (P := fun t => t.air.unboosted = s.air.unboosted) ((congrArg Air.unboosted target.air).trans boost)
    (ite_keeps (P := fun t => t.air.unboosted = s.air.unboosted) rfl rfl)

theorem takeRestart_unboosted (k : Block) (caught : s.Caught) (other : s.isNormal = false) :
    (takeRestart k s).air.unboosted = s.air.unboosted := by
  cases k with
  | intake =>
    rw [takeRestart, intakeRestart_of_caught caught]
    rfl
  | peers =>
    obtain ⟨u, air, loader, -, -, end_air, -⟩ := peersRestart_air s
    rw [takeRestart, end_air, airClaimNotice_of_fallback ((isNormal_of_loader loader).trans other), air]
  | air => rw [takeRestart, airRestart_of_fallback other]
  | blind => exact congrArg Air.unboosted (blindRestart_frame s).air
  | panel => exact endIfOn_unboosted .restart other
  | light | clock | session | counter | alert => rfl

theorem restarts_fallback (caught : s.Caught) (other : s.isNormal = false) :
    (fanOut otherBlocks takeRestart s).air = { s.air with boost := (fanOut otherBlocks takeRestart s).air.boost } := by
  have kept := fanOut_keeps (fun t => t.Caught ∧ t.loader = s.loader ∧ t.air.unboosted = s.air.unboosted) takeRestart (fun k t held => by
    obtain ⟨there, loader, air⟩ := held
    exact ⟨takeRestart_caught k there, (takeRestart_frame k t).loader.trans loader,
      (takeRestart_unboosted k there ((isNormal_of_loader loader).trans other)).trans air⟩) otherBlocks s ⟨caught, rfl, rfl⟩
  generalize fanOut otherBlocks takeRestart s = t at *
  have whole : t.air = { t.air.unboosted with boost := t.air.boost } := rfl
  refine whole.trans ?_
  rw [kept.2.2]
  rfl

end Restart

end Sys2Proof.Machine
end

section
/-!
PROOFS. The CLAIM of a SERVICE RESTART under a closed rate window, in every order of the blocks (R112, R114, R123, R126).
-/

namespace Sys2Proof.Machine

section Restart

variable {s t u r : State} {n m : Nat}

/-! ### Beside the Air Controller's restart -/

/-- No CLAIM has been offered, the claim record, the rate window and the figures stand, and at most `n` feeder frames have joined beside the
FEEDER ENDs owed. -/
structure Aloof (n : Nat) (s t : State) : Prop extends Feeds n s t where
  record : t.air.record = s.air.record
  window : t.air.rateWindow = s.air.rateWindow
  figures : t.air.figures = s.air.figures

theorem Aloof.of_air (feeds : Feeds n s t) (air : t.air = s.air) : Aloof n s t := ⟨feeds, by rw [air], by rw [air], by rw [air]⟩

theorem Aloof.refl (s : State) : Aloof 0 s s := .of_air (.refl s) rfl

theorem Aloof.trans (h : Aloof n s t) (k : Aloof m t u) : Aloof (n + m) s u :=
  ⟨h.toFeeds.trans k.toFeeds, k.record.trans h.record, k.window.trans h.window, k.figures.trans h.figures⟩

theorem Aloof.weaken (h : Aloof n s t) (le : n ≤ m) : Aloof m s t := ⟨h.toFeeds.weaken le, h.record, h.window, h.figures⟩

theorem AirSettles.aloof (h : AirSettles s t) : Aloof 0 s t :=
  ⟨.of_same h.loader h.bus (by rw [h.blind]) (by rw [h.blind]), h.record, h.rateWindow, h.figures⟩

theorem airClaimNotice_aloof (s : State) : Aloof 0 s (airClaimNotice s) :=
  ite_keeps (P := Aloof 0 s) (judgedRegrant_settles s).aloof (.refl s)

theorem blindNotice_emptied_aloof (s : State) : Aloof 1 s (blindNotice .emptied s) :=
  .of_air ((recomputeGlare_settled_once s).feeds.weaken (askable_le s)) (blindNotice_frame .emptied s).air

theorem peersRestart_aloof (s : State) : Aloof 1 s (peersRestart s) := by
  have emptied : Aloof 0 s s.emptied := .of_air (.of_same rfl rfl rfl rfl) rfl
  exact (emptied.trans (peersRestart_elim (P := Aloof 1 s.emptied) ((airClaimNotice_aloof _).trans (blindNotice_emptied_aloof _))
    ((blindNotice_emptied_aloof _).trans (airClaimNotice_aloof _)))).weaken (Nat.le_refl 1)

/-- Without a boost, no block beside the Air Controller offers a CLAIM. -/
theorem takeRestart_aloof {k : Block} (other : k ≠ .air) (caught : s.Caught) (idle : s.panel.boost = false) :
    Aloof (restartCost k) s (takeRestart k s) ∧ (takeRestart k s).panel.boost = false := by
  have still {t : State} (feeds : Feeds (restartCost k) s t) (air : t.air = s.air) (panel : t.panel = s.panel) :
      Aloof (restartCost k) s t ∧ t.panel.boost = false := ⟨.of_air feeds air, by rw [panel]; exact idle⟩
  cases k with
  | air => exact absurd rfl other
  | intake =>
    rw [takeRestart, intakeRestart_of_caught caught]
    exact still (.of_same rfl rfl rfl rfl) rfl rfl
  | peers => exact ⟨peersRestart_aloof s, (congrArg Panel.boost (peersRestart_panel s) :).trans idle⟩
  | blind =>
    have frame := blindRestart_frame s
    exact still ((blindRestart_once s).feeds.weaken (askable_le s)) frame.air frame.panel
  | panel =>
    have blink : Feeds 0 (endIfOn .restart s) (panelRestart s) := .of_same rfl rfl rfl rfl
    have feeds : Feeds 1 s (panelRestart s) := ((endIfOn_feeds .restart idle).trans blink).weaken (askable_le s)
    exact ⟨.of_air feeds (endIfOn_air .restart idle), endIfOn_boost .restart idle⟩
  | light | clock | session | counter | alert => exact still (.of_same rfl rfl rfl rfl) rfl rfl

theorem forEach_restart_aloof : ∀ (blocks : List Block) (s : State), .air ∉ blocks → s.Caught → s.panel.boost = false →
    Aloof (blocks.map restartCost).sum s (forEach blocks takeRestart s) ∧ (forEach blocks takeRestart s).Caught ∧
      (forEach blocks takeRestart s).panel.boost = false
  | [], s, _, caught, idle => ⟨.refl s, caught, idle⟩
  | k :: rest, s, free, caught, idle => by
    rw [List.map_cons, List.sum_cons]
    obtain ⟨first, still⟩ := takeRestart_aloof (fun same => free (same ▸ List.mem_cons_self)) caught idle
    obtain ⟨later, last⟩ := forEach_restart_aloof rest (takeRestart k s) (fun mem => free (List.mem_cons_of_mem _ mem))
      (takeRestart_caught k caught) still
    exact ⟨first.trans later, last⟩

/-! ### The Air Controller's CLAIM -/

/-- The CLAIM a trigger offers: the current figures, or a withdrawal while the line is asserted (R112, R123). -/
def State.triggered (s : State) : Frame :=
  if s.air.emergency then s.claimFrame { demand := 0, minimum := 0, claimClass := 0 } true else s.claimFrame s.air.figures false

theorem triggered_kind (s : State) : s.triggered.kind = .claim := by
  unfold State.triggered
  split <;> rfl

/-- Under a closed rate window the CLAIM is offered at once, and opens it (R112, R123). -/
theorem offerClaim_triggers (s : State) : ∃ r : State, r.air.rateWindow = some (s.now + 2000) ∧
    (s.air.emergency = false → r.air.record = some s.air.figures) ∧ r.air.figures = s.air.figures ∧ r.bus = s.bus ∧
      r.loader = s.loader ∧ r.blind = s.blind ∧ r.panel = s.panel ∧ offerClaim s = offer s.triggered r := by
  cases asserted : s.air.emergency with
  | true =>
    refine ⟨s.setAir { s.air with rateWindow := some (s.now + 2000) }, rfl, (nomatch ·), rfl, rfl, rfl, rfl, rfl, ?_⟩
    rw [offerClaim_of_asserted asserted, offerWithdrawal_eq, State.triggered, if_pos asserted]
  | false =>
    refine ⟨s.setAir { s.air with
      record := some s.air.figures, rateWindow := some (s.now + 2000), refreshTimer := some (s.now + 30000) },
      rfl, fun _ => rfl, rfl, rfl, rfl, rfl, rfl, ?_⟩
    rw [offerClaim_of_released asserted, offerFigures_eq, State.triggered, if_neg (by simp [asserted])]

theorem airRestart_triggers (claims : s.claims = true) (closed : s.air.rateWindow = none) :
    ∃ r : State, r.air.rateWindow = some (s.now + 2000) ∧
      (s.air.emergency = false → r.air.record = some (airRefigured s).air.figures) ∧ r.air.figures = (airRefigured s).air.figures ∧
      r.bus = s.bus ∧ r.loader = s.loader ∧ r.blind = s.blind ∧ airRestart s = offer (airRefigured s).triggered r := by
  have settles := airRefigured_settles s
  have claimsThere : (airRefigured s).claims = true := by
    unfold State.claims State.isNormal
    rw [settles.loader]
    exact claims
  have emergency : (airRefigured s).air.emergency = s.air.emergency := settles.airEmergency
  have now : (airRefigured s).now = s.now := settles.now
  obtain ⟨r, window, record, figures, bus, loader, blind, -, offered⟩ := offerClaim_triggers (airRefigured s)
  rw [emergency] at record
  refine ⟨r, by rw [window, now], record, figures, bus.trans settles.bus, loader.trans settles.loader, blind.trans settles.blind, ?_⟩
  rw [airRestart_of_normal ((claims_iff s).1 claims).2,
    triggerClaim_of_closed claimsThere (settles.rateWindow.trans closed), offered]

/-- Where no CLAIM waits, one that is taken between runs of feeder frames waits as it was offered. -/
theorem Feeds.claim_joins {f : Frame} (first : Feeds n s u) (last : Feeds m (offer f r) t) (bus : r.bus = u.bus)
    (loader : r.loader = u.loader) (blind : r.blind = u.blind) (claim : f.kind = .claim) (spare : Spare (n + m) s)
    (taken : s.takesOffer .claim = true) (none : ∀ g ∈ s.bus.queue, g.kind ≠ .claim) : f ∈ t.bus.queue := by
  have room : Spare m u := first.books.spare spare
  have bid : Bids r (offer f r) := ⟨(offer_frame f r).loader, (offer_frame f r).blind, .inr ⟨f, claim, rfl⟩⟩
  have spared : Spare m r := by
    refine ⟨bus ▸ room.busy, ?_⟩
    rw [bus, owed_of_same loader (by rw [blind]) (by rw [blind])]
    exact room.room
  obtain ⟨before, -⟩ := first.claims (spare.less (by omega))
  have free : ∀ g ∈ r.bus.queue, g.kind ≠ .claim := fun g mem own => none g ((before g own).1 (bus ▸ mem)) own
  obtain ⟨after, -⟩ := last.claims (bid.books.spare (by rw [Nat.zero_add]; exact spared))
  refine (after f claim).2 ?_
  rcases offer_claim claim (by rw [claim, takesOffer_of_loader (loader.trans first.loader)]; exact taken) (spared.less (Nat.zero_le _)) with
    ⟨left, w, right, split, waits, -⟩ | ⟨-, entered⟩
  · exact absurd waits (free w (by rw [split]; exact List.mem_append_right _ List.mem_cons_self))
  · rw [entered]
    exact List.mem_append_right _ List.mem_cons_self

/-- Under a closed rate window, and without a boost, the CLAIM opens the window and waits in a queue with room. -/
theorem restarts_claim (claims : s.claims = true) (caught : s.Caught) (closed : s.air.rateWindow = none) (idle : s.panel.boost = false) :
    (fanOut otherBlocks takeRestart s).air.rateWindow = some (s.now + 2000) ∧
      (s.air.emergency = false → (fanOut otherBlocks takeRestart s).air.record = some (fanOut otherBlocks takeRestart s).air.figures) ∧
      (Spare 3 s → s.takesOffer .claim = true → (∀ g ∈ s.bus.queue, g.kind ≠ .claim) →
        ∃ f ∈ (fanOut otherBlocks takeRestart s).bus.queue,
          (s.air.emergency = false → f = s.claimFrame (fanOut otherBlocks takeRestart s).air.figures false) ∧
          (s.air.emergency = true → f.kind = .claim ∧ s.withdraws f)) := by
  obtain ⟨before, after, notBefore, notAfter, order, split⟩ := restarts_split .air s
  obtain ⟨first, there, calm⟩ := forEach_restart_aloof before s notBefore caught idle
  have frame : RestartFrame s (forEach before takeRestart s) := forEach_rel RestartFrame .refl .trans _ takeRestart_frame before s
  generalize forEach before takeRestart s = u at *
  have claimsThere : u.claims = true := by
    unfold State.claims State.isNormal
    rw [first.loader]
    exact claims
  obtain ⟨r, window, record, figures, bus, loader, blind, offered⟩ := airRestart_triggers claimsThere (first.window.trans closed)
  have sent : (takeRestart .air u).air = r.air := (congrArg State.air offered).trans (offer_frame _ r).air
  have boost : (takeRestart .air u).panel.boost = false := (congrArg Panel.boost (airRestart_frame u).panel :).trans calm
  obtain ⟨last, -, -⟩ := forEach_restart_aloof after (takeRestart .air u) notAfter (takeRestart_caught .air there) boost
  have total : (before.map restartCost).sum + (after.map restartCost).sum = 3 := by
    have cost := restartCost_sum order
    rw [List.map_append, List.sum_append, List.map_cons, List.sum_cons] at cost
    have free : restartCost .air = 0 := rfl
    omega
  rw [split]
  have final : (forEach after takeRestart (takeRestart .air u)).air.figures = (airRefigured u).air.figures := by
    rw [last.figures, sent, figures]
  rw [frame.airEmergency, ← final] at record
  refine ⟨by rw [last.window, sent, window, frame.now], fun released => by rw [last.record, sent]; exact record released,
    fun spare taken none => ?_⟩
  have feeds := last.toFeeds
  rw [show takeRestart .air u = _ from offered] at feeds
  refine ⟨(airRefigured u).triggered, ?_, fun released => ?_, fun asserted => ⟨triggered_kind _, ?_⟩⟩
  · have joined := first.toFeeds.claim_joins feeds bus loader blind (triggered_kind _) (total ▸ spare) taken none
    rwa [← show takeRestart .air u = _ from offered] at joined
  · have emergency : (airRefigured u).air.emergency = false := (airRefigured_settles u).airEmergency.trans (frame.airEmergency.trans released)
    rw [State.triggered, if_neg (by simp [emergency]), ← final]
    unfold State.claimFrame
    rw [(airRefigured_settles u).loader, show (computeDemand u).loader = u.loader from rfl, frame.loader]
  · have emergency : (airRefigured u).air.emergency = true := (airRefigured_settles u).airEmergency.trans (frame.airEmergency.trans asserted)
    rw [State.triggered, if_pos emergency]
    unfold State.claimFrame
    rw [(airRefigured_settles u).loader, show (computeDemand u).loader = u.loader from rfl, frame.loader]
    rfl

end Restart

end Sys2Proof.Machine
end

section
/-!
PROOFS. What a SERVICE RESTART empties, keeps, releases and starts anew (R9, R10, R27, R42, R71, R90, R126, R140, R163, R173, R180).
-/

namespace Sys2Proof.Machine

section Restart

variable {s : State}

/-- A message to the station alone is accepted at its working address (R16, R17). -/
theorem addressed_of_accepts {source dest : Byte} (accepted : s.accepts source dest false = true) :
    s.started = true ∧ s.loader.address = some dest := by
  obtain ⟨up, -, addressed⟩ := (accepts_iff s source dest false).1 accepted
  exact ⟨up, by simpa [State.acceptsDest] using addressed⟩

/-- The occupancy catch-up of a restart, where no clock event is held (R59, R71). -/
theorem restarts_catchUp (events : s.intake.heldEvents = []) (due : s.session.catchUp = true) :
    (fanOut otherBlocks takeRestart s).session.lastMinute = s.session.lastMinute ∧
      (fanOut otherBlocks takeRestart s).session.entries =
        (s.session.entries.map (fun e => if e.state = .active ∧ 0 < s.counter.count then
          { e with seen := true, peak := max e.peak s.counter.count } else e)).filterMap
          (fun e => if e.state = .active ∧ e.seen = true ∧ s.counter.vacant = true then (e.finish .earlyRelease).kept else some e) := by
  obtain ⟨r, table, released⟩ := restarts_release s
  have session : r.session = s.session := table.session
  have counter : r.counter = s.counter := table.toRestart.counter
  obtain ⟨-, last, entries⟩ := catchUp_session_of_due (s := r) (by rw [session]; exact due)
  rw [events] at released
  have same : (fanOut otherBlocks takeRestart s).session = (catchUp r).session := released
  rw [same, last, entries, releasedIf_eq, caughtUp_session, session, counter]
  exact ⟨rfl, rfl⟩

/-- The Air Controller after a restart, in NORMAL, with the CLAIM of a station on a trunk. -/
theorem restarts_air (normal : s.isNormal = true) (caught : s.Caught) :
    let t := fanOut otherBlocks takeRestart s
    t.air.demand = t.air.demandNow s.loader.settings ∧ t.air.minimum = t.air.minimumNow s.loader.settings ∧
      (s.air.emergency = false → t.air.grant = t.grantNow ∧ t.air.command = commandFor s.loader.settings t.air.grant) ∧
      (s.air.emergency = true → t.air.grant = s.air.grant ∧ t.air.command = s.air.command) ∧ t.air.shortfall = t.air.shortNow := by
  obtain ⟨amid, refigured⟩ := restarts_refigure normal caught
  dsimp only
  generalize fanOut otherBlocks takeRestart s = t at *
  obtain ⟨demand, minimum⟩ := refigured.figured
  rw [amid.loader] at demand minimum
  refine ⟨demand, minimum, fun released => ?_, amid.walk.held, refigured.judged⟩
  obtain ⟨grant, command⟩ := refigured.viewed (amid.emergency.trans released)
  rw [amid.loader] at command
  exact ⟨grant, command⟩

end Restart

/-- Settles O58: the Bus Port is emptied first, and then every block takes the restart, in whatever order. -/
theorem restartsEmptyAndKeep : Obligations.RestartsEmptyAndKeep := by
  rintro s cut source dest accepted busy rfl
  obtain ⟨up, addressed⟩ := addressed_of_accepts accepted
  have emptied := cutOff_eq addressed up busy
  have exec_restart : exec (.serviceRestart source dest) s = .next (fanOut otherBlocks takeRestart s.cutOff) :=
    congrArg Host.Outcome.next (if_pos accepted)
  rw [emptied] at exec_restart
  obtain ⟨b, bus⟩ : ∃ b : BusPort, b = { s.bus with
      queue := [s.identity dest], transmitter := .idle, attempts := 0, hold := true
      quietTimer := if s.bus.transmitter.isSending then some (s.now + 2) else s.bus.quietTimer } := ⟨_, rfl⟩
  rw [← bus] at exec_restart
  have line : b.line = .busy := by rw [bus]; exact busy
  have queue : b.queue = [s.identity dest] := by rw [bus]
  have hold : b.hold = true := by rw [bus]
  have frame := restarts_frame (s.setBus b)
  have silent := restarts_silent (s := s.setBus b) ⟨line, by rw [State.setBus_bus, bus], by rw [State.setBus_bus, bus]⟩
  have unpressed := restarts_unpressed (s.setBus b)
  obtain ⟨r, table, released⟩ := restarts_release (s.setBus b)
  have core : CoreFrame (s.setBus { s.bus with
      quietTimer := if s.bus.transmitter.isSending then some (s.now + 2) else s.bus.quietTimer }) (s.setBus b) := by
    rw [bus]
    exact { CoreFrame.refl _ with }
  refine ⟨_, exec_restart, core.trans frame.toCoreFrame, frame.clock, frame.counter, silent.2.1, silent.2.2, restarts_intake _,
    restarts_peers _, restarts_notFull _, unpressed.1, unpressed.2, restarts_alerts (s.setBus b), ⟨r, ?_, released⟩, ?_,
    fun earlier minute held => ?_, fun earlier _ _ minute _ _ held => ?_, restarts_catchUp (s := s.setBus b),
    fun events clear => ?_, restarts_asserted (s := s.setBus b)⟩
  · subst bus
    have moved : RoomFrame ((State.released _).setPeers r.peers) r := table
    exact { moved with }
  · rw [released]
    exact releases_catchUp _ _
  · rw [released, State.setBus_intake, held, releases_last]
    rfl
  · rw [released, State.setBus_intake, held, releases_last]
    rfl
  have caught : (s.setBus b).Caught := ⟨clear, events⟩
  refine ⟨restarts_caught_session caught, restarts_light_eq caught, fun law => ?_, fun free => ?_, restarts_record_of_on caught,
    restarts_record_of_off caught, fun few => restarts_queue (s := s.setBus b) addressed line queue hold few caught,
    restarts_fallback caught, fun normal => ?_⟩
  · have held : RoomLaw (restart s) := roomLaw_stationKeeps.restart up law
    rw [restart_eq, emptied, ← bus] at held
    exact held.unadjusted unpressed.1
  · have blind := restarts_blind (s := s.setBus b) free caught line queue rfl (by rw [State.setBus_loader, addressed]; exact nofun)
    exact { blind with }
  · obtain ⟨demand, minimum, grant, kept, shortfall⟩ := restarts_air (s := s.setBus b) normal caught
    refine ⟨demand, minimum, grant, kept, shortfall, fun trunk => ?_⟩
    have claims : (s.setBus b).claims = true := (claims_iff _).2 ⟨trunk, normal⟩
    refine ⟨fun window opened => restarts_pending claims caught opened, fun closed idle => ?_⟩
    obtain ⟨window, record, waits⟩ := restarts_claim claims caught closed idle
    refine ⟨window, record, fun address few => ?_⟩
    have none : ∀ g ∈ b.queue, g.kind ≠ .claim := by
      rw [queue]
      intro g mem
      rw [List.mem_singleton.1 mem]
      exact nofun
    obtain ⟨f, mem, figures, withdraws⟩ := waits (spare_of_identity line queue few)
      (takesOffer_of_normal (Option.isSome_iff_ne_none.2 address) normal .claim) none
    have loader := frame.loader
    generalize fanOut otherBlocks takeRestart (s.setBus b) = t at *
    refine ⟨f, mem, fun free => ?_, fun asserted => ?_⟩
    · rw [figures free]
      unfold State.claimFrame
      rw [loader]
    · unfold State.withdraws at withdraws ⊢
      rw [loader]
      exact withdraws asserted

end Sys2Proof.Machine
end
